-- ==== Sys2Proof/Word.lean ====
section
/-! DEFINITION. The bytes of the two links, the numbers by which the FD-24 names its parts (00_scope 0.8), and a
table of a fixed number of like records, held as a list so that it stays plain data. -/

namespace Sys2Proof

/-- One byte on the message line or on a trunk. -/
abbrev Byte := BitVec 8

/-- A trunk, 0 for A and 1 for B (R178). -/
abbrev Trunk := Fin 2

/-- A drop address 0..31 on one trunk. -/
abbrev Drop := Fin 32

/-- A zone 0..23. -/
abbrev ZoneId := Fin 24

/-- A leak channel 0..7. -/
abbrev ChannelId := Fin 8

/-- An output line 0..3. -/
abbrev LineId := Fin 4

/-- A place of the Event List 0..15 (R127). -/
abbrev Place := Fin 16

/-- A survey order slot 0..3 (R32). -/
abbrev SlotId := Fin 4

/-- The address of a probe record: trunk and drop (R41). -/
structure Addr where
  trunk : Trunk
  drop  : Drop
  deriving DecidableEq, Repr

/-- The position of an address in ascending order of trunk and then drop (R60). -/
def Addr.idx (a : Addr) : Fin 64 := ⟨32 * a.trunk.val + a.drop.val, by omega⟩

/-- The 64 addresses in ascending order of trunk and then drop: A00 to A31, then B00 to B31 (R60). -/
def allAddrs : List Addr :=
  (List.finRange 2).flatMap fun t => (List.finRange 32).map fun d => ⟨t, d⟩

/-- A fixed number of like records, addressed by number. -/
structure Table (α : Type) (n : Nat) where
  items   : List α
  size_eq : items.length = n
  deriving DecidableEq, Repr

variable {α β : Type} {n : Nat}

/-- The record numbered i. -/
def Table.get (t : Table α n) (i : Fin n) : α := t.items[i.val]'(by rw [t.size_eq]; exact i.isLt)

/-- The table with record i replaced. -/
def Table.set (t : Table α n) (i : Fin n) (x : α) : Table α n :=
  ⟨t.items.set i.val x, by rw [List.length_set, t.size_eq]⟩

/-- Every record put through f. -/
def Table.map (t : Table α n) (f : α → β) : Table β n :=
  ⟨t.items.map f, by rw [List.length_map, t.size_eq]⟩

/-- The table that holds x at every number. -/
def Table.all (n : Nat) (x : α) : Table α n := ⟨List.replicate n x, List.length_replicate⟩

/-- The table that holds f i at number i. -/
def Table.ofFn (f : Fin n → α) : Table α n :=
  ⟨(List.finRange n).map f, by rw [List.length_map, List.length_finRange]⟩

end Sys2Proof
end

