-- ==== Sys2Proof/Syntax.lean ====
section
/-! DEFINITION. The commands of the FD-24: one constructor for each row of spec/opcode_table.json, in the table's
order. A request row carries its tag and its payload bytes as the frame brings them (R159, R180), so that the length
check and the codes and sentinels of R163, R177 and R178 are judged by the model. A field event carries what the
field delivers with it. -/

namespace Sys2Proof

/-- A command. The rule of each is the rule its row of the table names. -/
inductive Instr where
  /-- POWER_ON (R174). -/
  | powerOn
  /-- SETTINGS_LOAD (R173). -/
  | settingsLoad
  /-- FRAME_ARRIVAL (R161): bytes received on the receive pair, in order. -/
  | frameArrival (bytes : List Byte)
  /-- FRAME_GAP_TIMEOUT (R160). -/
  | frameGapTimeout
  /-- FRAME_SENT (R164). -/
  | frameSent
  /-- UNKNOWN_KIND (R163): execution of a request whose KIND is no request kind. -/
  | unknownKind (kind tag : Byte) (payload : List Byte)
  /-- IDENTIFY (R169). -/
  | identify (tag : Byte) (payload : List Byte)
  /-- SUMMARY (R170). -/
  | summary (tag : Byte) (payload : List Byte)
  /-- KEEP_SETTINGS (R172): the start of its execution. -/
  | keepSettings (tag : Byte) (payload : List Byte)
  /-- KEEP_SETTINGS_DONE (R172): whether the image read back agrees with what was written. -/
  | keepSettingsDone (readBackAgrees : Bool)
  /-- WARM_RESTART (R175). -/
  | warmRestart (tag : Byte) (payload : List Byte)
  /-- WARM_RESTART_RESET (R175). -/
  | warmRestartReset
  /-- NOTICE_MASK (R168): the enables of zone, event, probe, trunk and leak. -/
  | noticeMask (tag : Byte) (payload : List Byte)
  /-- DEFINE_PROBE (R42, R43): trunk, drop, kind, T trim (2), RH trim (2). -/
  | defineProbe (tag : Byte) (payload : List Byte)
  /-- RETIRE_PROBE (R44): trunk, drop. -/
  | retireProbe (tag : Byte) (payload : List Byte)
  /-- PROBE_QUERY (R55): trunk, drop. -/
  | probeQuery (tag : Byte) (payload : List Byte)
  /-- TRUNK_RESTART (R16): trunk. -/
  | trunkRestart (tag : Byte) (payload : List Byte)
  /-- TRUNK_SETUP (R17): trunk, retries, halt threshold, probe fault threshold. -/
  | trunkSetup (tag : Byte) (payload : List Byte)
  /-- SCAN_SETUP_CONTINUOUS (R26): mode, period (2), max reading age (2). -/
  | scanSetupContinuous (tag : Byte) (payload : List Byte)
  /-- SCAN_SETUP_SINGLE (R27): mode, period (2), max reading age (2). -/
  | scanSetupSingle (tag : Byte) (payload : List Byte)
  /-- SCAN_SETUP_STOPPED (R28): mode, period (2), max reading age (2). -/
  | scanSetupStopped (tag : Byte) (payload : List Byte)
  /-- PERIOD_START (R23). -/
  | periodStart
  /-- SURVEY (R33, R34): segment count, then the segments of trunk, first drop, count. -/
  | survey (tag : Byte) (payload : List Byte)
  /-- SURVEY_CANCEL (R38): tag of the survey. -/
  | surveyCancel (tag : Byte) (payload : List Byte)
  /-- MAP_POINT (R62): trunk, drop, zone. -/
  | mapPoint (tag : Byte) (payload : List Byte)
  /-- MAP_SPAN (R63): trunk, base, size, zone. -/
  | mapSpan (tag : Byte) (payload : List Byte)
  /-- UNMAP_POINT (R64): trunk, drop. -/
  | unmapPoint (tag : Byte) (payload : List Byte)
  /-- UNMAP_SPAN (R65): trunk, base, size. -/
  | unmapSpan (tag : Byte) (payload : List Byte)
  /-- MAP_QUERY (R69). -/
  | mapQuery (tag : Byte) (payload : List Byte)
  /-- ZONE_SETUP (R89, R90): the seventeen bytes of R180. -/
  | zoneSetup (tag : Byte) (payload : List Byte)
  /-- ZONE_ON (R91): zone. -/
  | zoneOn (tag : Byte) (payload : List Byte)
  /-- ZONE_OFF (R92): zone. -/
  | zoneOff (tag : Byte) (payload : List Byte)
  /-- ZONE_QUERY (R107): zone. -/
  | zoneQuery (tag : Byte) (payload : List Byte)
  /-- LEAK_SETUP_ENABLE (R120): channel, enable, Dw (2), Hy (2). -/
  | leakSetupEnable (tag : Byte) (payload : List Byte)
  /-- LEAK_SETUP_DISABLE (R120): channel, enable, Dw (2), Hy (2). -/
  | leakSetupDisable (tag : Byte) (payload : List Byte)
  /-- LEAK_RECALIBRATE (R121): channel. -/
  | leakRecalibrate (tag : Byte) (payload : List Byte)
  /-- LEAK_QUERY (R123): channel. -/
  | leakQuery (tag : Byte) (payload : List Byte)
  /-- LINE_SETUP (R154, R155): line, mode, zone mask (4), trigger grade, polarity, failsafe. -/
  | lineSetup (tag : Byte) (payload : List Byte)
  /-- LINE_RELEASE (R151): line. -/
  | lineRelease (tag : Byte) (payload : List Byte)
  /-- LINE_QUERY (R156): line. -/
  | lineQuery (tag : Byte) (payload : List Byte)
  /-- EVENT_LIST (R141). -/
  | eventList (tag : Byte) (payload : List Byte)
  /-- EVENT_QUERY (R141): event number (2). -/
  | eventQuery (tag : Byte) (payload : List Byte)
  /-- EVENT_ACK (R139): event number (2). -/
  | eventAck (tag : Byte) (payload : List Byte)
  /-- GAP_EXPIRY (R8): the 2 ms gap of one trunk has run out. -/
  | gapExpiry (trunk : Trunk)
  /-- TRANSACTION_OPEN (R4): the query's last byte has been sent. -/
  | transactionOpen (trunk : Trunk)
  /-- ANSWER_RECEIVED (R5): the seven answer characters. -/
  | answerReceived (trunk : Trunk) (bytes : List Byte)
  /-- ANSWER_TIMEOUT (R4): the characters received before the timeout, fewer than seven. -/
  | answerTimeout (trunk : Trunk) (bytes : List Byte)
  /-- AGE_EXPIRY (R51): the probe whose awaited age expiry has come. -/
  | ageExpiry (addr : Addr)
  /-- DWELL_EXPIRY (R102): the zone whose dwell has run out. -/
  | dwellExpiry (zone : ZoneId)
  /-- DUTY_FRAME_START (R153). -/
  | dutyFrameStart
  /-- DUTY_ON_TIME_END (R153): the line whose on-time within the frame has run out. -/
  | dutyOnTimeEnd (line : LineId)
  /-- ROUND_START (R112). -/
  | roundStart
  /-- GATE_CLOSE (R111): the oscillator cycles of the gate that closes. -/
  | gateClose (cycles : Nat)
  /-- POWER_LOSS (R172): whether a settings write under way had ended (its read-back was running). -/
  | powerLoss (writeEnded : Bool)
  /-- UPTIME_SECOND (R101). -/
  | uptimeSecond
  deriving DecidableEq, Repr

end Sys2Proof
end

