-- ==== Sys2Proof/Decode.lean ====
section
/-! DEFINITION. The commands that a word spells by the opcode table's bits. No row of spec/opcode_table.json gives
bits (98_reader.md: "n_rows_unread": 55), so no word spells a command (assumption 25). The block's own encoding, the
message frame of R159 and the payloads of R180, is judged in Machine/Ops.lean and the meanings. -/

namespace Sys2Proof

/-- The command that the table's bits of a word spell: none, since no row has bits. -/
def decodeTableWord (_nbits _w : Nat) : Option Instr := none

end Sys2Proof
end

