-- ==== Sys2Proof/Machine/State.lean ====
section
/-! DEFINITION. Everything the spec gives the FD-24 to hold, block by block (00_scope 0.3), and the part right after
power has been applied (R174). INVENTORY.md lists each field with its rule and reset value. -/

namespace Sys2Proof.Machine

/-! ### Names of kinds and states (R178) -/

/-- Probe kinds (R41). -/
inductive Kind where
  | air | surface
  deriving DecidableEq, Repr

/-- States of a probe record (R41). -/
inductive ProbeState where
  | undefined | active | suspect | faulted
  deriving DecidableEq, Repr

/-- Outcomes of attempts and items (00_scope 0.9, R5, R12, R14). -/
inductive ProbeOutcome where
  | good | tainted | notReady | noAnswer | badCheck | kindMismatch | notReadyLimit | trunkHalted
  deriving DecidableEq, Repr

/-- Scan modes (R22). SINGLE is held for no measurable time (R27). -/
inductive ScanMode where
  | stopped | continuous | single
  deriving DecidableEq, Repr

/-- Zone grades (R88). -/
inductive Grade where
  | off | stale | clear | watch | alarm | wet
  deriving DecidableEq, Repr

/-- Source of a zone's S (R94). -/
inductive SurfaceSource where
  | probe | design
  deriving DecidableEq, Repr

/-- A zone's dwell with its remaining seconds (R88, R101); due says that its last second has passed, and its expiry
comes before another second (assumption 19). -/
inductive Dwell where
  | none | rise (remaining : Nat) (due : Bool) | fall (remaining : Nat) (due : Bool)
  deriving DecidableEq, Repr

/-- States of a leak channel (R110). -/
inductive LeakState where
  | off | calibrating | dry | wet | opened | short
  deriving DecidableEq, Repr

/-- Round rates (R110). -/
inductive Rate where
  | slow | fast
  deriving DecidableEq, Repr

/-- Kinds of an event record (R126). -/
inductive EventKind where
  | condensation | water
  deriving DecidableEq, Repr

/-- States of an event record (R126). -/
inductive EventState where
  | opened | acked | cleared
  deriving DecidableEq, Repr

/-- Why a record's condition fell (R126). -/
inductive ClearCause where
  | gradeFell | zoneOff
  deriving DecidableEq, Repr

/-- Line modes (R145). -/
inductive LineMode where
  | off | follow | latch | proportional
  deriving DecidableEq, Repr

/-- Trigger grades of a line (R145). -/
inductive Trigger where
  | watch | alarm | wet
  deriving DecidableEq, Repr

/-- Polarities of a line (R145). -/
inductive Polarity where
  | activeHigh | activeLow
  deriving DecidableEq, Repr

/-- What a line is doing (R145). -/
inductive Drive where
  | undriven | active | inactive
  deriving DecidableEq, Repr

/-! ### Trunk Engines (01_probe_trunks.md) -/

/-- The values of a GOOD or TAINTED answer as the engine accepted them (R6). -/
structure RawReading where
  temp      : Int
  rh        : Option Nat
  saturated : Bool
  wet       : Bool
  deriving DecidableEq, Repr

/-- An attempt result (R6), with the uptime second in which the transaction ended. -/
structure AttemptResult where
  outcome : ProbeOutcome
  kind    : Option Kind
  reading : Option RawReading
  time    : Nat
  deriving DecidableEq, Repr

/-- The origin of an item; a SURVEY item names its order's slot and its point index (R7). -/
inductive Origin where
  | scan | survey (slot : SlotId) (point : Nat)
  deriving DecidableEq, Repr

/-- One unit of work of a trunk (R7), with the result of its latest attempt, which is kept until the item leaves the
trunk: in flight, and back in the wait list too (R6, R11). -/
structure Item where
  drop     : Drop
  origin   : Origin
  attempts : Nat
  notReady : Nat
  latest   : Option AttemptResult
  deriving DecidableEq, Repr

/-- What the engine is doing on the cable: nothing, sending a query's bytes, listening in an open transaction, or
running the 2 ms gap (R2, R4); the two stranded states belong to an item abandoned at Warm Restart (R21). -/
inductive Link where
  | ready
  | sending (query : List Byte)
  | listening
  | gap
  | strandedSending (query : List Byte)
  | strandedListening
  deriving DecidableEq, Repr

/-- A trunk's three settings (section 1.7). -/
structure TrunkSettings where
  retries        : Nat
  haltThreshold  : Nat
  faultThreshold : Nat
  deriving DecidableEq, Repr

/-- One Trunk Engine. -/
structure Engine where
  waitList       : List Item
  inFlight       : Option Item
  failures       : Nat
  halted         : Bool
  settings       : TrunkSettings
  /-- The settings in force for the present attempt (R18). -/
  attempt        : TrunkSettings
  link           : Link
  deriving DecidableEq, Repr

/-! ### Scan Timer and Survey Unit (02_scanning_and_surveys.md) -/

/-- The Scan Timer (R22). -/
structure ScanTimer where
  mode      : ScanMode
  active    : Nat
  next      : Option Nat
  countdown : Option Nat
  /-- The last second of the countdown has passed, and its expiry comes before another second (assumption 19). -/
  due       : Bool
  maxAge    : Nat
  deriving DecidableEq, Repr

/-- A settled point: its final outcome, with the attempt result if one came (R35). -/
structure PointOutcome where
  outcome : ProbeOutcome
  result  : Option AttemptResult
  deriving DecidableEq, Repr

/-- A held survey order (R32). -/
structure SurveyOrder where
  tag         : Byte
  points      : List Addr
  outcomes    : List (Option PointOutcome)
  outstanding : Nat
  deriving DecidableEq, Repr

/-- An order slot (R32). -/
inductive OrderSlot where
  | free | held (order : SurveyOrder) | closing (count : Nat) | reporting
  deriving DecidableEq, Repr

/-! ### Probe Table (03_the_probe_table.md) -/

/-- What the installer declared of a probe (R41). -/
structure ProbeConfig where
  kind   : Kind
  tTrim  : Int
  rhTrim : Int
  deriving DecidableEq, Repr

/-- A stored reading (R41). -/
structure Reading where
  temp      : Int
  rh        : Option Nat
  rawTemp   : Int
  rawRh     : Option Nat
  saturated : Bool
  tainted   : Bool
  taken     : Nat
  deriving DecidableEq, Repr

/-- A dew point with its two flags (R73). -/
structure Dew where
  td             : Int
  tempOutOfRange : Bool
  dewBelowRange  : Bool
  deriving DecidableEq, Repr

/-- A probe record (R41); it is defined exactly while its configuration is present. -/
structure ProbeRecord where
  config   : Option ProbeConfig
  state    : ProbeState
  failures : Nat
  last     : Option ProbeOutcome
  mismatch : Option Kind
  reading  : Option Reading
  dew      : Option Dew
  df       : Option Int
  /-- The uptime second of the awaited age expiry (R51). -/
  expiry   : Option Nat
  deriving DecidableEq, Repr

/-! ### Zone Map (04_the_zone_map.md) -/

/-- A span entry (R57). -/
structure Span where
  trunk : Trunk
  base  : Nat
  size  : Nat
  zone  : ZoneId
  deriving DecidableEq, Repr

/-- The map: the zone of the single entry of each address, if it has one, and the span entries in ascending order of
trunk and base (R57, R69). -/
structure ZoneMap where
  singles : Table (Option ZoneId) 64
  spans   : List Span
  deriving DecidableEq, Repr

/-! ### Zone Evaluator (06_zone_grades.md) -/

/-- A zone's configuration but for enabled (R87). -/
structure ZoneConfig where
  w          : Int
  a          : Int
  h          : Int
  riseDwell  : Nat
  fallDwell  : Nat
  weight     : Nat
  design     : Option Int
  leakMask   : BitVec 8
  wetElement : Bool
  depth      : Nat
  deriving DecidableEq, Repr

/-- A surface temperature with its source (R88). -/
structure Surface where
  value  : Int
  source : SurfaceSource
  deriving DecidableEq, Repr

/-- A zone record (R87, R88). -/
structure ZoneRecord where
  enabled  : Bool
  cfg      : ZoneConfig
  grade    : Grade
  d        : Option Int
  s        : Option Surface
  m        : Option Int
  dwell    : Dwell
  air      : Nat
  surfaces : Nat
  deriving DecidableEq, Repr

/-! ### Leak Sense Unit (07_leak_sense_channels.md) -/

/-- A leak channel record (R110). -/
structure Channel where
  enabled  : Bool
  dw       : Nat
  hy       : Nat
  baseline : Option Nat
  state    : LeakState
  streak   : Nat
  calSum   : Nat
  calCount : Nat
  last     : Option Nat
  deriving DecidableEq, Repr

/-- The Leak Sense Unit (R110); discard says that the open gate's count is to be discarded (R122). -/
structure LeakUnit where
  channels    : Table Channel 8
  applied     : Rate
  countdown   : Nat
  activeZones : Nat
  wetChannels : Nat
  position    : Option ChannelId
  discard     : Bool
  deriving DecidableEq, Repr

/-! ### Event List (08_condensation_events.md) -/

/-- An entry of a capture (R131). -/
structure Capture where
  addr    : Addr
  kind    : Kind
  temp    : Option Int
  rh      : Option Nat
  age     : Option Nat
  valid   : Bool
  tainted : Bool
  deriving DecidableEq, Repr

/-- An event record (R126). -/
structure EventRecord where
  number        : Nat
  zone          : ZoneId
  kind          : EventKind
  state         : EventState
  openedAt      : Nat
  clearedAt     : Option Nat
  cause         : Option ClearCause
  worst         : Option Int
  reEscalations : Nat
  lateOpened    : Bool
  dataLost      : Bool
  d             : Option Int
  s             : Option Int
  m             : Option Int
  capture       : List Capture
  deriving DecidableEq, Repr

/-- A place of the Event List: its record, and the number and zone of the last record removed from it (R127). -/
structure PlaceRecord where
  record : Option EventRecord
  last   : Option (Nat × ZoneId)
  deriving DecidableEq, Repr

/-- The Event List (R126 to R128, R133). -/
structure EventList where
  places     : Table PlaceRecord 16
  order      : List Place
  nextNumber : Nat
  pending    : Table (Option EventKind) 24
  deriving DecidableEq, Repr

/-! ### Output Unit (09_output_lines.md) -/

/-- A line's configuration (R145). -/
structure LineConfig where
  mode     : LineMode
  mask     : BitVec 24
  trigger  : Trigger
  polarity : Polarity
  failsafe : Bool
  deriving DecidableEq, Repr

/-- A line record (R145). -/
structure LineRecord where
  cfg      : LineConfig
  latched  : Bool
  computed : Nat
  applied  : Nat
  drive    : Drive
  deriving DecidableEq, Repr

/-! ### Message Port and Settings Store (10_the_message_line.md) -/

/-- A notice source (R166). -/
inductive Source where
  | zone (z : ZoneId) | event (p : Place) | probe (a : Addr) | trunk (t : Trunk) | leak (c : ChannelId)
  deriving DecidableEq, Repr

/-- The five class enables (R168). -/
structure NoticeMask where
  zone  : Bool
  event : Bool
  probe : Bool
  trunk : Bool
  leak  : Bool
  deriving DecidableEq, Repr

/-- A request as a good frame brings it (R159). -/
structure Request where
  kind    : Byte
  tag     : Byte
  payload : List Byte
  deriving DecidableEq, Repr

/-- What an outgoing frame is: a reply that holds its request's slot, the Warm Restart reply, a PORT_FULL reply, the
report of an order slot, or a notice (R161, R164, R175). -/
inductive FrameRole where
  | reply | restartReply | portFull | report (slot : SlotId) | notice (source : Source)
  deriving DecidableEq, Repr

/-- An outgoing frame, its contents fixed (R162, R165). -/
structure OutFrame where
  role    : FrameRole
  kind    : Byte
  tag     : Byte
  payload : List Byte
  deriving DecidableEq, Repr

/-- An execution that takes time: Keep Settings writing (R172), or Warm Restart with its reply unsent or sent
(R175). -/
inductive Execution where
  | keepSettings (tag : Byte) | warmRestart (replySent : Bool)
  deriving DecidableEq, Repr

/-- The Message Port (R160 to R168). -/
structure Port where
  rx        : List Byte
  waiting   : List Request
  executing : Option Execution
  replies   : List OutFrame
  /-- The frame being sent. -/
  line      : Option OutFrame
  /-- Its bytes as the transmit pair carries them; none while the line is idle (R159, R164). -/
  wire      : List Byte
  urgent    : List Source
  routine   : List Source
  mask      : NoticeMask
  deriving DecidableEq, Repr

/-- The stored image's contents (R171). -/
structure Image where
  probes    : Table (Option ProbeConfig) 64
  map       : ZoneMap
  zones     : Table (Bool × ZoneConfig) 24
  channels  : Table (Bool × Nat × Nat × Option Nat) 8
  lines     : Table LineConfig 4
  scanMode  : ScanMode
  period    : Nat
  maxAge    : Nat
  trunks    : Table TrunkSettings 2
  mask      : NoticeMask
  deriving DecidableEq, Repr

/-- The Settings Store: the image, its stored check, and whether it is marked invalid (R171, R172). -/
structure Store where
  contents      : Image
  check         : BitVec 16
  markedInvalid : Bool
  deriving DecidableEq, Repr

/-- Whether the part has power, and whether its settings have been loaded (R172 to R174). -/
inductive Power where
  | off | loading | running
  deriving DecidableEq, Repr

/-! ### The machine -/

/-- The FD-24. -/
structure State where
  /-- The commands that wait, first in first out (assumption 1). -/
  pending   : List Instr
  power     : Power
  uptime    : Nat
  /-- SETTINGS_DEFAULTED (R173). -/
  defaulted : Bool
  store     : Store
  port      : Port
  engines   : Table Engine 2
  scan      : ScanTimer
  slots     : Table OrderSlot 4
  probes    : Table ProbeRecord 64
  map       : ZoneMap
  zones     : Table ZoneRecord 24
  leak      : LeakUnit
  events    : EventList
  lines     : Table LineRecord 4
  deriving DecidableEq, Repr

/-- The part stops for no event: the spec names no fault, and no meaning raises one. The type has no value, so that no
step can answer a fault (safe: nothing is stopped that the part goes on with). -/
inductive Fault where
  deriving DecidableEq, Repr

/-- Refusals. -/
inductive Refusal where
  /-- Raised by exec's arm of a command that has no meaning yet; no arm does (safe). -/
  | notModelled (mnemonic : String)
  deriving DecidableEq, Repr

/-! ### Defaults and reset values -/

/-- The defaults of section 1.7. -/
def TrunkSettings.default : TrunkSettings := { retries := 2, haltThreshold := 12, faultThreshold := 3 }

/-- The defaults of R87. -/
def ZoneConfig.default : ZoneConfig :=
  { w := 300, a := 100, h := 50, riseDwell := 60, fallDwell := 300, weight := 2, design := none, leakMask := 0,
    wetElement := false, depth := 4 }

/-- The defaults of R145. -/
def LineConfig.default : LineConfig :=
  { mode := .off, mask := 0, trigger := .alarm, polarity := .activeLow, failsafe := false }

/-- Every class enabled (R173). -/
def NoticeMask.default : NoticeMask := { zone := true, event := true, probe := true, trunk := true, leak := true }

/-- No entries (R70). -/
def ZoneMap.empty : ZoneMap := { singles := Table.all 64 none, spans := [] }

/-- The defaults every block takes when the image is not valid (R173). -/
def Image.default : Image :=
  { probes := Table.all 64 none, map := ZoneMap.empty, zones := Table.all 24 (false, ZoneConfig.default),
    channels := Table.all 8 (false, 120, 24, none), lines := Table.all 4 LineConfig.default, scanMode := .stopped,
    period := 60, maxAge := 300, trunks := Table.all 2 TrunkSettings.default, mask := NoticeMask.default }

/-- A probe record that is not defined (R41). -/
def ProbeRecord.undefined : ProbeRecord :=
  { config := none, state := .undefined, failures := 0, last := none, mismatch := none, reading := none, dew := none,
    df := none, expiry := none }

/-- A trunk at power-on (R20). -/
def Engine.start (settings : TrunkSettings) : Engine :=
  { waitList := [], inFlight := none, failures := 0, halted := false, settings := settings, attempt := settings,
    link := .ready }

/-- A zone at power-on: STALE if enabled and OFF if not (R108). -/
def ZoneRecord.start (enabled : Bool) (cfg : ZoneConfig) : ZoneRecord :=
  { enabled := enabled, cfg := cfg, grade := if enabled then .stale else .off, d := none, s := none, m := none,
    dwell := .none, air := 0, surfaces := 0 }

/-- A channel at power-on (R124). -/
def Channel.start (enabled : Bool) (dw hy : Nat) (baseline : Option Nat) : Channel :=
  { enabled := enabled, dw := dw, hy := hy, baseline := if enabled then baseline else none,
    state := if enabled then (if baseline.isSome then .dry else .calibrating) else .off,
    streak := 0, calSum := 0, calCount := 0, last := none }

/-- An empty Event List (R143). -/
def EventList.empty (nextNumber : Nat) : EventList :=
  { places := Table.all 16 { record := none, last := none }, order := [], nextNumber := nextNumber,
    pending := Table.all 24 none }

/-- A line with the given drive and its dynamic fields at rest (R157, R158). -/
def LineRecord.start (cfg : LineConfig) (drive : Drive) : LineRecord :=
  { cfg := cfg, latched := false, computed := 0, applied := 0, drive := drive }

/-- The Message Port at power-on (R174). -/
def Port.start (mask : NoticeMask) : Port :=
  { rx := [], waiting := [], executing := none, replies := [], line := none, wire := [], urgent := [], routine := [],
    mask := mask }

/-- The part without loaded settings: every block at its power-on state, the configuration fields at the defaults
(DESIGN CHOICE, assumption 3), what the store holds and the queue as given. -/
def State.unloaded (power : Power) (store : Store) (pending : List Instr) : State :=
  { pending := pending, power := power, uptime := 0, defaulted := false, store := store,
    port := Port.start NoticeMask.default, engines := Table.all 2 (Engine.start TrunkSettings.default),
    scan := { mode := .stopped, active := 60, next := none, countdown := none, due := false, maxAge := 300 },
    slots := Table.all 4 .free, probes := Table.all 64 ProbeRecord.undefined, map := ZoneMap.empty,
    zones := Table.all 24 (ZoneRecord.start false ZoneConfig.default),
    leak := { channels := Table.all 8 (Channel.start false 120 24 none), applied := .slow, countdown := 4000,
              activeZones := 0, wetChannels := 0, position := none, discard := false },
    events := EventList.empty 1, lines := Table.all 4 (LineRecord.start LineConfig.default .undriven) }

/-- A store in which no image was ever kept: its check, 0, is not that of its contents (DESIGN CHOICE, assumption
2). -/
def Store.blank : Store := { contents := Image.default, check := 0, markedInvalid := false }

/-- The machine right after reset: power has just been applied and the settings are not yet loaded (R174); the queue
is empty (assumption 1) and no image was ever kept (assumption 2). -/
def State.reset : State := State.unloaded .loading Store.blank []

end Sys2Proof.Machine
end

