-- ==== Sys2Proof/Machine/Operands.lean ====
section
/-! DEFINITION. Reading the fields of a payload and writing the fields of a reply (R177), the one-byte codes (R178),
the statuses (R163, R179), and clamping (00_scope 0.7). -/

namespace Sys2Proof.Machine

open Sys2Proof

/-! ### Numbers (00_scope 0.7) -/

/-- clamp(x, lo, hi) of 00_scope 0.7. -/
def clamp (lo hi x : Int) : Int := if x < lo then lo else if hi < x then hi else x

/-- clamp of an unsigned value. -/
def clampNat (lo hi x : Nat) : Nat := if x < lo then lo else if hi < x then hi else x

/-! ### Writing fields (R177) -/

/-- A one-byte field: the low eight bits (assumption 15). -/
def byte (n : Nat) : Byte := BitVec.ofNat 8 n

/-- A two-byte unsigned field, high byte first. -/
def be16 (n : Nat) : List Byte := [byte (n / 256), byte n]

/-- A four-byte unsigned field, high byte first. -/
def be32 (n : Nat) : List Byte := [byte (n / 16777216), byte (n / 65536), byte (n / 256), byte n]

/-- A two-byte signed field: two's complement, high byte first. -/
def sbe16 (x : Int) : List Byte := be16 (x % 65536).toNat

/-- A yes/no byte. -/
def boolByte (b : Bool) : Byte := if b then 1 else 0

/-- A flag byte with bits 0 and 1. -/
def flagByte (bit0 bit1 : Bool) : Byte := byte ((if bit0 then 1 else 0) + (if bit1 then 2 else 0))

/-- A signed two-byte field or its sentinel -32768. -/
def optSigned : Option Int → List Byte
  | some x => sbe16 x
  | none => [0x80, 0x00]

/-- A two-byte field whose sentinel is 0xFFFF: a relative humidity, B or C. -/
def optWord : Option Nat → List Byte
  | some x => be16 x
  | none => [0xFF, 0xFF]

/-- A four-byte field whose sentinel is 0xFFFFFFFF: an age or cleared-at. -/
def optLong : Option Nat → List Byte
  | some x => be32 x
  | none => [0xFF, 0xFF, 0xFF, 0xFF]

/-- A two-byte field whose sentinel is 0: an event number, the Scan Timer's next period or countdown. -/
def optZero : Option Nat → List Byte
  | some x => be16 x
  | none => [0, 0]

/-- A one-byte code whose sentinel is 0xFF. -/
def optCode : Option Byte → Byte
  | some c => c
  | none => 0xFF

/-- The number of a zone set: bit n stands for zone n. -/
def zoneSet (p : ZoneId → Bool) : Nat :=
  (List.finRange 24).foldl (fun acc z => if p z then acc + 2 ^ z.val else acc) 0

/-! ### Reading fields (R177) -/

/-- The one-byte unsigned field at position i. -/
def u8 (p : List Byte) (i : Nat) : Nat := (p.getD i 0).toNat

/-- The two-byte unsigned field at position i. -/
def u16 (p : List Byte) (i : Nat) : Nat := u8 p i * 256 + u8 p (i + 1)

/-- The four-byte unsigned field at position i. -/
def u32 (p : List Byte) (i : Nat) : Nat := u16 p i * 65536 + u16 p (i + 2)

/-- The two-byte signed field at position i. -/
def s16 (p : List Byte) (i : Nat) : Int := if u16 p i < 32768 then (u16 p i : Int) else (u16 p i : Int) - 65536

/-- A field that names one of n things, or none where there is no such thing. -/
def fin? (n x : Nat) : Option (Fin n) := if h : x < n then some ⟨x, h⟩ else none

/-- A yes/no byte of a request: 0 and 1 only (R178). -/
def bool? : Nat → Option Bool
  | 0 => some false
  | 1 => some true
  | _ => none

/-- The address named by a trunk field and a drop field. -/
def addr? (trunk drop : Nat) : Option Addr :=
  match fin? 2 trunk, fin? 32 drop with
  | some t, some d => some ⟨t, d⟩
  | _, _ => none

/-! ### Codes (R178) -/

def trunkCode (t : Trunk) : Byte := byte t.val

def Kind.code : Kind → Byte
  | .air => 1
  | .surface => 2

def kind? : Nat → Option Kind
  | 1 => some .air
  | 2 => some .surface
  | _ => none

def ProbeState.code : ProbeState → Byte
  | .undefined => 0
  | .active => 1
  | .suspect => 2
  | .faulted => 3

/-- NOT_READY is never a final outcome (R12) and has no code; the part sends 0xFF for what has none. -/
def ProbeOutcome.code : ProbeOutcome → Byte
  | .good => 1
  | .tainted => 2
  | .noAnswer => 3
  | .badCheck => 4
  | .kindMismatch => 5
  | .notReadyLimit => 6
  | .trunkHalted => 7
  | .notReady => 0xFF

def ScanMode.code : ScanMode → Byte
  | .stopped => 0
  | .continuous => 1
  | .single => 2

def scanMode? : Nat → Option ScanMode
  | 0 => some .stopped
  | 1 => some .continuous
  | 2 => some .single
  | _ => none

def Grade.code : Grade → Byte
  | .off => 0
  | .stale => 1
  | .clear => 2
  | .watch => 3
  | .alarm => 4
  | .wet => 5

def Trigger.code : Trigger → Byte
  | .watch => 3
  | .alarm => 4
  | .wet => 5

def trigger? : Nat → Option Trigger
  | 3 => some .watch
  | 4 => some .alarm
  | 5 => some .wet
  | _ => none

def SurfaceSource.code : SurfaceSource → Byte
  | .probe => 1
  | .design => 2

def Dwell.code : Dwell → Byte
  | .none => 0
  | .rise _ _ => 1
  | .fall _ _ => 2

def EventKind.code : EventKind → Byte
  | .condensation => 1
  | .water => 2

def EventState.code : EventState → Byte
  | .opened => 1
  | .acked => 2
  | .cleared => 3

/-- The event state REMOVED of an empty place (R142). -/
def removedCode : Byte := 4

def ClearCause.code : ClearCause → Byte
  | .gradeFell => 1
  | .zoneOff => 2

def LeakState.code : LeakState → Byte
  | .off => 0
  | .calibrating => 1
  | .dry => 2
  | .wet => 3
  | .opened => 4
  | .short => 5

def Rate.code : Rate → Byte
  | .slow => 0
  | .fast => 1

def LineMode.code : LineMode → Byte
  | .off => 0
  | .follow => 1
  | .latch => 2
  | .proportional => 3

def lineMode? : Nat → Option LineMode
  | 0 => some .off
  | 1 => some .follow
  | 2 => some .latch
  | 3 => some .proportional
  | _ => none

def Polarity.code : Polarity → Byte
  | .activeHigh => 0
  | .activeLow => 1

def polarity? : Nat → Option Polarity
  | 0 => some .activeHigh
  | 1 => some .activeLow
  | _ => none

def Drive.code : Drive → Byte
  | .undriven => 0
  | .active => 1
  | .inactive => 2

/-! ### Statuses and replies (R163, R179) -/

/-- Reply statuses. -/
inductive Status where
  | ok | adjusted | unknownKind | badLength | badField | portFull | tableFull | surveyFull | duplicateTag | overlap
  | notFound | wrongState | badSpan | storeFailed
  deriving DecidableEq, Repr

def Status.code : Status → Byte
  | .ok => 0x00
  | .adjusted => 0x01
  | .unknownKind => 0x10
  | .badLength => 0x11
  | .badField => 0x12
  | .portFull => 0x20
  | .tableFull => 0x21
  | .surveyFull => 0x22
  | .duplicateTag => 0x30
  | .overlap => 0x31
  | .notFound => 0x32
  | .wrongState => 0x33
  | .badSpan => 0x34
  | .storeFailed => 0x40

/-- A reply: its status, the first byte of its payload, and what follows it. -/
structure Reply where
  status : Status
  body   : List Byte
  deriving DecidableEq, Repr

/-- A reply that carries the status only (R163). -/
def Reply.bare (status : Status) : Reply := ⟨status, []⟩

/-- ADJUSTED if a value was clamped, OK if none was (R163). -/
def takenStatus (adjusted : Bool) : Status := if adjusted then .adjusted else .ok

/-! ### Kinds of frames (R179, R180) -/

/-- The request kinds of R180. -/
def requestKinds : List Byte :=
  [0x01, 0x02, 0x03, 0x04, 0x05, 0x10, 0x11, 0x12, 0x13, 0x14, 0x18, 0x19, 0x1A, 0x20, 0x21, 0x22, 0x23, 0x24,
   0x28, 0x29, 0x2A, 0x2B, 0x30, 0x31, 0x32, 0x34, 0x35, 0x36, 0x38, 0x39, 0x3A]

/-- The kind of the reply to a request: its kind plus 0x40, or 0x7F for an unknown kind (R163, R179). -/
def replyKind (kind : Byte) : Byte := if requestKinds.contains kind then kind + 0x40 else 0x7F

/-- The kind of a survey report (R179). -/
def surveyReportKind : Byte := 0x80

/-- The kind of a notice: that of its class (R165, R179). -/
def Source.kind : Source → Byte
  | .zone _ => 0x90
  | .event _ => 0x91
  | .probe _ => 0x92
  | .trunk _ => 0x93
  | .leak _ => 0x94

end Sys2Proof.Machine
end

