-- ==== Sys2Proof/Machine/Crc.lean ====
section
/-! DEFINITION. The two cyclic checks: CRC-8 of the trunks (R2) and CRC-16 of the message line (R159); each byte is fed
in most significant bit first, no bits are reflected and there is no final inversion. -/

namespace Sys2Proof.Machine

open Sys2Proof

/-- One bit step of the CRC-8 register under the polynomial 0x31 (R2). -/
def crc8Bit (r : BitVec 8) : BitVec 8 := if r.msb then (r <<< 1) ^^^ 0x31 else r <<< 1

/-- The CRC-8 register after one byte. -/
def crc8Byte (r : BitVec 8) (b : Byte) : BitVec 8 := crc8Bit^[8] (r ^^^ b)

/-- The CRC-8 of a list of bytes; the register starts at 0xFF (R2). -/
def crc8 (bytes : List Byte) : Byte := bytes.foldl crc8Byte 0xFF

/-- One bit step of the CRC-16 register under the polynomial 0x1021 (R159). -/
def crc16Bit (r : BitVec 16) : BitVec 16 := if r.msb then (r <<< 1) ^^^ 0x1021 else r <<< 1

/-- The CRC-16 register after one byte. -/
def crc16Byte (r : BitVec 16) (b : Byte) : BitVec 16 := crc16Bit^[8] (r ^^^ (b.setWidth 16 <<< 8))

/-- The CRC-16 of a list of bytes; the register starts at 0xFFFF (R159). -/
def crc16 (bytes : List Byte) : BitVec 16 := bytes.foldl crc16Byte 0xFFFF

/-- A probe query: drop address, MEASURE, CRC-8 (R2). -/
def probeQueryBytes (d : Drop) : List Byte := [byte d.val, 0x01, crc8 [byte d.val, 0x01]]

/-- The two check bytes of a message-line frame: CRC-16 over LEN and the body, high byte first (R159). -/
def checkBytes (lenAndBody : List Byte) : List Byte :=
  [(crc16 lenAndBody).extractLsb' 8 8, (crc16 lenAndBody).extractLsb' 0 8]

/-- LEN and the body of a frame: KIND, TAG and the payload (R159). -/
def lenAndBody (kind tag : Byte) (payload : List Byte) : List Byte :=
  byte (payload.length + 2) :: kind :: tag :: payload

/-- The bytes of a message-line frame: SYNC, LEN, body, check (R159, R179). -/
def frameBytes (kind tag : Byte) (payload : List Byte) : List Byte :=
  0xA5 :: (lenAndBody kind tag payload ++ checkBytes (lenAndBody kind tag payload))

end Sys2Proof.Machine
end

