-- ==== Sys2Proof/Machine/Ops.lean ====
section
/-! DEFINITION. The named operations over the block's records: reading and replacing one record, raising a notice
source (R167), and completing a reply (R162, R163). -/

namespace Sys2Proof.Machine

open Sys2Proof

/-! ### Records -/

/-- The probe record at an address. -/
def State.probe (s : State) (a : Addr) : ProbeRecord := s.probes.get a.idx

def State.setProbe (s : State) (a : Addr) (r : ProbeRecord) : State := { s with probes := s.probes.set a.idx r }

/-- A zone's record. -/
def State.zone (s : State) (z : ZoneId) : ZoneRecord := s.zones.get z

def State.setZone (s : State) (z : ZoneId) (r : ZoneRecord) : State := { s with zones := s.zones.set z r }

/-- One Trunk Engine. -/
def State.engine (s : State) (t : Trunk) : Engine := s.engines.get t

def State.setEngine (s : State) (t : Trunk) (e : Engine) : State := { s with engines := s.engines.set t e }

/-- One leak channel. -/
def State.channel (s : State) (c : ChannelId) : Channel := s.leak.channels.get c

def State.setLeak (s : State) (l : LeakUnit) : State := { s with leak := l }

def State.setChannel (s : State) (c : ChannelId) (r : Channel) : State :=
  { s with leak := { s.leak with channels := s.leak.channels.set c r } }

/-- One output line. -/
def State.outLine (s : State) (l : LineId) : LineRecord := s.lines.get l

def State.setOutLine (s : State) (l : LineId) (r : LineRecord) : State := { s with lines := s.lines.set l r }

/-- One order slot. -/
def State.slot (s : State) (k : SlotId) : OrderSlot := s.slots.get k

def State.setSlot (s : State) (k : SlotId) (o : OrderSlot) : State := { s with slots := s.slots.set k o }

/-- One place of the Event List. -/
def State.place (s : State) (p : Place) : PlaceRecord := s.events.places.get p

def State.setEvents (s : State) (e : EventList) : State := { s with events := e }

def State.setPlace (s : State) (p : Place) (r : PlaceRecord) : State :=
  { s with events := { s.events with places := s.events.places.set p r } }

/-- A zone's pending flag with its kind (R133). -/
def State.pendingKind (s : State) (z : ZoneId) : Option EventKind := s.events.pending.get z

def State.setPendingKind (s : State) (z : ZoneId) (k : Option EventKind) : State :=
  { s with events := { s.events with pending := s.events.pending.set z k } }

def State.setPort (s : State) (p : Port) : State := { s with port := p }

def State.setScan (s : State) (t : ScanTimer) : State := { s with scan := t }

def State.setMap (s : State) (m : ZoneMap) : State := { s with map := m }

/-! ### Notices (R166, R167) -/

/-- The urgency of a raising (R167). -/
inductive Urgency where
  | urgent | routine
  deriving DecidableEq, Repr

/-- Whether the mask lets a source's class be queued (R168). -/
def NoticeMask.enables (m : NoticeMask) : Source → Bool
  | .zone _ => m.zone
  | .event _ => m.event
  | .probe _ => m.probe
  | .trunk _ => m.trunk
  | .leak _ => m.leak

/-- The notice queue after a raising (R167). -/
def Port.raise (p : Port) (src : Source) (u : Urgency) : Port :=
  if !p.mask.enables src then p
  else if p.urgent.contains src then p
  else
    match u with
    | .urgent => { p with urgent := p.urgent ++ [src], routine := p.routine.filter (· != src) }
    | .routine => if p.routine.contains src then p else { p with routine := p.routine ++ [src] }

/-- A block raises a notice source (R167). -/
def State.raise (s : State) (src : Source) (u : Urgency) : State := s.setPort (s.port.raise src u)

/-! ### Outgoing reply-class frames (R162, R164) -/

/-- A reply-class frame joins those waiting, in order of completion (R164). -/
def State.queueFrame (s : State) (f : OutFrame) : State :=
  s.setPort { s.port with replies := s.port.replies ++ [f] }

/-- The frame of a reply: the request's kind plus 0x40 or 0x7F, its tag, the status first (R163). -/
def replyFrame (role : FrameRole) (kind tag : Byte) (r : Reply) : OutFrame :=
  { role := role, kind := replyKind kind, tag := tag, payload := r.status.code :: r.body }

/-- A request's reply is completed (R162). -/
def State.completeReply (s : State) (kind tag : Byte) (r : Reply) : State :=
  s.queueFrame (replyFrame .reply kind tag r)

end Sys2Proof.Machine
end

