-- ==== Sys2Proof/Machine/ZoneMap.lean ====
section
/-! DEFINITION. Lookup and members (04_the_zone_map.md, R57 to R60). -/

namespace Sys2Proof.Machine

open Sys2Proof

/-- A span covers the drops from its base to its base plus its size less one, on its own trunk (R58). -/
def Span.covers (p : Span) (a : Addr) : Bool :=
  p.trunk = a.trunk && decide (p.base ≤ a.drop.val) && decide (a.drop.val < p.base + p.size)

/-- Two ranges of one trunk intersect (R58, R63). -/
def Span.meets (p : Span) (trunk : Trunk) (base size : Nat) : Bool :=
  p.trunk = trunk && decide (p.base < base + size) && decide (base < p.base + p.size)

/-- The single entry of an address (R57). -/
def ZoneMap.single (m : ZoneMap) (a : Addr) : Option ZoneId := m.singles.get a.idx

/-- The span entry that covers an address (R59). -/
def ZoneMap.spanOf (m : ZoneMap) (a : Addr) : Option Span := m.spans.find? (·.covers a)

/-- The lookup (R59): a single entry first, then a span, else unassigned. -/
def ZoneMap.lookup (m : ZoneMap) (a : Addr) : Option ZoneId :=
  match m.single a with
  | some z => some z
  | none => (m.spanOf a).map (·.zone)

/-- The source of the lookup's answer as coded in R178: 0 UNASSIGNED, 1 SINGLE, 2 SPAN. -/
def ZoneMap.sourceCode (m : ZoneMap) (a : Addr) : Byte :=
  if (m.single a).isSome then 1 else if (m.spanOf a).isSome then 2 else 0

/-- The number of single entries held (R57). -/
def ZoneMap.singlesHeld (m : ZoneMap) : Nat := (allAddrs.filter fun a => (m.single a).isSome).length

/-- Whether a probe is defined at an address (R41). -/
def State.definedAt (s : State) (a : Addr) : Bool := (s.probe a).config.isSome

/-- The members of a zone, in ascending order of trunk and drop (R60). -/
def State.members (s : State) (z : ZoneId) : List Addr :=
  allAddrs.filter fun a => s.definedAt a && s.map.lookup a == some z

end Sys2Proof.Machine
end

