-- ==== Sys2Proof/Machine/Flags.lean ====
section
/-! DEFINITION. What is judged from the records whenever it is needed and not stored: a trunk's state (R8), a
reading's validity (R50), a line's level and trigger (R146, R147), the wanted round rate (R113), the slots held
(R161), a zone's event link (R88). -/

namespace Sys2Proof.Machine

open Sys2Proof

/-! ### Trunks -/

/-- The states of a trunk as the host sees them (R8). -/
inductive TrunkState where
  | idle | busy | halted
  deriving DecidableEq, Repr

def TrunkState.code : TrunkState → Byte
  | .idle => 0
  | .busy => 1
  | .halted => 2

/-- A trunk's state (R8): HALTED while halted; else BUSY while an item is in flight or waits; else IDLE. -/
def Engine.state (e : Engine) : TrunkState :=
  if e.halted then .halted else if e.inFlight.isSome || !e.waitList.isEmpty then .busy else .idle

/-- The engine is free when no item is in flight and the gap has run out (R8). -/
def Engine.free (e : Engine) : Bool := e.inFlight.isNone && e.link == .ready

/-! ### Readings -/

/-- The age of a reading at an uptime second (R50). -/
def Reading.age (r : Reading) (uptime : Nat) : Nat := uptime - r.taken

/-- The validity of a record's reading under a max reading age at an uptime second (R50). -/
def ProbeRecord.validAt (p : ProbeRecord) (maxAge uptime : Nat) : Bool :=
  match p.reading with
  | none => false
  | some r => p.config.isSome && p.state != .faulted && decide (r.age uptime ≤ maxAge)

/-- The validity of the reading at an address now (R50). -/
def State.valid (s : State) (a : Addr) : Bool := (s.probe a).validAt s.scan.maxAge s.uptime

/-- The defined kind at an address. -/
def State.kindAt (s : State) (a : Addr) : Option Kind := (s.probe a).config.map (·.kind)

/-- The TAINTED flag of the reading at an address; clear with no reading. -/
def State.taintedAt (s : State) (a : Addr) : Bool :=
  match (s.probe a).reading with
  | some r => r.tainted
  | none => false

/-! ### Lines -/

/-- The electrical level, high or not (R146). -/
def LineRecord.high (l : LineRecord) : Bool :=
  match l.drive, l.cfg.polarity with
  | .undriven, _ => true
  | .active, .activeHigh => true
  | .active, .activeLow => false
  | .inactive, .activeHigh => false
  | .inactive, .activeLow => true

/-- The rank of a grade in the order CLEAR, WATCH, ALARM, WET; OFF and STALE stand outside it (00_scope 0.9). -/
def Grade.rank : Grade → Option Nat
  | .off => none
  | .stale => none
  | .clear => some 0
  | .watch => some 1
  | .alarm => some 2
  | .wet => some 3

def Trigger.rank : Trigger → Nat
  | .watch => 1
  | .alarm => 2
  | .wet => 3

/-- A grade triggers a line: at or above its trigger grade, or STALE with failsafe (R147). -/
def LineConfig.triggeredBy (c : LineConfig) (g : Grade) : Bool :=
  match g with
  | .stale => c.failsafe
  | .off => false
  | g => match g.rank with
    | some r => decide (c.trigger.rank ≤ r)
    | none => false

/-- A zone stands in the line's mask. -/
def LineConfig.holds (c : LineConfig) (z : ZoneId) : Bool := c.mask.getLsbD z.val

/-- A zone of the mask triggers the line as it stands now (R147). -/
def State.triggers (s : State) (c : LineConfig) (z : ZoneId) : Bool :=
  c.holds z && c.triggeredBy (s.zone z).grade

/-- The line is triggered: at least one zone of its mask meets R147. -/
def State.triggered (s : State) (c : LineConfig) : Bool := (List.finRange 24).any (s.triggers c)

/-! ### Leak channels -/

/-- A zone watches a channel: its leak mask holds it. -/
def ZoneConfig.watches (c : ZoneConfig) (ch : ChannelId) : Bool := c.leakMask.getLsbD ch.val

/-- The wanted rate (R113). -/
def LeakUnit.wanted (l : LeakUnit) : Rate := if 0 < l.activeZones || 0 < l.wetChannels then .fast else .slow

/-! ### Events -/

/-- The record held in a place. -/
def State.recordAt (s : State) (p : Place) : Option EventRecord := (s.place p).record

/-- The place and record of a zone (R126: at most one per zone). -/
def State.findZone (s : State) (z : ZoneId) : Option (Place × EventRecord) :=
  (List.finRange 16).findSome? fun p => (s.recordAt p).bind fun e => if e.zone = z then some (p, e) else none

/-- The place and record with a number (R126: the numbers are distinct). -/
def State.findNumber (s : State) (n : Nat) : Option (Place × EventRecord) :=
  (List.finRange 16).findSome? fun p => (s.recordAt p).bind fun e => if e.number = n then some (p, e) else none

/-- The lowest-numbered free place (R127). -/
def State.freePlace (s : State) : Option Place := (List.finRange 16).find? fun p => (s.recordAt p).isNone

/-- The number of records held (R126). -/
def State.recordsHeld (s : State) : Nat := ((List.finRange 16).filter fun p => (s.recordAt p).isSome).length

/-- The number of zones with the pending flag set (R141). -/
def State.pendingZones (s : State) : Nat :=
  ((List.finRange 24).filter fun z => (s.pendingKind z).isSome).length

/-! ### Message Port -/

/-- A frame holds a request slot: a reply, Warm Restart's included, until it has been sent (R161). -/
def FrameRole.holdsSlot : FrameRole → Bool
  | .reply => true
  | .restartReply => true
  | .portFull => false
  | .report _ => false
  | .notice _ => false

/-- A frame is a PORT_FULL reply. -/
def FrameRole.isPortFull : FrameRole → Bool
  | .portFull => true
  | .reply => false
  | .restartReply => false
  | .report _ => false
  | .notice _ => false

/-- The request slots held (R161): the requests that wait, the one that Keep Settings executes (its reply is not
completed yet), and the replies not wholly sent. -/
def Port.slotsHeld (p : Port) : Nat :=
  p.waiting.length
    + (match p.executing with
       | some (.keepSettings _) => 1
       | some (.warmRestart _) => 0
       | none => 0)
    + (p.replies.filter (·.role.holdsSlot)).length
    + (match p.line with
       | some f => if f.role.holdsSlot then 1 else 0
       | none => 0)

/-- The PORT_FULL replies that wait unsent (R161). -/
def Port.portFullWaiting (p : Port) : Nat := (p.replies.filter (·.role.isPortFull)).length

/-- The length of the notice queue (R170). -/
def Port.queueLength (p : Port) : Nat := p.urgent.length + p.routine.length

/-- The Warm Restart reply has been sent and the reset is due at this moment (R175). -/
def Port.resetDue (p : Port) : Bool := p.executing == some (.warmRestart true)

end Sys2Proof.Machine
end

