-- ==== Sys2Proof/Machine/Layouts.lean ====
section
/-! DEFINITION. The record bodies that replies and notices carry (11_frame_and_record_layouts.md, R181, R182), each
built from the records as they stand. -/

namespace Sys2Proof.Machine

open Sys2Proof

/-- The probe body, 32 bytes (R181). -/
def State.probeBody (s : State) (a : Addr) : List Byte :=
  let p := s.probe a
  [trunkCode a.trunk, byte a.drop.val, boolByte p.config.isSome, optCode (p.config.map fun c => c.kind.code)]
    ++ sbe16 ((p.config.map (·.tTrim)).getD 0)
    ++ sbe16 ((p.config.map (·.rhTrim)).getD 0)
    ++ [p.state.code, byte p.failures, optCode (p.last.map (·.code)), optCode (p.mismatch.map (·.code))]
    ++ optSigned (p.reading.map (·.temp))
    ++ optWord (p.reading.bind (·.rh))
    ++ optSigned (p.reading.map (·.rawTemp))
    ++ optWord (p.reading.bind (·.rawRh))
    ++ [match p.reading with
        | some r => flagByte r.saturated r.tainted
        | none => 0]
    ++ optLong (p.reading.map fun r => r.age s.uptime)
    ++ [boolByte (s.valid a)]
    ++ optSigned (p.dew.map (·.td))
    ++ [match p.dew with
        | some w => flagByte w.tempOutOfRange w.dewBelowRange
        | none => 0]
    ++ optSigned p.df
    ++ [optCode ((s.map.lookup a).map fun z => byte z.val)]

/-- The remaining seconds of a dwell; 0 with NONE (R181). -/
def Dwell.remaining : Dwell → Nat
  | .none => 0
  | .rise n _ => n
  | .fall n _ => n

/-- The zone's event record, if it has one (R88). -/
def State.recordOfZone (s : State) (z : ZoneId) : Option EventRecord := (s.findZone z).map (·.2)

/-- The zone body, 18 bytes (R181). -/
def State.zoneBody (s : State) (z : ZoneId) : List Byte :=
  let r := s.zone z
  [byte z.val, r.grade.code]
    ++ optSigned r.d
    ++ optSigned (r.s.map (·.value))
    ++ [optCode (r.s.map fun x => x.source.code)]
    ++ optSigned r.m
    ++ [r.dwell.code]
    ++ be16 r.dwell.remaining
    ++ [byte r.air, byte r.surfaces]
    ++ optZero ((s.recordOfZone z).map (·.number))
    ++ [optCode ((s.recordOfZone z).map fun e => e.state.code), boolByte (s.pendingKind z).isSome]

/-- The sixteen configuration bytes of Zone Setup after its zone byte (R180). -/
def ZoneConfig.bytes (c : ZoneConfig) : List Byte :=
  sbe16 c.w ++ sbe16 c.a ++ sbe16 c.h ++ be16 c.riseDwell ++ be16 c.fallDwell ++ [byte c.weight]
    ++ optSigned c.design ++ [c.leakMask, boolByte c.wetElement, byte c.depth]

/-- The part of the event body that a record fills, after the place (R182). -/
def EventRecord.bytes (e : EventRecord) : List Byte :=
  be16 e.number ++ [byte e.zone.val, e.kind.code, e.state.code]
    ++ be32 e.openedAt ++ optLong e.clearedAt ++ [optCode (e.cause.map (·.code))]
    ++ optSigned e.worst ++ [byte e.reEscalations, flagByte e.lateOpened e.dataLost]
    ++ optSigned e.d ++ optSigned e.s ++ optSigned e.m

/-- The event body of a place, 25 bytes; an empty place shows REMOVED with the number and zone last held (R142,
R182). -/
def State.eventBody (s : State) (p : Place) : List Byte :=
  byte p.val ::
    match s.recordAt p with
    | some e => e.bytes
    | none =>
      optZero ((s.place p).last.map (·.1)) ++ [optCode ((s.place p).last.map fun l => byte l.2.val), 0xFF, removedCode]
        ++ optLong none ++ optLong none ++ [0xFF] ++ optSigned none ++ [0, 0]
        ++ optSigned none ++ optSigned none ++ optSigned none

/-- A capture entry, 12 bytes (R182). -/
def Capture.bytes (c : Capture) : List Byte :=
  [trunkCode c.addr.trunk, byte c.addr.drop.val, c.kind.code] ++ optSigned c.temp ++ optWord c.rh ++ optLong c.age
    ++ [flagByte c.valid c.tainted]

/-- The Trunk notice, eight bytes (R19, R182). -/
def State.trunkBody (s : State) (t : Trunk) : List Byte :=
  let e := s.engine t
  [trunkCode t, e.state.code, byte e.failures, byte e.waitList.length, boolByte e.inFlight.isSome,
    byte e.settings.retries, byte e.settings.haltThreshold, byte e.settings.faultThreshold]

/-- The leak body, 13 bytes (R182). -/
def State.leakBody (s : State) (c : ChannelId) : List Byte :=
  let r := s.channel c
  [byte c.val, boolByte r.enabled] ++ be16 r.dw ++ be16 r.hy ++ [r.state.code, byte r.streak]
    ++ optWord r.baseline ++ optWord r.last ++ [byte r.calCount]

/-- The line body, 19 bytes (R182). -/
def State.lineBody (s : State) (l : LineId) : List Byte :=
  let r := s.outLine l
  [byte l.val, r.cfg.mode.code] ++ be32 r.cfg.mask.toNat
    ++ [r.cfg.trigger.code, r.cfg.polarity.code, boolByte r.cfg.failsafe, boolByte r.latched, byte r.computed,
        byte r.applied, r.drive.code, boolByte r.high, boolByte (s.triggered r.cfg)]
    ++ be32 (zoneSet (s.triggers r.cfg))

/-- A survey report's entry for a point, nine bytes (R37, R182). -/
def surveyEntry (a : Addr) (o : Option PointOutcome) : List Byte :=
  let res := o.bind (·.result)
  let reading := res.bind (·.reading)
  [trunkCode a.trunk, byte a.drop.val, optCode (o.map fun x => x.outcome.code),
    optCode ((res.bind (·.kind)).map (·.code))]
    ++ optSigned (reading.map (·.temp))
    ++ optWord (reading.bind (·.rh))
    ++ [match reading with
        | some r => flagByte r.saturated r.wet
        | none => 0]

/-- The payload of a survey report: points requested, points reported, one entry per point in point order (R37). -/
def SurveyOrder.report (o : SurveyOrder) : List Byte :=
  [byte o.points.length, byte o.points.length]
    ++ (o.points.zipIdx.flatMap fun (a, i) => surveyEntry a (o.outcomes.getD i none))

/-- The body of a notice, from the source's state now (R165). -/
def State.noticeBody (s : State) : Source → List Byte
  | .zone z => s.zoneBody z
  | .event p => s.eventBody p
  | .probe a => s.probeBody a
  | .trunk t => s.trunkBody t
  | .leak c => s.leakBody c

end Sys2Proof.Machine
end

