-- ==== Sys2Proof/Machine/Port.lean ====
section
/-! DEFINITION. The Message Port's work (10_the_message_line.md): receiving (R160), arrival (R161), the start of an
execution (R162, R163), the outgoing arbiter (R164, R165). -/

namespace Sys2Proof.Machine

open Sys2Proof

/-! ### The receiver (R160) -/

/-- What the bytes collected so far come to. -/
inductive Candidate where
  /-- More bytes are needed. -/
  | incomplete
  /-- The candidate is dropped; the hunt resumes at the byte after its SYNC. -/
  | dropped
  /-- A good frame, and the bytes after it. -/
  | good (r : Request) (rest : List Byte)
  deriving DecidableEq, Repr

/-- The candidate whose SYNC the list begins with is judged (R160). -/
def judgeCandidate (afterSync : List Byte) : Candidate :=
  match afterSync with
  | [] => .incomplete
  | len :: after =>
    if len.toNat < 2 || 240 < len.toNat then .dropped
    else if after.length < len.toNat + 2 then .incomplete
    else if checkBytes (len :: after.take len.toNat) = (after.drop len.toNat).take 2 then
      .good ⟨(after.take len.toNat).getD 0 0, (after.take len.toNat).getD 1 0, (after.take len.toNat).drop 2⟩
        (after.drop (len.toNat + 2))
    else .dropped

/-- The receiver goes through the bytes it has (R160): the good frames found, in order, and the candidate that is left.
Every round drops a byte or ends, so as many rounds as there are bytes suffice. -/
def scanBytes : Nat → List Byte → List Request × List Byte
  | 0, bytes => ([], bytes)
  | _ + 1, [] => ([], [])
  | fuel + 1, b :: rest =>
    if b = 0xA5 then
      match judgeCandidate rest with
      | .incomplete => ([], b :: rest)
      | .dropped => scanBytes fuel rest
      | .good r after => (r :: (scanBytes fuel after).1, (scanBytes fuel after).2)
    else scanBytes fuel rest

/-- The frames that new bytes complete, and the candidate left (R160). -/
def receiveBytes (rx bytes : List Byte) : List Request × List Byte :=
  scanBytes (rx.length + bytes.length) (rx ++ bytes)

/-! ### Arrival (R161) -/

/-- The PORT_FULL reply to a request (R161). -/
def portFullFrame (r : Request) : OutFrame := replyFrame .portFull r.kind r.tag (Reply.bare .portFull)

/-- A request finds all four slots held: it is answered PORT_FULL, or discarded where eight such replies wait
(R161). -/
def State.refuseArrival (s : State) (r : Request) : State :=
  if s.port.portFullWaiting < 8 then s.queueFrame (portFullFrame r) else s

/-- A request arrives: it takes a free slot and joins those that wait (R161). -/
def State.arrive (s : State) (r : Request) : State :=
  if s.port.slotsHeld < 4 then s.setPort { s.port with waiting := s.port.waiting ++ [r] } else s.refuseArrival r

/-! ### The outgoing arbiter (R164, R165) -/

/-- A notice, built from its source's state now; its tag is 0 (R165). -/
def State.noticeFrame (s : State) (src : Source) : OutFrame :=
  { role := .notice src, kind := src.kind, tag := 0, payload := s.noticeBody src }

/-- The bytes of an outgoing frame: SYNC, LEN, KIND, TAG, payload, check (R159, R179). -/
def OutFrame.wireBytes (f : OutFrame) : List Byte := frameBytes f.kind f.tag f.payload

/-- The transmit pair takes a frame and sends its bytes (R159, R164). -/
def Port.send (p : Port) (f : OutFrame) : Port := { p with line := some f, wire := f.wireBytes }

/-- The arbiter, if the line is free, chooses the oldest reply-class frame, else the notice at the head of the queue
(R164). It waits while a Warm Restart reset is due (assumption 7). -/
def State.arbitrate (s : State) : State :=
  if s.port.line.isSome || s.port.resetDue then s
  else
    match s.port.replies with
    | f :: rest => s.setPort ({ s.port with replies := rest }.send f)
    | [] =>
      match s.port.urgent with
      | src :: rest => s.setPort ({ s.port with urgent := rest }.send (s.noticeFrame src))
      | [] =>
        match s.port.routine with
        | src :: rest => s.setPort ({ s.port with routine := rest }.send (s.noticeFrame src))
        | [] => s

/-- The end of a step of the running part: a line left free takes what became ready in the step (assumption 6). -/
def finish (s : State) : Host.Outcome State Fault Refusal := .next s.arbitrate

/-- A field event of the running part; without power or settings there is none (assumption 4). -/
def fieldEvent (f : State → State) (s : State) : Host.Outcome State Fault Refusal :=
  if s.power = .running then finish (f s) else .next s

/-! ### Executing a request (R162, R163) -/

/-- How a request row meets the part (assumption 5). -/
inductive Admission where
  /-- The part has no power or no settings. -/
  | notNow
  /-- It arrives, and does not begin now: another request executes, or all four slots are held. -/
  | arrives
  /-- It is executed, from the state in which it no longer waits. -/
  | runs (s : State)
  deriving DecidableEq, Repr

/-- The request arrives, and with nothing executing it is executed at its arrival (R161, R162). Where requests wait with
nothing executing, which no run reaches, the row of the oldest is its execution. -/
def State.admission (s : State) (r : Request) : Admission :=
  if s.power = .running then
    match s.port.executing, s.port.waiting with
    | none, [] => if s.port.slotsHeld < 4 then .runs s else .arrives
    | none, h :: rest => if h = r then .runs (s.setPort { s.port with waiting := rest }) else .arrives
    | some _, _ => .arrives
  else .notNow

/-- A request row: what it does where its execution begins, and what else may become of it (R161, R162). -/
def whenAdmitted (r : Request) (run : State → State) (s : State) : Host.Outcome State Fault Refusal :=
  match s.admission r with
  | .notNow => .next s
  | .arrives => finish (s.arrive r)
  | .runs s' => finish (run s')

/-- A request kind whose payload has one length and whose execution is one step: the owning block's work (R162, R163,
R180). -/
structure Service where
  kind   : Byte
  length : Nat
  work   : List Byte → State → State × Reply

/-- An execution that is one step (R162): the length check (R163), then the owning block's work, then the reply. -/
def Service.run (v : Service) (tag : Byte) (payload : List Byte) (s : State) : State :=
  if payload.length = v.length then
    ((v.work payload s).1).completeReply v.kind tag (v.work payload s).2
  else s.completeReply v.kind tag (Reply.bare .badLength)

/-- The row of a request whose execution is one step. -/
def runRequest (v : Service) (tag : Byte) (payload : List Byte) (s : State) : Host.Outcome State Fault Refusal :=
  whenAdmitted ⟨v.kind, tag, payload⟩ (v.run tag payload) s

/-- A request that reads the part and changes nothing: its reply as the state stands. -/
def readOnly (answer : List Byte → State → Reply) (payload : List Byte) (s : State) : State × Reply :=
  (s, answer payload s)

end Sys2Proof.Machine
end

