-- ==== Sys2Proof/Machine/WaitList.lean ====
section
/-! DEFINITION. Items and the wait list of a trunk (R7 to R9): appending, removing, and the free engine's taking of the
head item. -/

namespace Sys2Proof.Machine

open Sys2Proof

/-- A new item; both counts are 0, and no attempt of it has ended (R6, R7). -/
def newItem (d : Drop) (origin : Origin) : Item :=
  { drop := d, origin := origin, attempts := 0, notReady := 0, latest := none }

/-- The item is the SCAN item of a drop. -/
def Item.isScanFor (i : Item) (d : Drop) : Bool := i.origin == .scan && i.drop == d

/-- The item is of the survey order in a slot. -/
def Item.isOfSlot (i : Item) (k : SlotId) : Bool :=
  match i.origin with
  | .scan => false
  | .survey slot _ => slot == k

/-- The list already holds a SCAN item for the drop (R9). -/
def Engine.holdsScan (e : Engine) (d : Drop) : Bool := e.waitList.any (·.isScanFor d)

/-- An attempt is taken: the query for the item is sent, under the settings now in force (R2, R18). -/
def Engine.startAttempt (e : Engine) (i : Item) : Engine :=
  { e with inFlight := some i, attempt := e.settings, link := .sending (probeQueryBytes i.drop) }

/-- A free engine takes the head item, if one waits, and sends its query; a HALTED trunk sends none (R8, R14). -/
def Engine.takeHead (e : Engine) : Engine :=
  if e.free && !e.halted then
    match e.waitList with
    | [] => e
    | i :: rest => { e with waitList := rest }.startAttempt i
  else e

/-- An item joins the tail; a free engine takes the head at once (R8, R9). -/
def Engine.append (e : Engine) (i : Item) : Engine := { e with waitList := e.waitList ++ [i] }.takeHead

/-- A SCAN item is offered for a drop: not taken where one waits already or the trunk is HALTED (R9, R15, R24). -/
def Engine.offerScan (e : Engine) (d : Drop) : Engine :=
  if e.halted || e.holdsScan d then e else e.append (newItem d .scan)

/-- The SCAN item of a drop is removed, if one waits (R9). -/
def Engine.removeScan (e : Engine) (d : Drop) : Engine :=
  { e with waitList := e.waitList.filter fun i => !i.isScanFor d }

/-- Every SCAN item is removed (R9). -/
def Engine.removeAllScan (e : Engine) : Engine := { e with waitList := e.waitList.filter fun i => i.origin != .scan }

/-- The items of one survey order are removed (R9). -/
def Engine.removeOrder (e : Engine) (k : SlotId) : Engine :=
  { e with waitList := e.waitList.filter fun i => !i.isOfSlot k }

/-- The number of a survey order's items that wait on a trunk. -/
def Engine.waitingOfOrder (e : Engine) (k : SlotId) : Nat := (e.waitList.filter fun i => i.isOfSlot k).length

end Sys2Proof.Machine
end

