-- ==== Sys2Proof/Machine/Events.lean ====
section
/-! DEFINITION. The Event List (08_condensation_events.md): opening, reopening, tracking, clearing, removal and pending
service, and the requests Event List, Event Query and Event Ack. -/

namespace Sys2Proof.Machine

open Sys2Proof

/-! ### Numbers and captures (R128, R131) -/

/-- The number after n, wrapping from 65535 to 1 (R128). -/
def succNumber (n : Nat) : Nat := if n < 65535 then n + 1 else 1

/-- The first number at or after n that no record holds; with at most 16 records a free one is found within 16 steps
(R128). -/
def freeNumber (held : List Nat) : Nat → Nat → Nat
  | 0, n => n
  | fuel + 1, n => if held.contains n then freeNumber held fuel (succNumber n) else n

/-- The numbers the list's records hold. -/
def State.numbersHeld (s : State) : List Nat :=
  (List.finRange 16).filterMap fun p => (s.recordAt p).map (·.number)

/-- The number the next opening takes (R128). -/
def State.numberToTake (s : State) : Nat := freeNumber s.numbersHeld 16 s.events.nextNumber

/-- The capture entry of a member (R131). -/
def State.captureOf (s : State) (a : Addr) (k : Kind) : Capture :=
  let reading := (s.probe a).reading
  { addr := a, kind := k, temp := reading.map (·.temp), rh := reading.bind (·.rh),
    age := reading.map fun r => r.age s.uptime, valid := s.valid a, tainted := s.taintedAt a }

/-- The capture of a zone: its first members, as many as its capture depth (R131). -/
def State.capture (s : State) (z : ZoneId) : List Capture :=
  ((s.members z).take (s.zone z).cfg.depth).filterMap fun a => (s.kindAt a).map (s.captureOf a)

/-! ### Opening and reopening (R130, R132) -/

/-- The record that an opening writes (R130). -/
def State.newRecord (s : State) (z : ZoneId) (kind : EventKind) (late : Bool) : EventRecord :=
  let r := s.zone z
  { number := s.numberToTake, zone := z, kind := kind, state := .opened, openedAt := s.uptime, clearedAt := none,
    cause := none, worst := r.m, reEscalations := 0, lateOpened := late, dataLost := r.grade == .stale, d := r.d,
    s := r.s.map (·.value), m := r.m, capture := s.capture z }

/-- A record put into a place, at the end of the order of opening (R127, R130). -/
def EventList.putRecord (e : EventList) (p : Place) (r : EventRecord) : EventList :=
  { e with places := e.places.set p { e.places.get p with record := some r }, order := e.order ++ [p],
           nextNumber := succNumber r.number }

/-- A record is opened for a zone in the lowest free place, which is raised as urgent (R130). The callers open only
where a place is free. -/
def State.openRecord (s : State) (z : ZoneId) (kind : EventKind) (late : Bool) : State :=
  match s.freePlace with
  | none => s
  | some p => (s.setEvents (s.events.putRecord p (s.newRecord z kind late))).raise (.event p) .urgent

/-- The record in a place is replaced by another form of itself. -/
def State.setRecord (s : State) (p : Place) (e : EventRecord) : State :=
  s.setPlace p { s.place p with record := some e }

/-- A CLEARED record after its zone has entered ALARM or WET (R132). -/
def EventRecord.reopened (e : EventRecord) (wet : Bool) : EventRecord :=
  { e with state := .opened, reEscalations := min (e.reEscalations + 1) 255, clearedAt := none, cause := none,
           kind := if wet then .water else e.kind }

/-- The kind that a grade entering ALARM or WET gives (R129). -/
def riseKind (wet : Bool) : EventKind := if wet then .water else .condensation

/-- A zone whose grade has entered ALARM or WET (the table of R129). -/
def State.eventRise (s : State) (z : ZoneId) (wet : Bool) : State :=
  match s.findZone z with
  | some (p, e) =>
    match e.state with
    | .cleared => (s.setRecord p (e.reopened wet)).raise (.event p) .urgent
    | .opened =>
      if wet && e.kind == .condensation then (s.setRecord p { e with kind := .water }).raise (.event p) .urgent else s
    | .acked =>
      if wet && e.kind == .condensation then (s.setRecord p { e with kind := .water }).raise (.event p) .urgent else s
  | none =>
    if s.recordsHeld < 16 then s.openRecord z (riseKind wet) false
    else
      match s.pendingKind z with
      | none => s.setPendingKind z (some (riseKind wet))
      | some _ => if wet then s.setPendingKind z (some .water) else s

/-! ### Tracking and staleness (R134, R135) -/

/-- The lesser of the worst margin and M (R134). -/
def lesserMargin (worst : Option Int) (m : Int) : Option Int :=
  match worst with
  | none => some m
  | some w => some (min w m)

/-- The list takes the zone's M into the worst margin of its OPEN or ACKED record (R134). -/
def State.trackMargin (s : State) (z : ZoneId) : State :=
  match s.findZone z, (s.zone z).m with
  | some (p, e), some m => if e.state = .cleared then s else s.setRecord p { e with worst := lesserMargin e.worst m }
  | _, _ => s

/-- A change to STALE marks the zone's OPEN or ACKED record DATA_LOST (R135). -/
def State.markDataLost (s : State) (z : ZoneId) : State :=
  match s.findZone z with
  | some (p, e) => if e.state = .cleared then s else s.setRecord p { e with dataLost := true }
  | none => s

/-! ### Removal and pending service (R138) -/

/-- The pending zone with the lowest number (R138). -/
def State.lowestPending (s : State) : Option (ZoneId × EventKind) :=
  (List.finRange 24).findSome? fun z => (s.pendingKind z).map fun k => (z, k)

/-- The pending zone with the lowest number is given a record marked LATE_OPENED (R138). -/
def State.servePending (s : State) : State :=
  match s.lowestPending with
  | some (z, k) => (s.setPendingKind z none).openRecord z k true
  | none => s

/-- A record leaves its place and the order; the place keeps its number and zone (R127, R138). -/
def EventList.dropRecord (l : EventList) (p : Place) (e : EventRecord) : EventList :=
  { l with places := l.places.set p { record := none, last := some (e.number, e.zone) }, order := l.order.erase p }

/-- A record is removed, and a pending zone served (R138). -/
def State.removeRecord (s : State) (p : Place) (e : EventRecord) : State :=
  (s.setEvents (s.events.dropRecord p e)).servePending

/-! ### Falling (R136, R137) -/

/-- An OPEN record whose condition has fallen (R136, R137). -/
def EventRecord.clearedBy (e : EventRecord) (cause : ClearCause) (now : Nat) : EventRecord :=
  { e with state := .cleared, clearedAt := some now, cause := some cause }

/-- A zone's fall to CLEAR or WATCH, or to OFF: an OPEN record is cleared, an ACKED one removed, a pending flag
dropped (R136, R137). -/
def State.eventFall (s : State) (z : ZoneId) (cause : ClearCause) : State :=
  let s := s.setPendingKind z none
  match s.findZone z with
  | some (p, e) =>
    match e.state with
    | .opened => (s.setRecord p (e.clearedBy cause s.uptime)).raise (.event p) .routine
    | .acked => (s.removeRecord p e).raise (.event p) .routine
    | .cleared => s
  | none => s

/-- The Event List's part in a grade change, by the grade after (R104 step 2; R129, R134 to R137). -/
def State.eventGradeChange (s : State) (z : ZoneId) (after : Grade) : State :=
  match after with
  | .alarm => (s.eventRise z false).trackMargin z
  | .wet => (s.eventRise z true).trackMargin z
  | .stale => s.markDataLost z
  | .clear => (s.trackMargin z).eventFall z .gradeFell
  | .watch => (s.trackMargin z).eventFall z .gradeFell
  | .off => s.eventFall z .zoneOff

/-! ### Requests (R139, R141) -/

/-- A zone's entry among the pending zones of a kind (R141, R180). -/
def State.pendingAs (s : State) (k : EventKind) (z : ZoneId) : Bool := s.pendingKind z == some k

/-- Event List's answer: the records in order of opening, the counter, the pending zones (R141). -/
def eventListAnswer (_ : List Byte) (s : State) : Reply :=
  ⟨.ok, [byte s.recordsHeld] ++ be16 s.events.nextNumber
    ++ (s.events.order.flatMap fun p =>
          match s.recordAt p with
          | some e => be16 e.number ++ [byte e.zone.val, e.kind.code, e.state.code, byte p.val]
          | none => [])
    ++ be32 (zoneSet fun z => (s.pendingKind z).isSome) ++ be32 (zoneSet (s.pendingAs .water))⟩

/-- Event List (R180): kind, length, work. -/
def eventListService : Service := ⟨0x38, 0, readOnly eventListAnswer⟩

/-- EVENT_LIST (R141). -/
def execEventList (tag : Byte) (payload : List Byte) (s : State) : Host.Outcome State Fault Refusal :=
  runRequest eventListService tag payload s

/-- Event Query's answer: a record in full, with its capture (R141, R182). -/
def eventQueryAnswer (p : List Byte) (s : State) : Reply :=
  if u16 p 0 = 0 then Reply.bare .badField
  else
    match s.findNumber (u16 p 0) with
    | some (place, e) =>
      ⟨.ok, byte place.val :: (e.bytes ++ [byte e.capture.length] ++ e.capture.flatMap Capture.bytes)⟩
    | none => Reply.bare .notFound

/-- Event Query (R180): kind, length, work. -/
def eventQueryService : Service := ⟨0x39, 2, readOnly eventQueryAnswer⟩

/-- EVENT_QUERY (R141). -/
def execEventQuery (tag : Byte) (payload : List Byte) (s : State) : Host.Outcome State Fault Refusal :=
  runRequest eventQueryService tag payload s

/-- The reply to a taken acknowledgement (R139, R180): the number and zone of a record opened by the pending service
follow, or number 0 and zone 0xFF. -/
def ackReply (e : EventRecord) (after : Byte) (served : Option EventRecord) : Reply :=
  ⟨.ok, be16 e.number ++ [byte e.zone.val, e.state.code, after] ++ optZero (served.map (·.number))
    ++ [optCode (served.map fun r => byte r.zone.val)]⟩

/-- The record that a pending service opens when the record of a place is removed (R138). -/
def State.servedBy (s : State) (p : Place) (e : EventRecord) : Option EventRecord :=
  match (s.setEvents (s.events.dropRecord p e)).lowestPending with
  | some (z, _) => ((s.removeRecord p e).findZone z).map (·.2)
  | none => none

/-- Event Ack's work (R139). -/
def eventAckWork (p : List Byte) (s : State) : State × Reply :=
  if u16 p 0 = 0 then (s, Reply.bare .badField)
  else
    match s.findNumber (u16 p 0) with
    | none => (s, Reply.bare .notFound)
    | some (place, e) =>
      match e.state with
      | .opened => (s.setRecord place { e with state := .acked }, ackReply e EventState.acked.code none)
      | .acked => (s, ackReply e EventState.acked.code none)
      | .cleared => (s.removeRecord place e, ackReply e removedCode (s.servedBy place e))

/-- Event Ack (R180): kind, length, work. -/
def eventAckService : Service := ⟨0x3A, 2, eventAckWork⟩

/-- EVENT_ACK (R139). -/
def execEventAck (tag : Byte) (payload : List Byte) (s : State) : Host.Outcome State Fault Refusal :=
  runRequest eventAckService tag payload s

end Sys2Proof.Machine
end

