-- ==== Sys2Proof/Machine/DewPoint.lean ====
section
/-! DEFINITION. Dew-Point Arithmetic (05_dew_point_arithmetic.md): the dew point of a reading, the filter step, the
margin and the proportional duty. -/

namespace Sys2Proof.Machine

open Sys2Proof

/-- E[0] to E[14], in pascals (R72). -/
def saturationTable : List Int :=
  [126, 192, 287, 422, 611, 872, 1226, 1702, 2333, 3160, 4234, 5613, 7367, 9580, 12345]

/-- 10·E[i], in decipascals (R72). -/
def satDeci (i : Nat) : Int := 10 * saturationTable.getD i 0

/-- Stage 1: Tc (R74). -/
def dewTc (t : Int) : Int := clamp (-2000) 5000 t

/-- Stage 2: the segment index i (R75). -/
def dewSegment (tc : Int) : Nat := min ((tc + 2000) / 500).toNat 13

/-- Stage 2: esd (R75). -/
def dewEsd (tc : Int) : Int :=
  satDeci (dewSegment tc)
    + (satDeci (dewSegment tc + 1) - satDeci (dewSegment tc)) * (tc + 2000 - 500 * dewSegment tc) / 500

/-- Stage 3: ed (R76). -/
def dewEd (esd : Int) (rh : Nat) : Int := esd * rh / 10000

/-- Stage 4: j, the largest index in 0..13 for which 10·E[j] is at or below ed (R77). -/
def dewIndex (ed : Int) : Nat :=
  ((List.range 14).reverse.find? fun j => decide (satDeci j ≤ ed)).getD 0

/-- Stage 4: Td (R77). -/
def dewTd (ed : Int) : Int :=
  if ed < 1260 then -2000
  else if 123450 ≤ ed then 5000
  else
    -2000 + 500 * dewIndex ed
      + 500 * (ed - satDeci (dewIndex ed)) / (satDeci (dewIndex ed + 1) - satDeci (dewIndex ed))

/-- The dew point of T' and RH' with its flags (R73 to R77). -/
def dewPoint (t : Int) (rh : Nat) : Dew :=
  { td := dewTd (dewEd (dewEsd (dewTc t)) rh)
    tempOutOfRange := decide (dewTc t ≠ t)
    dewBelowRange := decide (dewEd (dewEsd (dewTc t)) rh < 1260) }

/-- The filter step (R81): Df takes Td if absent, or moves by the truncated share of the difference. -/
def filterStep (k : Nat) (df : Option Int) (td : Int) : Int :=
  match df with
  | none => td
  | some d => d + Int.tdiv (td - d) (2 ^ k)

/-- The margin (R84): S less D where both are present. -/
def margin (s d : Option Int) : Option Int :=
  match s, d with
  | some s, some d => some (s - d)
  | _, _ => none

/-- The per-zone duty of a margin (R85). -/
def zoneDuty (w a m : Int) : Nat :=
  if w ≤ m then 0
  else if m ≤ a then 255
  else (255 * (w - m) / (w - a)).toNat

end Sys2Proof.Machine
end

