-- ==== Sys2Proof/Machine/Lines.lean ====
section
/-! DEFINITION. The Output Unit (09_output_lines.md): recomputing a line, the duty frame, and the requests Line Setup,
Line Release and Line Query. -/

namespace Sys2Proof.Machine

open Sys2Proof

/-! ### Recomputing a line (R148 to R152) -/

/-- What a zone proposes to a PROPORTIONAL line (R152). A zone graded CLEAR, WATCH or ALARM always has a margin; where
a state no run reaches has none, the zone proposes 0 (DESIGN CHOICE, assumption 16, safe). -/
def LineConfig.proposal (c : LineConfig) (z : ZoneRecord) : Nat :=
  match z.grade with
  | .wet => 255
  | .stale => if c.failsafe then 255 else 0
  | .off => 0
  | .clear => match z.m with
    | some m => zoneDuty z.cfg.w z.cfg.a m
    | none => 0
  | .watch => match z.m with
    | some m => zoneDuty z.cfg.w z.cfg.a m
    | none => 0
  | .alarm => match z.m with
    | some m => zoneDuty z.cfg.w z.cfg.a m
    | none => 0

/-- The duty the zones of the mask ask for: the greatest of their proposals, 0 for an empty mask (R152). -/
def State.askedDuty (s : State) (c : LineConfig) : Nat :=
  (List.finRange 24).foldl (fun acc z => if c.holds z then max acc (c.proposal (s.zone z)) else acc) 0

/-- A line after a recompute, from whether it is triggered and the duty asked (R149, R150, R152). -/
def LineRecord.recomputed (l : LineRecord) (triggered : Bool) (duty : Nat) : LineRecord :=
  match l.cfg.mode with
  | .off => { l with latched := false, computed := 0, applied := 0, drive := .inactive }
  | .follow => { l with drive := if triggered then .active else .inactive }
  | .latch =>
    { l with latched := l.latched || triggered, drive := if l.latched || triggered then .active else .inactive }
  | .proportional => { l with computed := duty }

/-- A recompute of one line (R148). -/
def State.recompute (s : State) (l : LineId) : State :=
  let r := s.outLine l
  s.setOutLine l (r.recomputed (s.triggered r.cfg) (s.askedDuty r.cfg))

/-- Every line whose mask holds the zone is recomputed, in ascending line number (R148, a grade change). -/
def State.recomputeLinesOf (s : State) (z : ZoneId) : State :=
  (List.finRange 4).foldl (fun s l => if (s.outLine l).cfg.holds z then s.recompute l else s) s

/-- Every PROPORTIONAL line whose mask holds the zone is recomputed (R148, a change of margin). -/
def State.recomputeProportionalOf (s : State) (z : ZoneId) : State :=
  (List.finRange 4).foldl
    (fun s l =>
      if (s.outLine l).cfg.holds z && (s.outLine l).cfg.mode == .proportional then s.recompute l else s) s

/-! ### The duty frame (R153) -/

/-- The on-time of a duty within a frame, in milliseconds (R153). -/
def onTimeMs (duty : Nat) : Nat := 1000 * duty / 255

/-- A PROPORTIONAL line at a frame start; lines in other modes take no notice (R153). -/
def LineRecord.frameStarted (l : LineRecord) : LineRecord :=
  if l.cfg.mode = .proportional then
    { l with applied := l.computed, drive := if l.computed = 0 then .inactive else .active }
  else l

/-- DUTY_FRAME_START (R153). -/
def execDutyFrameStart (s : State) : Host.Outcome State Fault Refusal :=
  fieldEvent (fun s => { s with lines := s.lines.map LineRecord.frameStarted }) s

/-- A line at the end of its on-time: INACTIVE for the rest of the frame. An on-time of the whole frame has no end
inside it, and a line that is not driven by its duty has none (R153, assumption 24). -/
def LineRecord.onTimeEnded (l : LineRecord) : LineRecord :=
  if l.cfg.mode = .proportional ∧ l.drive = .active ∧ onTimeMs l.applied < 1000 then { l with drive := .inactive }
  else l

/-- DUTY_ON_TIME_END (R153). -/
def execDutyOnTimeEnd (line : LineId) (s : State) : Host.Outcome State Fault Refusal :=
  fieldEvent (fun s => s.setOutLine line (s.outLine line).onTimeEnded) s

/-! ### Line Setup (R154, R155) -/

/-- The configuration a Line Setup payload names, if every code is listed and the mask names zones 0..23 (R154). -/
def lineConfig? (p : List Byte) : Option LineConfig :=
  match lineMode? (u8 p 1), trigger? (u8 p 6), polarity? (u8 p 7), bool? (u8 p 8) with
  | some mode, some trigger, some polarity, some failsafe =>
    if u32 p 2 < 2 ^ 24 then some ⟨mode, BitVec.ofNat 24 (u32 p 2), trigger, polarity, failsafe⟩ else none
  | _, _, _, _ => none

/-- A line with its new configuration written, before the recompute of the same step (R155). -/
def LineRecord.setUp (l : LineRecord) (c : LineConfig) : LineRecord :=
  match c.mode with
  | .proportional =>
    if l.cfg.mode = .proportional then { l with cfg := c, latched := false }
    else { l with cfg := c, latched := false, applied := 0, drive := .inactive }
  | .off => { l with cfg := c, latched := false, computed := 0, applied := 0 }
  | .follow => { l with cfg := c, latched := false, computed := 0, applied := 0 }
  | .latch => { l with cfg := c, latched := false, computed := 0, applied := 0 }

/-- Line Setup on a line the part has (R155). -/
def State.setUpLine (s : State) (l : LineId) (c : LineConfig) : State :=
  (s.setOutLine l ((s.outLine l).setUp c)).recompute l

/-- Line Setup's work (R154, R155). -/
def lineSetupWork (p : List Byte) (s : State) : State × Reply :=
  match fin? 4 (u8 p 0), lineConfig? p with
  | some l, some c => (s.setUpLine l c, ⟨.ok, (s.setUpLine l c).lineBody l⟩)
  | _, _ => (s, Reply.bare .badField)

/-- Line Setup (R180): kind, length, work. -/
def lineSetupService : Service := ⟨0x34, 9, lineSetupWork⟩

/-- LINE_SETUP (R154, R155). -/
def execLineSetup (tag : Byte) (payload : List Byte) (s : State) : Host.Outcome State Fault Refusal :=
  runRequest lineSetupService tag payload s

/-! ### Line Release (R151) -/

/-- The line's latch is cleared and the line recomputed, in one step (R151). -/
def State.releaseLine (s : State) (l : LineId) : State :=
  (s.setOutLine l { s.outLine l with latched := false }).recompute l

/-- Line Release's work (R151). -/
def lineReleaseWork (p : List Byte) (s : State) : State × Reply :=
  match fin? 4 (u8 p 0) with
  | none => (s, Reply.bare .badField)
  | some l =>
    if (s.outLine l).cfg.mode = .latch then
      let s' := s.releaseLine l
      (s', ⟨.ok, [byte l.val, boolByte (s'.outLine l).latched, boolByte (s.triggered (s.outLine l).cfg),
        (s'.outLine l).drive.code]⟩)
    else (s, Reply.bare .wrongState)

/-- Line Release (R180): kind, length, work. -/
def lineReleaseService : Service := ⟨0x35, 1, lineReleaseWork⟩

/-- LINE_RELEASE (R151). -/
def execLineRelease (tag : Byte) (payload : List Byte) (s : State) : Host.Outcome State Fault Refusal :=
  runRequest lineReleaseService tag payload s

/-! ### Line Query (R156) -/

/-- Line Query's answer (R156). -/
def lineQueryAnswer (p : List Byte) (s : State) : Reply :=
  match fin? 4 (u8 p 0) with
  | none => Reply.bare .badField
  | some l => ⟨.ok, s.lineBody l⟩

/-- Line Query (R180): kind, length, work. -/
def lineQueryService : Service := ⟨0x36, 1, readOnly lineQueryAnswer⟩

/-- LINE_QUERY (R156). -/
def execLineQuery (tag : Byte) (payload : List Byte) (s : State) : Host.Outcome State Fault Refusal :=
  runRequest lineQueryService tag payload s

end Sys2Proof.Machine
end

