-- ==== Sys2Proof/Machine/Zones.lean ====
section
/-! DEFINITION. The Zone Evaluator (06_zone_grades.md): the evaluation of a zone (R94 to R102), what it hands on (R104,
R105), and the requests Zone Setup, Zone On, Zone Off and Zone Query. -/

namespace Sys2Proof.Machine

open Sys2Proof

/-! ### The values of a zone (R94) -/

/-- A member offers a dew point: AIR, valid, not TAINTED (R53, R94). -/
def State.offersDew (s : State) (a : Addr) : Bool :=
  s.kindAt a == some .air && s.valid a && !s.taintedAt a

/-- A member counts as a valid air probe (R53). -/
def State.validAir (s : State) (a : Addr) : Bool := s.kindAt a == some .air && s.valid a

/-- A member counts as a valid surface probe (R53). -/
def State.validSurface (s : State) (a : Addr) : Bool := s.kindAt a == some .surface && s.valid a

/-- The greatest of a list, absent if it is empty. -/
def greatest : List Int → Option Int
  | [] => none
  | x :: rest => some (rest.foldl max x)

/-- The least of a list, absent if it is empty. -/
def least : List Int → Option Int
  | [] => none
  | x :: rest => some (rest.foldl min x)

/-- D: the greatest Df among the members that offer one (R94 step 1). -/
def State.zoneDew (s : State) (z : ZoneId) : Option Int :=
  greatest (((s.members z).filter s.offersDew).filterMap fun a => (s.probe a).df)

/-- S: the least T' of the valid surface members, else the design value (R94 step 2). -/
def State.zoneSurface (s : State) (z : ZoneId) : Option Surface :=
  match least (((s.members z).filter s.validSurface).filterMap fun a => (s.probe a).reading.map (·.temp)) with
  | some t => some ⟨t, .probe⟩
  | none => (s.zone z).cfg.design.map fun t => ⟨t, .design⟩

/-- The zone's record with the values of R94 written. -/
def State.zoneValued (s : State) (z : ZoneId) : ZoneRecord :=
  { s.zone z with
    d := s.zoneDew z, s := s.zoneSurface z, m := margin ((s.zoneSurface z).map (·.value)) (s.zoneDew z),
    air := ((s.members z).filter s.validAir).length, surfaces := ((s.members z).filter s.validSurface).length }

/-- The WET condition (R95). -/
def State.wetCondition (s : State) (z : ZoneId) : Bool :=
  (List.finRange 8).any (fun c => (s.zone z).cfg.watches c && (s.channel c).state == .wet)
    || ((s.zone z).cfg.wetElement && (s.members z).any fun a => s.validAir a && s.taintedAt a)

/-! ### The grade decision (R95 to R102) -/

/-- The target with no hysteresis (R98). -/
def plainTarget (c : ZoneConfig) (m : Int) : Grade :=
  if m ≤ c.a then .alarm else if m ≤ c.w then .watch else .clear

/-- The target from M and the current grade (R99). -/
def hystTarget (c : ZoneConfig) (g : Grade) (m : Int) : Grade :=
  match g with
  | .alarm => if m ≤ c.a + c.h then .alarm else if m ≤ c.w + c.h then .watch else .clear
  | .watch => if m ≤ c.a then .alarm else if m ≤ c.w + c.h then .watch else .clear
  | .clear => plainTarget c m
  | .off => .off
  | .stale => .stale
  | .wet => .wet

/-- Worse: later in the order CLEAR < WATCH < ALARM < WET (00_scope 0.9). -/
def Grade.worse (g h : Grade) : Bool :=
  match g.rank, h.rank with
  | some a, some b => decide (b < a)
  | _, _ => false

/-- Why an evaluation is made: an ordinary event, or the expiry of a dwell in one direction (R102). -/
inductive EvalCause where
  | ordinary | riseExpired | fallExpired
  deriving DecidableEq, Repr

/-- A dwell of a length is loaded; with a length of 0 the grade becomes the target at once (R100). -/
def loadDwell (g target : Grade) (length : Nat) (loaded : Dwell) : Grade × Dwell :=
  if length = 0 then (target, .none) else (g, loaded)

/-- The dwell table (R100), from the current grade, the target and the dwell. -/
def dwellTable (c : ZoneConfig) (g target : Grade) (dwell : Dwell) : Grade × Dwell :=
  if target.worse g then
    match dwell with
    | .rise n due => (g, .rise n due)
    | .none => loadDwell g target c.riseDwell (.rise c.riseDwell false)
    | .fall _ _ => loadDwell g target c.riseDwell (.rise c.riseDwell false)
  else if g.worse target then
    match dwell with
    | .fall n due => (g, .fall n due)
    | .none => loadDwell g target c.fallDwell (.fall c.fallDwell false)
    | .rise _ _ => loadDwell g target c.fallDwell (.fall c.fallDwell false)
  else (g, .none)

/-- The dwell step of an evaluation, or what replaces it at an expiry (R100, R102). -/
def dwellStep (cause : EvalCause) (c : ZoneConfig) (g target : Grade) (dwell : Dwell) : Grade × Dwell :=
  match cause with
  | .ordinary => dwellTable c g target dwell
  | .riseExpired => if target.worse g then (target, .none) else dwellTable c g target .none
  | .fallExpired => if g.worse target then (target, .none) else dwellTable c g target .none

/-- The grade decision of an evaluation (R95 to R102): WET, then STALE, then the way out of STALE, then the target and
the dwell. -/
def decideGrade (cause : EvalCause) (c : ZoneConfig) (g : Grade) (dwell : Dwell) (wet : Bool) (m : Option Int) :
    Grade × Dwell :=
  if wet then (.wet, .none)
  else
    match m with
    | none => (.stale, .none)
    | some m =>
      match g with
      | .stale => (plainTarget c m, .none)
      | .wet => dwellStep cause c .alarm (hystTarget c .alarm m) .none
      | .clear => dwellStep cause c .clear (hystTarget c .clear m) dwell
      | .watch => dwellStep cause c .watch (hystTarget c .watch m) dwell
      | .alarm => dwellStep cause c .alarm (hystTarget c .alarm m) dwell
      | .off => (.off, dwell)

/-- The zone's record after an evaluation: the values of R94, the grade and the dwell. -/
def State.zoneEvaluated (s : State) (z : ZoneId) (cause : EvalCause) : ZoneRecord :=
  let v := s.zoneValued z
  let r := decideGrade cause v.cfg v.grade v.dwell (s.wetCondition z) v.m
  { v with grade := r.1, dwell := r.2 }

/-! ### What is handed on (R104, R105) -/

/-- The urgency of a zone notice (R104 step 1). -/
def Grade.urgency : Grade → Urgency
  | .alarm => .urgent
  | .wet => .urgent
  | .off => .routine
  | .stale => .routine
  | .clear => .routine
  | .watch => .routine

/-- A grade of an active zone: WATCH, ALARM or WET (R113). -/
def Grade.isActive : Grade → Bool
  | .watch => true
  | .alarm => true
  | .wet => true
  | .off => false
  | .stale => false
  | .clear => false

/-- The active-zone count after a grade change (R113). -/
def countActive (n : Nat) (before after : Grade) : Nat :=
  n - (if before.isActive then 1 else 0) + (if after.isActive then 1 else 0)

/-- The Leak Sense Unit is told of a grade change (R104 step 4, R113). -/
def State.leakGradeChange (s : State) (before after : Grade) : State :=
  s.setLeak { s.leak with activeZones := countActive s.leak.activeZones before after }

/-- A grade change is handed on: the zone notice, the Event List, the lines, the Leak Sense Unit (R104). -/
def State.gradeChange (s : State) (z : ZoneId) (before after : Grade) : State :=
  ((((s.raise (.zone z) after.urgency).eventGradeChange z after).recomputeLinesOf z).leakGradeChange before after)

/-- An evaluation that leaves the grade hands on a changed M to the PROPORTIONAL lines and a present M to the Event
List (R105). -/
def State.marginHandover (s : State) (z : ZoneId) (before : Option Int) : State :=
  (if (s.zone z).m = before then s else s.recomputeProportionalOf z).trackMargin z

/-- The effects of an evaluation are handed on, from the record before it (R104, R105). -/
def State.handOn (s : State) (z : ZoneId) (before : ZoneRecord) : State :=
  if (s.zone z).grade = before.grade then s.marginHandover z before.m
  else s.gradeChange z before.grade (s.zone z).grade

/-- An evaluation of a zone (R93); of a zone that is OFF it changes nothing. -/
def State.evaluate (s : State) (z : ZoneId) (cause : EvalCause) : State :=
  if (s.zone z).enabled then (s.setZone z (s.zoneEvaluated z cause)).handOn z (s.zone z) else s

/-- Zones evaluated one after another, in the order given. -/
def State.evaluateAll (s : State) (zs : List ZoneId) : State := zs.foldl (fun s z => s.evaluate z .ordinary) s

/-- The zone an address looks up to is evaluated, if there is one (R43, R49, R51). -/
def State.evaluateAt (s : State) (a : Addr) : State :=
  match s.map.lookup a with
  | some z => s.evaluate z .ordinary
  | none => s

/-! ### Dwell expiry (R102) -/

/-- The direction of a dwell whose expiry is due, if it is (R101, assumption 19). -/
def Dwell.expired : Dwell → Option EvalCause
  | .rise _ true => some .riseExpired
  | .fall _ true => some .fallExpired
  | .rise _ false => Option.none
  | .fall _ false => Option.none
  | .none => Option.none

/-- At the expiry the dwell becomes NONE and the zone is evaluated (R102); a dwell that is not due does not expire
(assumption 4). -/
def State.expireDwell (s : State) (z : ZoneId) : State :=
  match (s.zone z).dwell.expired with
  | some cause => (s.setZone z { s.zone z with dwell := .none }).evaluate z cause
  | none => s

/-- DWELL_EXPIRY (R102). -/
def execDwellExpiry (zone : ZoneId) (s : State) : Host.Outcome State Fault Refusal :=
  fieldEvent (fun s => s.expireDwell zone) s

/-! ### Zone Setup (R89, R90) -/

/-- The design surface temperature of a request: -32768 stands for absent (R177). -/
def design? (x : Int) : Option Int := if x = -32768 then none else some x

/-- The configuration a Zone Setup payload carries, before clamping, but for the option byte. -/
def zoneConfigRaw (p : List Byte) (wetElement : Bool) : ZoneConfig :=
  { w := s16 p 1, a := s16 p 3, h := s16 p 5, riseDwell := u16 p 7, fallDwell := u16 p 9, weight := u8 p 11,
    design := design? (s16 p 12), leakMask := p.getD 14 0, wetElement := wetElement, depth := u8 p 16 }

/-- Every number clamped into its range (R87, R89 step 3). -/
def ZoneConfig.clamped (c : ZoneConfig) : ZoneConfig :=
  { c with
    w := clamp 0 2000 c.w, a := clamp (-500) 1500 c.a, h := clamp 10 500 c.h, riseDwell := clampNat 0 900 c.riseDwell,
    fallDwell := clampNat 0 3600 c.fallDwell, weight := clampNat 0 4 c.weight,
    design := c.design.map (clamp (-1000) 3000), depth := clampNat 0 8 c.depth }

/-- A zone takes new settings and is evaluated if it is enabled (R90). -/
def State.setUpZone (s : State) (z : ZoneId) (c : ZoneConfig) : State :=
  (s.setZone z { s.zone z with cfg := c }).evaluate z .ordinary

/-- Zone Setup's work (R89, R90). -/
def zoneSetupWork (p : List Byte) (s : State) : State × Reply :=
  match fin? 24 (u8 p 0), bool? (u8 p 15) with
  | some z, some wetElement =>
    let raw := zoneConfigRaw p wetElement
    let c := raw.clamped
    if c.w ≤ c.a then (s, Reply.bare .badField)
    else
      let s' := s.setUpZone z c
      (s', ⟨takenStatus (c != raw), byte z.val :: (c.bytes ++ [(s'.zone z).grade.code])⟩)
  | _, _ => (s, Reply.bare .badField)

/-- Zone Setup (R180): kind, length, work. -/
def zoneSetupService : Service := ⟨0x28, 17, zoneSetupWork⟩

/-- ZONE_SETUP (R89, R90). -/
def execZoneSetup (tag : Byte) (payload : List Byte) (s : State) : Host.Outcome State Fault Refusal :=
  runRequest zoneSetupService tag payload s

/-! ### Zone On and Zone Off (R91, R92) -/

/-- An OFF zone is enabled from STALE and evaluated; the change from OFF to the grade left is handed on as one
(R91). -/
def State.turnOn (s : State) (z : ZoneId) : State :=
  let s1 := s.setZone z { s.zone z with enabled := true, grade := .stale }
  (s1.setZone z (s1.zoneEvaluated z .ordinary)).handOn z (s.zone z)

/-- A zone's record turned off (R92). -/
def ZoneRecord.turnedOff (r : ZoneRecord) : ZoneRecord :=
  { r with enabled := false, grade := .off, d := none, s := none, m := none, dwell := .none, air := 0, surfaces := 0 }

/-- An enabled zone is disabled, and the change from its old grade to OFF is handed on (R92). -/
def State.turnOff (s : State) (z : ZoneId) : State :=
  (s.setZone z (s.zone z).turnedOff).handOn z (s.zone z)

/-- The reply of Zone On and Zone Off: the zone and its grade after the request (R91, R92). -/
def State.gradeReply (s : State) (z : ZoneId) : Reply := ⟨.ok, [byte z.val, (s.zone z).grade.code]⟩

/-- Zone On's work (R91). -/
def zoneOnWork (p : List Byte) (s : State) : State × Reply :=
  match fin? 24 (u8 p 0) with
  | none => (s, Reply.bare .badField)
  | some z => if (s.zone z).enabled then (s, s.gradeReply z) else (s.turnOn z, (s.turnOn z).gradeReply z)

/-- Zone On (R180): kind, length, work. -/
def zoneOnService : Service := ⟨0x29, 1, zoneOnWork⟩

/-- ZONE_ON (R91). -/
def execZoneOn (tag : Byte) (payload : List Byte) (s : State) : Host.Outcome State Fault Refusal :=
  runRequest zoneOnService tag payload s

/-- Zone Off's work (R92). -/
def zoneOffWork (p : List Byte) (s : State) : State × Reply :=
  match fin? 24 (u8 p 0) with
  | none => (s, Reply.bare .badField)
  | some z => if (s.zone z).enabled then (s.turnOff z, (s.turnOff z).gradeReply z) else (s, s.gradeReply z)

/-- Zone Off (R180): kind, length, work. -/
def zoneOffService : Service := ⟨0x2A, 1, zoneOffWork⟩

/-- ZONE_OFF (R92). -/
def execZoneOff (tag : Byte) (payload : List Byte) (s : State) : Host.Outcome State Fault Refusal :=
  runRequest zoneOffService tag payload s

/-! ### Zone Query (R107) -/

/-- Zone Query's answer: the zone body, enabled, the sixteen configuration bytes (R107, R180). -/
def zoneQueryAnswer (p : List Byte) (s : State) : Reply :=
  match fin? 24 (u8 p 0) with
  | none => Reply.bare .badField
  | some z => ⟨.ok, s.zoneBody z ++ boolByte (s.zone z).enabled :: (s.zone z).cfg.bytes⟩

/-- Zone Query (R180): kind, length, work. -/
def zoneQueryService : Service := ⟨0x2B, 1, readOnly zoneQueryAnswer⟩

/-- ZONE_QUERY (R107). -/
def execZoneQuery (tag : Byte) (payload : List Byte) (s : State) : Host.Outcome State Fault Refusal :=
  runRequest zoneQueryService tag payload s

end Sys2Proof.Machine
end

