-- ==== Sys2Proof/Machine/Probes.lean ====
section
/-! DEFINITION. The Probe Table (03_the_probe_table.md): applying final outcomes, age, re-judging, and the requests
Define Probe, Retire Probe and Probe Query. -/

namespace Sys2Proof.Machine

open Sys2Proof

/-! ### Storing a reading (R45, R46) -/

/-- T' of a raw temperature (R45 step 1). -/
def trimTemp (raw trim : Int) : Int := clamp (-4000) 8500 (raw + trim)

/-- RH' of an accepted RH (R45 step 2). -/
def trimRh (rh : Nat) (trim : Int) : Nat := (clamp 0 10000 (rh + trim)).toNat

/-- The reading that an accepted answer gives a probe (R45). -/
def storedReading (c : ProbeConfig) (raw : RawReading) (taken : Nat) : Reading :=
  { temp := trimTemp raw.temp c.tTrim
    rh := match c.kind with
      | .air => raw.rh.map fun rh => trimRh rh c.rhTrim
      | .surface => none
    rawTemp := raw.temp
    rawRh := match c.kind with
      | .air => raw.rh
      | .surface => none
    saturated := raw.saturated, tainted := raw.wet, taken := taken }

/-- The filter weight for an address: that of the zone it looks up to, 0 where it is unassigned (R46, R82). -/
def State.filterWeight (s : State) (a : Addr) : Nat :=
  match s.map.lookup a with
  | some z => (s.zone z).cfg.weight
  | none => 0

/-- The dew-point step of an AIR reading; a SURFACE reading has no RH' and takes none (R46). -/
def ProbeRecord.withDew (p : ProbeRecord) (temp : Int) (rh : Option Nat) (k : Nat) : ProbeRecord :=
  match rh with
  | some rh => { p with dew := some (dewPoint temp rh), df := some (filterStep k p.df (dewPoint temp rh).td) }
  | none => p

/-- The record after a GOOD or TAINTED outcome: the reading stored, ACTIVE, its age expiry awaited (R45, R46, R51). -/
def ProbeRecord.stored (p : ProbeRecord) (r : Reading) (outcome : ProbeOutcome) (k maxAge : Nat) : ProbeRecord :=
  { p with reading := some r, failures := 0, last := some outcome, mismatch := none, state := .active,
           expiry := some (r.taken + maxAge + 1) }.withDew r.temp r.rh k

/-- SUSPECT or FAULTED (R45 step 5). -/
def ProbeState.failing : ProbeState → Bool
  | .suspect => true
  | .faulted => true
  | .undefined => false
  | .active => false

/-- A GOOD or TAINTED outcome is applied: the reading stored and, if the probe was failing, its notice raised (R45). -/
def State.storeReading (s : State) (a : Addr) (c : ProbeConfig) (outcome : ProbeOutcome) (raw : RawReading)
    (taken : Nat) : State :=
  let p := s.probe a
  let s' := s.setProbe a (p.stored (storedReading c raw taken) outcome (s.filterWeight a) s.scan.maxAge)
  if p.state.failing then s'.raise (.probe a) .routine else s'

/-! ### A failure (R47) -/

/-- The state after a failure, from the count and the trunk's probe fault threshold (R47 step 3). -/
def failedState (before : ProbeState) (count threshold : Nat) : ProbeState :=
  if before = .faulted then .faulted else if count < threshold then .suspect else .faulted

/-- The record after a failure; one that becomes FAULTED loses validity, and its Df becomes absent (R47, R50, R51). -/
def ProbeRecord.failed (p : ProbeRecord) (outcome : ProbeOutcome) (answered : Option Kind) (threshold : Nat) :
    ProbeRecord :=
  let count := min (p.failures + 1) 15
  let state := failedState p.state count threshold
  { p with failures := count, last := some outcome, state := state,
           mismatch := if outcome = .kindMismatch then answered else none,
           df := if state = .faulted then none else p.df,
           expiry := if state = .faulted then none else p.expiry }

/-- Whether a failure raises the probe's notice (R47 step 4). -/
def failureRaises (outcome : ProbeOutcome) (before after : ProbeState) : Bool :=
  outcome == .kindMismatch || (before == .active && after == .suspect) || (before != .faulted && after == .faulted)

/-- A failure is applied (R47). -/
def State.failProbe (s : State) (a : Addr) (outcome : ProbeOutcome) (answered : Option Kind) : State :=
  let p := s.probe a
  let p' := p.failed outcome answered (s.engine a.trunk).settings.faultThreshold
  let s' := s.setProbe a p'
  if failureRaises outcome p.state p'.state then s'.raise (.probe a) .routine else s'

/-! ### Applying a final outcome (R12, R45 to R49) -/

/-- A final outcome is applied to a defined record and its zone evaluated; NOT_READY_LIMIT leaves the record and
evaluates nothing (R48, R49). A GOOD or TAINTED result always has a reading (R6). -/
def State.applyOutcome (s : State) (a : Addr) (c : ProbeConfig) (res : AttemptResult) (outcome : ProbeOutcome) :
    State :=
  match outcome with
  | .good => match res.reading with
    | some raw => (s.storeReading a c .good raw res.time).evaluateAt a
    | none => s
  | .tainted => match res.reading with
    | some raw => (s.storeReading a c .tainted raw res.time).evaluateAt a
    | none => s
  | .noAnswer => (s.failProbe a .noAnswer res.kind).evaluateAt a
  | .badCheck => (s.failProbe a .badCheck res.kind).evaluateAt a
  | .kindMismatch => (s.failProbe a .kindMismatch res.kind).evaluateAt a
  | .notReadyLimit => s
  | .trunkHalted => s
  | .notReady => s

/-- The Probe Table is handed a final outcome: applied if a probe is defined at the address at that moment (R12). -/
def State.handToProbe (s : State) (a : Addr) (res : AttemptResult) (outcome : ProbeOutcome) : State :=
  match (s.probe a).config with
  | some c => s.applyOutcome a c res outcome
  | none => s

/-! ### Age (R51, R52) -/

/-- A record whose reading has lost validity while it stays defined: Df absent, no expiry awaited (R50, R51). -/
def ProbeRecord.lostValidity (p : ProbeRecord) : ProbeRecord := { p with df := none, expiry := none }

/-- An awaited age expiry has come (R51). -/
def State.ageDue (s : State) (a : Addr) : Bool :=
  match (s.probe a).expiry with
  | some t => decide (t ≤ s.uptime)
  | none => false

/-- An awaited age expiry that has come: validity is lost and the zone evaluated (R51). One that is not due does not
occur (assumption 4). -/
def State.expireAge (s : State) (a : Addr) : State :=
  if s.ageDue a then (s.setProbe a (s.probe a).lostValidity).evaluateAt a else s

/-- AGE_EXPIRY (R51). -/
def execAgeExpiry (addr : Addr) (s : State) : Host.Outcome State Fault Refusal :=
  fieldEvent (fun s => s.expireAge addr) s

/-- The awaited expiry of a record under a max reading age (R51). -/
def ProbeRecord.expiryUnder (p : ProbeRecord) (maxAge : Nat) : Option Nat :=
  p.reading.map fun r => r.taken + maxAge + 1

/-- A reading that regains validity: for an AIR probe Df takes the record's Td; an expiry is awaited (R52). -/
def ProbeRecord.regained (p : ProbeRecord) (maxAge : Nat) : ProbeRecord :=
  { p with df := p.dew.map (·.td), expiry := p.expiryUnder maxAge }

/-- A record re-judged when the max reading age changes (R52). -/
def ProbeRecord.rejudged (p : ProbeRecord) (old new uptime : Nat) : ProbeRecord :=
  match p.validAt old uptime, p.validAt new uptime with
  | true, false => p.lostValidity
  | false, true => p.regained new
  | true, true => { p with expiry := p.expiryUnder new }
  | false, false => p

/-- The addresses whose reading's validity differs under two max reading ages (R52). -/
def State.validityChanged (s : State) (old new : Nat) (a : Addr) : Bool :=
  (s.probe a).validAt old s.uptime != (s.probe a).validAt new s.uptime

/-- The zones to which the map assigns a probe of which p holds, ascending. -/
def State.zonesOf (s : State) (p : Addr → Bool) : List ZoneId :=
  (List.finRange 24).filter fun z => allAddrs.any fun a => p a && s.map.lookup a == some z

/-- A new max reading age: the setting changes, every record is re-judged, and each zone with a changed probe is
evaluated once, ascending (R29, R52). -/
def State.changeMaxAge (s : State) (new : Nat) : State :=
  ({ s with scan := { s.scan with maxAge := new },
            probes := s.probes.map fun p => p.rejudged s.scan.maxAge new s.uptime }).evaluateAll
    (s.zonesOf (s.validityChanged s.scan.maxAge new))

/-! ### Define Probe (R42, R43) -/

/-- A defined record started afresh (R43, R56). -/
def ProbeRecord.fresh (c : ProbeConfig) : ProbeRecord := { ProbeRecord.undefined with config := some c, state := .active }

/-- The record a configuration starts with: ACTIVE if defined, UNDEFINED if not (R56). -/
def ProbeRecord.start (c : Option ProbeConfig) : ProbeRecord :=
  match c with
  | some c => ProbeRecord.fresh c
  | none => ProbeRecord.undefined

/-- The RH trim as applied (R42). -/
def appliedRhTrim (k : Kind) (trim : Int) : Int :=
  match k with
  | .air => clamp (-1000) 1000 trim
  | .surface => 0

/-- A probe is defined at an address (R43). -/
def State.defineProbe (s : State) (a : Addr) (c : ProbeConfig) : State :=
  (s.setProbe a (ProbeRecord.fresh c)).evaluateAt a

/-- Define Probe's work (R42, R43). -/
def defineProbeWork (p : List Byte) (s : State) : State × Reply :=
  match addr? (u8 p 0) (u8 p 1), kind? (u8 p 2) with
  | some a, some k =>
    let c : ProbeConfig := ⟨k, clamp (-500) 500 (s16 p 3), appliedRhTrim k (s16 p 5)⟩
    (s.defineProbe a c,
      ⟨takenStatus (c.tTrim != s16 p 3 || c.rhTrim != s16 p 5),
        [trunkCode a.trunk, byte a.drop.val, k.code] ++ sbe16 c.tTrim ++ sbe16 c.rhTrim⟩)
  | _, _ => (s, Reply.bare .badField)

/-- Define Probe (R180): kind, length, work. -/
def defineProbeService : Service := ⟨0x10, 7, defineProbeWork⟩

/-- DEFINE_PROBE (R42, R43). -/
def execDefineProbe (tag : Byte) (payload : List Byte) (s : State) : Host.Outcome State Fault Refusal :=
  runRequest defineProbeService tag payload s

/-! ### Retire Probe (R44) -/

/-- A probe is retired: its waiting SCAN item removed, its record undefined, its former zone evaluated (R44). -/
def State.retireProbe (s : State) (a : Addr) : State :=
  ((s.setEngine a.trunk ((s.engine a.trunk).removeScan a.drop)).setProbe a ProbeRecord.undefined).evaluateAt a

/-- Retire Probe's work (R44). -/
def retireProbeWork (p : List Byte) (s : State) : State × Reply :=
  match addr? (u8 p 0) (u8 p 1) with
  | none => (s, Reply.bare .badField)
  | some a =>
    if s.definedAt a then (s.retireProbe a, ⟨.ok, [trunkCode a.trunk, byte a.drop.val]⟩)
    else (s, Reply.bare .notFound)

/-- Retire Probe (R180): kind, length, work. -/
def retireProbeService : Service := ⟨0x11, 2, retireProbeWork⟩

/-- RETIRE_PROBE (R44). -/
def execRetireProbe (tag : Byte) (payload : List Byte) (s : State) : Host.Outcome State Fault Refusal :=
  runRequest retireProbeService tag payload s

/-! ### Probe Query (R55) -/

/-- Probe Query's answer (R55). -/
def probeQueryAnswer (p : List Byte) (s : State) : Reply :=
  match addr? (u8 p 0) (u8 p 1) with
  | none => Reply.bare .badField
  | some a => ⟨.ok, s.probeBody a⟩

/-- Probe Query (R180): kind, length, work. -/
def probeQueryService : Service := ⟨0x12, 2, readOnly probeQueryAnswer⟩

/-- PROBE_QUERY (R55). -/
def execProbeQuery (tag : Byte) (payload : List Byte) (s : State) : Host.Outcome State Fault Refusal :=
  runRequest probeQueryService tag payload s

end Sys2Proof.Machine
end

