-- ==== Sys2Proof/Machine/Surveys.lean ====
section
/-! DEFINITION. The Survey Unit (02_scanning_and_surveys.md, R32 to R39): settling points, completing an order, and the
requests Survey and Survey Cancel. -/

namespace Sys2Proof.Machine

open Sys2Proof

/-! ### Settling (R35, R36, R39) -/

/-- The frame of an order's survey report, with the order's tag (R36, R37). -/
def surveyFrame (k : SlotId) (o : SurveyOrder) : OutFrame :=
  { role := .report k, kind := surveyReportKind, tag := o.tag, payload := o.report }

/-- An order with one more point settled (R35). -/
def SurveyOrder.settle (o : SurveyOrder) (point : Nat) (x : PointOutcome) : SurveyOrder :=
  { o with outcomes := o.outcomes.set point (some x), outstanding := o.outstanding - 1 }

/-- An order whose outstanding count has reached 0 completes: its report is queued and its slot is REPORTING (R36);
another is held on. -/
def State.holdOrder (s : State) (k : SlotId) (o : SurveyOrder) : State :=
  if o.outstanding = 0 then (s.setSlot k .reporting).queueFrame (surveyFrame k o) else s.setSlot k (.held o)

/-- The slot after one of its running items has ended: FREE when the count reaches 0 (R39). -/
def closingAfter (n : Nat) : OrderSlot := if n ≤ 1 then .free else .closing (n - 1)

/-- The Survey Unit is handed the final outcome of a SURVEY item (R35). -/
def State.settlePoint (s : State) (k : SlotId) (point : Nat) (x : PointOutcome) : State :=
  match s.slot k with
  | .held o => s.holdOrder k (o.settle point x)
  | .closing n => s.setSlot k (closingAfter n)
  | .free => s
  | .reporting => s

/-- A SURVEY item ends as TRUNK_HALTED, with no attempt result (R14, R15). -/
def State.settleHalted (s : State) (i : Item) : State :=
  match i.origin with
  | .survey k point => s.settlePoint k point ⟨.trunkHalted, none⟩
  | .scan => s

/-- A SURVEY item is offered to a trunk: appended, or on a HALTED trunk settled at once (R9, R15, R34). -/
def State.offerSurvey (s : State) (t : Trunk) (i : Item) : State :=
  if (s.engine t).halted then s.settleHalted i else s.setEngine t ((s.engine t).append i)

/-! ### Survey (R33, R34) -/

/-- The points of a segment of trunk, first drop and count, if the part has them all (R33). -/
def segmentPoints (trunk first count : Nat) : Option (List Addr) :=
  if count = 0 then none else ((List.range count).mapM fun i => addr? trunk (first + i))

/-- The points of n segments, in segment order, read from their bytes (R32, R33). -/
def segmentsPoints : Nat → List Byte → Option (List Addr)
  | 0, _ => some []
  | n + 1, p =>
    match segmentPoints (u8 p 0) (u8 p 1) (u8 p 2), segmentsPoints n (p.drop 3) with
    | some xs, some ys => some (xs ++ ys)
    | _, _ => none

/-- The tag of a held order (R32). -/
def OrderSlot.tag : OrderSlot → Option Byte
  | .held o => some o.tag
  | .free => none
  | .closing _ => none
  | .reporting => none

/-- The slot that holds an order with a tag (R33, R38). -/
def State.slotOfTag (s : State) (tag : Byte) : Option SlotId :=
  (List.finRange 4).find? fun k => (s.slot k).tag == some tag

/-- The lowest-numbered FREE slot (R34). -/
def State.freeSlot (s : State) : Option SlotId := (List.finRange 4).find? fun k => s.slot k == .free

/-- A new order, every point unsettled (R34). -/
def newOrder (tag : Byte) (points : List Addr) : SurveyOrder :=
  { tag := tag, points := points, outcomes := points.map fun _ => none, outstanding := points.length }

/-- What the checks of a Survey request come to, in their order (R33, R180). -/
inductive SurveyVerdict where
  | refused (status : Status)
  | accepted (slot : SlotId) (points : List Addr)
  deriving DecidableEq, Repr

/-- The checks of a Survey request (R33, R180): an empty payload; the declared number of segments; the length; the
segments; the number of points; the tag; a FREE slot. -/
def State.judgeSurvey (s : State) (tag : Byte) (p : List Byte) : SurveyVerdict :=
  if p.isEmpty then .refused .badLength
  else if u8 p 0 = 0 ∨ 8 < u8 p 0 then .refused .badField
  else if p.length ≠ 1 + 3 * u8 p 0 then .refused .badLength
  else
    match segmentsPoints (u8 p 0) (p.drop 1) with
    | none => .refused .badField
    | some points =>
      if 24 < points.length then .refused .badField
      else if (s.slotOfTag tag).isSome then .refused .duplicateTag
      else
        match s.freeSlot with
        | none => .refused .surveyFull
        | some k => .accepted k points

/-- The items of an order's points are offered, in point order (R34 step 3). -/
def State.offerPoints (s : State) (k : SlotId) (points : List Addr) : State :=
  points.zipIdx.foldl (fun s (a, i) => s.offerSurvey a.trunk (newItem a.drop (.survey k i))) s

/-- An accepted order: held, its reply completed and queued, its items offered (R34). The order completes where its
last point settles (R36), which step 4 also asks. -/
def State.acceptSurvey (s : State) (tag : Byte) (k : SlotId) (points : List Addr) : State :=
  ((s.setSlot k (.held (newOrder tag points))).completeReply 0x19 tag
    ⟨.ok, [byte k.val, byte points.length]⟩).offerPoints k points

/-- The execution of a Survey request (R33, R34). -/
def State.runSurvey (tag : Byte) (payload : List Byte) (s : State) : State :=
  match s.judgeSurvey tag payload with
  | .refused status => s.completeReply 0x19 tag (Reply.bare status)
  | .accepted k points => s.acceptSurvey tag k points

/-- SURVEY (R33, R34). -/
def execSurvey (tag : Byte) (payload : List Byte) (s : State) : Host.Outcome State Fault Refusal :=
  whenAdmitted ⟨0x19, tag, payload⟩ (State.runSurvey tag payload) s

/-! ### Survey Cancel (R38) -/

/-- The number of an order's items that wait, on both trunks (R38 step 1). -/
def State.waitingOfOrder (s : State) (k : SlotId) : Nat :=
  (s.engine 0).waitingOfOrder k + (s.engine 1).waitingOfOrder k

/-- The slot of a cancelled order with n points running (R38 step 3). -/
def cancelledSlot (n : Nat) : OrderSlot := if n = 0 then .free else .closing n

/-- A held order is cancelled: its waiting items removed, its slot FREE or CLOSING (R38). -/
def State.cancelOrder (s : State) (k : SlotId) (running : Nat) : State :=
  { s with engines := s.engines.map fun e => e.removeOrder k }.setSlot k (cancelledSlot running)

/-- Survey Cancel's work (R38). -/
def surveyCancelWork (p : List Byte) (s : State) : State × Reply :=
  match s.slotOfTag (p.getD 0 0) with
  | none => (s, Reply.bare .notFound)
  | some k =>
    match s.slot k with
    | .held o =>
      let removed := s.waitingOfOrder k
      let running := o.outstanding - removed
      (s.cancelOrder k running,
        ⟨.ok, [p.getD 0 0, byte (o.points.length - o.outstanding), byte removed, byte running]⟩)
    | .free => (s, Reply.bare .notFound)
    | .closing _ => (s, Reply.bare .notFound)
    | .reporting => (s, Reply.bare .notFound)

/-- Survey Cancel (R180): kind, length, work. -/
def surveyCancelService : Service := ⟨0x1A, 1, surveyCancelWork⟩

/-- SURVEY_CANCEL (R38). -/
def execSurveyCancel (tag : Byte) (payload : List Byte) (s : State) : Host.Outcome State Fault Refusal :=
  runRequest surveyCancelService tag payload s

end Sys2Proof.Machine
end

