-- ==== Sys2Proof/Machine/Trunks.lean ====
section
/-! DEFINITION. The Trunk Engines (01_probe_trunks.md): transactions, the judging of answers, retries and re-queues,
final outcomes, halting, and the requests Trunk Restart and Trunk Setup. -/

namespace Sys2Proof.Machine

open Sys2Proof

/-! ### Judging an answer (R3, R5, R6) -/

/-- The fields of a seven-byte answer (R3, R179). -/
structure Answer where
  echo    : Byte
  ready   : Bool
  wet     : Bool
  kind    : Option Kind
  temp    : Int
  rh      : Nat
  checkOk : Bool
  deriving DecidableEq, Repr

/-- The fields read from seven bytes: READY is bit 0, ELEMENT_WET bit 1, the kind bits 2 and 3 (R3, R179). -/
def readAnswer (b : List Byte) : Answer :=
  { echo := b.getD 0 0, ready := (b.getD 1 0).getLsbD 0, wet := (b.getD 1 0).getLsbD 1,
    kind := kind? ((b.getD 1 0).extractLsb' 2 2).toNat, temp := s16 b 2, rh := u16 b 4,
    checkOk := crc8 (b.take 6) == b.getD 6 0 }

/-- The RH of a well-formed answer: RH_SATURATED and the RH as accepted; none where the answer is bad (R5 check 6). A
SURFACE answer carries no RH. -/
def acceptRh (k : Kind) (rh : Nat) : Option (Bool × Option Nat) :=
  match k with
  | .surface => some (false, none)
  | .air => if rh ≤ 10000 then some (false, some rh) else if rh ≤ 10230 then some (true, some 10000) else none

/-- The attempt result of an outcome that carries nothing more (R6). -/
def bareResult (outcome : ProbeOutcome) (time : Nat) : AttemptResult :=
  { outcome := outcome, kind := none, reading := none, time := time }

/-- A well-formed answer is judged against the kind defined at the address at this moment (R5 checks 7 and 8). -/
def judgeWellFormed (defined : Option Kind) (a : Answer) (k : Kind) (saturated : Bool) (rh : Option Nat) (time : Nat) :
    AttemptResult :=
  if defined.isSome && defined != some k then
    { outcome := .kindMismatch, kind := some k, reading := none, time := time }
  else
    { outcome := if a.wet then .tainted else .good, kind := some k,
      reading := some { temp := a.temp, rh := rh, saturated := saturated, wet := a.wet }, time := time }

/-- The seven characters are judged by the checks of R5, in their order. -/
def judgeAnswer (defined : Option Kind) (d : Drop) (b : List Byte) (time : Nat) : AttemptResult :=
  let a := readAnswer b
  if !a.checkOk then bareResult .badCheck time
  else if a.echo ≠ byte d.val then bareResult .badCheck time
  else if !a.ready then bareResult .notReady time
  else
    match a.kind with
    | none => bareResult .badCheck time
    | some k =>
      if a.temp < -4000 ∨ 8500 < a.temp then bareResult .badCheck time
      else
        match acceptRh k a.rh with
        | none => bareResult .badCheck time
        | some (saturated, rh) => judgeWellFormed defined a k saturated rh time

/-! ### The consecutive-failure count (R13) -/

/-- A failed attempt: NO_ANSWER or BAD_CHECK. -/
def ProbeOutcome.failedAttempt : ProbeOutcome → Bool
  | .noAnswer => true
  | .badCheck => true
  | .good => false
  | .tainted => false
  | .notReady => false
  | .kindMismatch => false
  | .notReadyLimit => false
  | .trunkHalted => false

/-- The count after an attempt, from whether a probe is defined at the address queried (R13). -/
def countAttempt (n : Nat) (outcome : ProbeOutcome) (defined : Bool) : Nat :=
  if outcome.failedAttempt then (if defined then n + 1 else n) else 0

/-! ### Final outcomes (R12) -/

/-- An item's final outcome is handed to the Probe Table and, for a SURVEY item, to the Survey Unit (R12). -/
def State.handOut (s : State) (t : Trunk) (i : Item) (res : AttemptResult) (outcome : ProbeOutcome) : State :=
  let s' := s.handToProbe ⟨t, i.drop⟩ res outcome
  match i.origin with
  | .scan => s'
  | .survey k point => s'.settlePoint k point ⟨outcome, some res⟩

/-- The engine after an item has left flight (R11, R12). -/
def Engine.itemLeft (e : Engine) : Engine := { e with inFlight := none }

/-- An item leaves the trunk with its final outcome (R12). -/
def State.finalise (s : State) (t : Trunk) (i : Item) (res : AttemptResult) (outcome : ProbeOutcome) : State :=
  (s.setEngine t (s.engine t).itemLeft).handOut t i res outcome

/-! ### Halting (R14) -/

/-- The engine of a trunk that has entered HALTED: its wait list is empty (R14). -/
def Engine.halt (e : Engine) : Engine := { e with waitList := [], halted := true }

/-- The SURVEY items that waited are handed to the Survey Unit as TRUNK_HALTED; SCAN items are dropped (R14 step 2).
R14 names no order among them: the model hands them on from the head of the list to its tail (DESIGN CHOICE, assumption
28), so that of two orders settled here the one whose last item stands first completes first. -/
def State.settleAllHalted (s : State) (items : List Item) : State := items.foldl State.settleHalted s

/-- A trunk halts at the end of a failed attempt (R14): the item finalised, the list emptied, the urgent notice. -/
def State.haltTrunk (s : State) (t : Trunk) (i : Item) (res : AttemptResult) : State :=
  let s1 := s.finalise t i res res.outcome
  ((s1.setEngine t (s1.engine t).halt).settleAllHalted (s1.engine t).waitList).raise (.trunk t) .urgent

/-! ### The end of an attempt (R10, R11, R13, R14) -/

/-- The engine when a transaction ends: the gap runs and the count is kept (R4, R13). -/
def Engine.transactionEnded (e : Engine) (res : AttemptResult) (defined : Bool) : Engine :=
  { e with link := .gap, failures := countAttempt e.failures res.outcome defined }

/-- The count has just increased and stands at or above the halt threshold in force for the attempt (R14, R18). -/
def Engine.mustHalt (e : Engine) (res : AttemptResult) (defined : Bool) : Bool :=
  res.outcome.failedAttempt && defined && decide (e.attempt.haltThreshold ≤ e.failures)

/-- A failed attempt: retried after the gap while its count is below retries, else final (R10). The item keeps the
result of this attempt (R6). -/
def State.retryOrEnd (s : State) (t : Trunk) (i : Item) (res : AttemptResult) : State :=
  if i.attempts < (s.engine t).attempt.retries then
    s.setEngine t { s.engine t with inFlight := some { i with attempts := i.attempts + 1, latest := some res } }
  else s.finalise t i res res.outcome

/-- The engine after a NOT_READY item has gone back to the tail, or has been dropped as a SCAN item with a newer one
waiting (R11). -/
def Engine.requeue (e : Engine) (i : Item) : Engine :=
  if i.origin == .scan && e.holdsScan i.drop then e.itemLeft
  else { e.itemLeft with waitList := e.waitList ++ [i] }

/-- A NOT_READY attempt (R11). A re-queued item has not left the trunk and keeps the result (R6, R12). -/
def State.requeueOrEnd (s : State) (t : Trunk) (i : Item) (res : AttemptResult) : State :=
  if i.notReady < 4 then
    s.setEngine t ((s.engine t).requeue { i with notReady := i.notReady + 1, latest := some res })
  else s.finalise t i res .notReadyLimit

/-- What becomes of the item after an attempt that did not halt the trunk (R10, R11). -/
def State.disposeItem (s : State) (t : Trunk) (i : Item) (res : AttemptResult) : State :=
  match res.outcome with
  | .noAnswer => s.retryOrEnd t i res
  | .badCheck => s.retryOrEnd t i res
  | .notReady => s.requeueOrEnd t i res
  | .good => s.finalise t i res .good
  | .tainted => s.finalise t i res .tainted
  | .kindMismatch => s.finalise t i res .kindMismatch
  | .notReadyLimit => s
  | .trunkHalted => s

/-- An attempt of the item in flight ends with a result (R4, R10 to R14). -/
def State.endAttempt (s : State) (t : Trunk) (i : Item) (res : AttemptResult) : State :=
  let defined := s.definedAt ⟨t, i.drop⟩
  let e := (s.engine t).transactionEnded res defined
  let s1 := s.setEngine t e
  if e.mustHalt res defined then s1.haltTrunk t i res else s1.disposeItem t i res

/-! ### Field events (R4, R8, R21) -/

/-- The 2 ms gap has run out: the item in flight is queried again, or the engine is free and takes the head item (R8,
R10). -/
def Engine.gapEnded (e : Engine) : Engine :=
  if e.link = .gap then
    match e.inFlight with
    | some i => e.startAttempt i
    | none => { e with link := .ready }.takeHead
  else e

/-- GAP_EXPIRY (R8). -/
def execGapExpiry (trunk : Trunk) (s : State) : Host.Outcome State Fault Refusal :=
  fieldEvent (fun s => s.setEngine trunk (s.engine trunk).gapEnded) s

/-- The query's last byte has been sent and the transaction opens; that of an abandoned item too (R4, R21, assumption
17). -/
def Engine.opened (e : Engine) : Engine :=
  match e.link with
  | .sending _ => { e with link := .listening }
  | .strandedSending _ => { e with link := .strandedListening }
  | .ready => e
  | .listening => e
  | .gap => e
  | .strandedListening => e

/-- TRANSACTION_OPEN (R4). -/
def execTransactionOpen (trunk : Trunk) (s : State) : Host.Outcome State Fault Refusal :=
  fieldEvent (fun s => s.setEngine trunk (s.engine trunk).opened) s

/-- The seventh answer character: the answer is judged where a transaction is open; characters outside one, and those
of an abandoned item, are discarded (R1, R4, R5, R21). -/
def State.receiveAnswer (s : State) (t : Trunk) (b : List Byte) : State :=
  if (s.engine t).link = .listening ∧ b.length = 7 then
    match (s.engine t).inFlight with
    | some i => s.endAttempt t i (judgeAnswer (s.kindAt ⟨t, i.drop⟩) i.drop b s.uptime)
    | none => s
  else s

/-- ANSWER_RECEIVED (R5). -/
def execAnswerReceived (trunk : Trunk) (bytes : List Byte) (s : State) : Host.Outcome State Fault Refusal :=
  fieldEvent (fun s => s.receiveAnswer trunk bytes) s

/-- The outcome of a timeout: NO_ANSWER with no character, BAD_CHECK with one to six (R4). -/
def timeoutOutcome (b : List Byte) : ProbeOutcome := if b.isEmpty then .noAnswer else .badCheck

/-- The answer timeout expires with fewer than seven characters (R4); that of an abandoned item is followed by the gap
and nothing else (R21). -/
def State.timeoutAnswer (s : State) (t : Trunk) (b : List Byte) : State :=
  if b.length < 7 then
    match (s.engine t).link with
    | .listening =>
      match (s.engine t).inFlight with
      | some i => s.endAttempt t i (bareResult (timeoutOutcome b) s.uptime)
      | none => s
    | .strandedListening => s.setEngine t { s.engine t with link := .gap }
    | .ready => s
    | .sending _ => s
    | .gap => s
    | .strandedSending _ => s
  else s

/-- ANSWER_TIMEOUT (R4). -/
def execAnswerTimeout (trunk : Trunk) (bytes : List Byte) (s : State) : Host.Outcome State Fault Refusal :=
  fieldEvent (fun s => s.timeoutAnswer trunk bytes) s

/-! ### Trunk Restart (R16) -/

/-- A HALTED trunk goes to IDLE with its count at 0, and its notice is raised as routine (R16). -/
def State.restartTrunk (s : State) (t : Trunk) : State :=
  (s.setEngine t { s.engine t with halted := false, failures := 0 }).raise (.trunk t) .routine

/-- Trunk Restart's work; WRONG_STATE too carries the trunk and its state (R16, R179). -/
def trunkRestartWork (p : List Byte) (s : State) : State × Reply :=
  match fin? 2 (u8 p 0) with
  | none => (s, Reply.bare .badField)
  | some t =>
    if (s.engine t).halted then
      (s.restartTrunk t, ⟨.ok, [trunkCode t, ((s.restartTrunk t).engine t).state.code]⟩)
    else (s, ⟨.wrongState, [trunkCode t, (s.engine t).state.code]⟩)

/-- Trunk Restart (R180): kind, length, work. -/
def trunkRestartService : Service := ⟨0x13, 1, trunkRestartWork⟩

/-- TRUNK_RESTART (R16). -/
def execTrunkRestart (tag : Byte) (payload : List Byte) (s : State) : Host.Outcome State Fault Refusal :=
  runRequest trunkRestartService tag payload s

/-! ### Trunk Setup (R17, R18) -/

/-- The settings as applied (R17). -/
def TrunkSettings.clamped (t : TrunkSettings) : TrunkSettings :=
  { retries := clampNat 0 3 t.retries, haltThreshold := clampNat 4 32 t.haltThreshold,
    faultThreshold := clampNat 1 15 t.faultThreshold }

/-- Trunk Setup's work; the attempt under way keeps the settings it was taken under (R17, R18). -/
def trunkSetupWork (p : List Byte) (s : State) : State × Reply :=
  match fin? 2 (u8 p 0) with
  | none => (s, Reply.bare .badField)
  | some t =>
    let raw : TrunkSettings := ⟨u8 p 1, u8 p 2, u8 p 3⟩
    let c := raw.clamped
    (s.setEngine t { s.engine t with settings := c },
      ⟨takenStatus (c != raw), [trunkCode t, byte c.retries, byte c.haltThreshold, byte c.faultThreshold]⟩)

/-- Trunk Setup (R180): kind, length, work. -/
def trunkSetupService : Service := ⟨0x14, 4, trunkSetupWork⟩

/-- TRUNK_SETUP (R17). -/
def execTrunkSetup (tag : Byte) (payload : List Byte) (s : State) : Host.Outcome State Fault Refusal :=
  runRequest trunkSetupService tag payload s

end Sys2Proof.Machine
end

