-- ==== Sys2Proof/Machine/Scan.lean ====
section
/-! DEFINITION. The Scan Timer (02_scanning_and_surveys.md, R22 to R31): cycles, period starts, and the request Scan
Setup in its three modes. -/

namespace Sys2Proof.Machine

open Sys2Proof

/-! ### Cycles and period starts (R23, R24) -/

/-- A SCAN item is offered for an address, if a probe is defined there (R24). -/
def State.offerScanAt (s : State) (a : Addr) : State :=
  if s.definedAt a then s.setEngine a.trunk ((s.engine a.trunk).offerScan a.drop) else s

/-- A scan cycle start: every defined probe is offered, by ascending trunk and drop (R24). -/
def State.scanCycle (s : State) : State := allAddrs.foldl State.offerScanAt s

/-- The timer at a period start: a held next period becomes active, and the countdown is loaded (R23 steps 1 and 2). -/
def ScanTimer.periodStarted (t : ScanTimer) : ScanTimer :=
  { t with active := t.next.getD t.active, next := none, countdown := some (t.next.getD t.active), due := false }

/-- A period start (R23). -/
def State.startPeriod (s : State) : State := (s.setScan s.scan.periodStarted).scanCycle

/-- The period start that a reset or the load makes in mode CONTINUOUS (R30, R31). -/
def State.resumeScan (s : State) : State := if s.scan.mode = .continuous then s.startPeriod else s

/-- The countdown's expiry, if its last second has passed (R23, assumption 19). -/
def State.startDuePeriod (s : State) : State := if s.scan.due then s.startPeriod else s

/-- PERIOD_START (R23). It occurs when the countdown's last second has passed (assumptions 4 and 19). -/
def execPeriodStart (s : State) : Host.Outcome State Fault Refusal := fieldEvent State.startDuePeriod s

/-! ### Scan Setup (R25 to R29) -/

/-- The period as applied (R25). -/
def scanPeriod (x : Nat) : Nat := clampNat 5 3600 x

/-- The max reading age as applied (R25). -/
def scanMaxAge (x : Nat) : Nat := clampNat 30 7200 x

/-- The timer after a request for CONTINUOUS that finds CONTINUOUS (R26). -/
def ScanTimer.heldNext (t : ScanTimer) (period : Nat) : ScanTimer :=
  { t with next := if period = t.active then none else some period }

/-- The timer with a new active period, no next period and no countdown (R26 to R28). -/
def ScanTimer.setTo (t : ScanTimer) (mode : ScanMode) (period : Nat) : ScanTimer :=
  { t with mode := mode, active := period, next := none, countdown := none, due := false }

/-- Scan Setup for CONTINUOUS (R26). -/
def State.scanContinuous (s : State) (period : Nat) : State :=
  if s.scan.mode = .continuous then s.setScan (s.scan.heldNext period)
  else (s.setScan (s.scan.setTo .continuous period)).startPeriod

/-- Scan Setup for SINGLE: one cycle, and the mode is STOPPED (R27). -/
def State.scanSingle (s : State) (period : Nat) : State := (s.setScan (s.scan.setTo .stopped period)).scanCycle

/-- Scan Setup for STOPPED: every waiting SCAN item is removed (R28). -/
def State.scanStopped (s : State) (period : Nat) : State :=
  { s.setScan (s.scan.setTo .stopped period) with engines := s.engines.map Engine.removeAllScan }

/-- The effect of a mode on the timer and the wait lists (R26 to R28). -/
def State.setScanMode (s : State) (mode : ScanMode) (period : Nat) : State :=
  match mode with
  | .continuous => s.scanContinuous period
  | .single => s.scanSingle period
  | .stopped => s.scanStopped period

/-- A mode with its period, then the max reading age in the same step (R26 to R29). -/
def State.setUpScan (s : State) (mode : ScanMode) (period maxAge : Nat) : State :=
  (s.setScanMode mode period).changeMaxAge maxAge

/-- The state of the Scan Timer as the reply carries it (R25, R180). -/
def ScanTimer.bytes (t : ScanTimer) : List Byte :=
  [t.mode.code] ++ be16 t.active ++ optZero t.next ++ optZero t.countdown ++ be16 t.maxAge

/-- Scan Setup's work (R25). -/
def scanSetupWork (p : List Byte) (s : State) : State × Reply :=
  match scanMode? (u8 p 0) with
  | none => (s, Reply.bare .badField)
  | some mode =>
    let s' := s.setUpScan mode (scanPeriod (u16 p 1)) (scanMaxAge (u16 p 3))
    (s', ⟨takenStatus (scanPeriod (u16 p 1) != u16 p 1 || scanMaxAge (u16 p 3) != u16 p 3), s'.scan.bytes⟩)

/-- A Scan Setup payload that names the mode of another of the three rows is not this row's step (assumption 21). -/
def otherScanRow (payload : List Byte) (mode : ScanMode) : Bool :=
  decide (payload.length = 5) &&
    match scanMode? (u8 payload 0) with
    | some m => m != mode
    | none => false

/-- Scan Setup (R180): kind, length, work. -/
def scanSetupService : Service := ⟨0x18, 5, scanSetupWork⟩

/-- SCAN_SETUP_CONTINUOUS (R26). -/
def execScanSetupContinuous (tag : Byte) (payload : List Byte) (s : State) : Host.Outcome State Fault Refusal :=
  if otherScanRow payload .continuous then .next s else runRequest scanSetupService tag payload s

/-- SCAN_SETUP_SINGLE (R27). -/
def execScanSetupSingle (tag : Byte) (payload : List Byte) (s : State) : Host.Outcome State Fault Refusal :=
  if otherScanRow payload .single then .next s else runRequest scanSetupService tag payload s

/-- SCAN_SETUP_STOPPED (R28). -/
def execScanSetupStopped (tag : Byte) (payload : List Byte) (s : State) : Host.Outcome State Fault Refusal :=
  if otherScanRow payload .stopped then .next s else runRequest scanSetupService tag payload s

end Sys2Proof.Machine
end

