-- ==== Sys2Proof/Machine/Clock.lean ====
section
/-! DEFINITION. A second of uptime (00_scope 0.7, R22, R101): every expiry that is due and was not sent is taken (R23,
R51, R102), then uptime, the scan countdown and the dwells count. -/

namespace Sys2Proof.Machine

open Sys2Proof

/-- A dwell counts down by one (R101). Its last second makes its expiry due (assumption 19), so that the remaining
seconds stay in the ranges of R88. -/
def Dwell.tick (d : Dwell) : Dwell :=
  match d with
  | .none => .none
  | .rise n due => if n ≤ 1 then .rise n true else .rise (n - 1) due
  | .fall n due => if n ≤ 1 then .fall n true else .fall (n - 1) due

/-- A second of the Scan Timer (R22): the countdown counts down by one. Its last second makes its expiry due, which is
the period start (R23, assumption 19), so that the countdown stays in 1..3600. -/
def ScanTimer.tick (t : ScanTimer) : ScanTimer :=
  match t.countdown with
  | none => t
  | some n => if n ≤ 1 then { t with due := true } else { t with countdown := some (n - 1) }

/-- A zone's record after a second (R101). -/
def ZoneRecord.tick (r : ZoneRecord) : ZoneRecord := { r with dwell := r.dwell.tick }

/-- A dwell's expiry, if it is due, with the arbiter's choice at its end (R102, R164). -/
def State.takeDueDwell (s : State) (z : ZoneId) : State :=
  if (s.zone z).dwell.expired.isSome then (s.expireDwell z).arbitrate else s

/-- A reading's age expiry, if it is due, with the arbiter's choice at its end (R51, R164). -/
def State.takeDueAge (s : State) (a : Addr) : State := if s.ageDue a then (s.expireAge a).arbitrate else s

/-- Every expiry that is due and has not been sent is taken: the period start, the dwells by ascending zone, the ages by
ascending trunk and drop (R23, R51, R102; the order among them is the model's choice, assumption 29). -/
def State.takeDue (s : State) : State :=
  allAddrs.foldl State.takeDueAge ((List.finRange 24).foldl State.takeDueDwell s.startDuePeriod)

/-- A second of the running part. No second passes over an expiry: one that is due and has not been sent comes first
(R23, R51, R101, assumption 19). -/
def State.secondPassed (s : State) : State :=
  let s := s.takeDue
  { s with uptime := s.uptime + 1, scan := s.scan.tick, zones := s.zones.map ZoneRecord.tick }

/-- UPTIME_SECOND (R101): counted from power-on, before the load too (R174). -/
def execUptimeSecond (s : State) : Host.Outcome State Fault Refusal :=
  match s.power with
  | .off => .next s
  | .loading => .next { s with uptime := s.uptime + 1 }
  | .running => .next s.secondPassed

end Sys2Proof.Machine
end

