-- ==== Sys2Proof/Config.lean ====
section
/-! DEFINITION. What is fixed in one built part and left open by the spec: a value with no body, so that every claim
holds whatever it is. -/

namespace Sys2Proof

/-- The hardware revision less one: "a number 1..255 set when the part is built" (R169). UNVERIFIED which; a free
value (assumption 14, safe). -/
opaque Config.hardwareRevisionLessOne : Fin 255

/-- The hardware revision 1..255 that Identify reports (R169). -/
def Config.hardwareRevision : Nat := Config.hardwareRevisionLessOne.val + 1

end Sys2Proof
end

