-- ==== Sys2Proof/Machine/General.lean ====
section
/-! DEFINITION. The Message Port's own commands (10_the_message_line.md): the receiver's gap, the ends of sent frames,
the refusal of an unknown kind, and the requests Identify, Summary and Notice Mask. -/

namespace Sys2Proof.Machine

open Sys2Proof

/-! ### The receiver's gap (R160) -/

/-- FRAME_GAP_TIMEOUT: the bytes of the candidate are discarded (R160). -/
def execFrameGapTimeout (s : State) : Host.Outcome State Fault Refusal :=
  fieldEvent (fun s => s.setPort { s.port with rx := [] }) s

/-! ### The end of a sent frame (R36, R161, R164, R175) -/

/-- The order slot of a report that has been sent is FREE (R36). -/
def OrderSlot.reported (o : OrderSlot) : OrderSlot :=
  match o with
  | .reporting => .free
  | .free => .free
  | .held order => .held order
  | .closing n => .closing n

/-- The Warm Restart reply has been sent: the reset is due (R175). -/
def Execution.replySent (e : Execution) : Execution :=
  match e with
  | .warmRestart _ => .warmRestart true
  | .keepSettings tag => .keepSettings tag

/-- What the end of a frame brings with it, by what the frame was. -/
def State.afterFrame (s : State) (role : FrameRole) : State :=
  match role with
  | .report k => s.setSlot k (s.slot k).reported
  | .restartReply => s.setPort { s.port with executing := s.port.executing.map Execution.replySent }
  | .reply => s
  | .portFull => s
  | .notice _ => s

/-- The last byte of the frame in line has been sent; a reply's request slot is free with it (R161, R164). -/
def State.sentFrame (s : State) : State :=
  match s.port.line with
  | some f => (s.setPort { s.port with line := none, wire := [] }).afterFrame f.role
  | none => s

/-- FRAME_SENT (R164). -/
def execFrameSent (s : State) : Host.Outcome State Fault Refusal := fieldEvent State.sentFrame s

/-! ### Unknown kinds (R163) -/

/-- The execution of a request whose kind is no request kind (R163). -/
def State.runUnknownKind (kind tag : Byte) (s : State) : State := s.completeReply kind tag (Reply.bare .unknownKind)

/-- UNKNOWN_KIND (R163). A request kind has its own row, and is not this row's step (assumption 26). -/
def execUnknownKind (kind tag : Byte) (payload : List Byte) (s : State) : Host.Outcome State Fault Refusal :=
  if requestKinds.contains kind then .next s
  else whenAdmitted ⟨kind, tag, payload⟩ (State.runUnknownKind kind tag) s

/-! ### Identify (R169) -/

/-- The flags byte of Identify and Summary (R180). -/
def State.flagsByte (s : State) : Byte := flagByte s.defaulted false

/-- Identify's answer (R169, R180). -/
def identifyAnswer (_ : List Byte) (s : State) : Reply :=
  ⟨.ok, [0x50, 0x24, byte Config.hardwareRevision, 2, 32, 24, 8, 4, 16, 4, s.flagsByte]⟩

/-- Identify (R180): kind, length, work. -/
def identifyService : Service := ⟨0x01, 0, readOnly identifyAnswer⟩

/-- IDENTIFY (R169). -/
def execIdentify (tag : Byte) (payload : List Byte) (s : State) : Host.Outcome State Fault Refusal :=
  runRequest identifyService tag payload s

/-! ### Summary (R170) -/

/-- The number of probe records in a state (R170). -/
def State.probesIn (s : State) (p : ProbeState) : Nat := (s.probes.items.filter fun r => r.state == p).length

/-- The number of zones in a grade (R170). -/
def State.zonesIn (s : State) (g : Grade) : Nat := (s.zones.items.filter fun r => r.grade == g).length

/-- Summary's answer (R170, R180). -/
def summaryAnswer (_ : List Byte) (s : State) : Reply :=
  ⟨.ok, be32 s.uptime ++ [s.flagsByte, s.scan.mode.code, (s.engine 0).state.code, (s.engine 1).state.code]
    ++ [ProbeState.undefined, .active, .suspect, .faulted].map (fun p => byte (s.probesIn p))
    ++ [Grade.off, .stale, .clear, .watch, .alarm, .wet].map (fun g => byte (s.zonesIn g))
    ++ [byte s.recordsHeld, byte s.pendingZones, byte s.port.queueLength]⟩

/-- Summary (R180): kind, length, work. -/
def summaryService : Service := ⟨0x02, 0, readOnly summaryAnswer⟩

/-- SUMMARY (R170). -/
def execSummary (tag : Byte) (payload : List Byte) (s : State) : Host.Outcome State Fault Refusal :=
  runRequest summaryService tag payload s

/-! ### Notice Mask (R168) -/

/-- The mask a payload names, if every value is enabled or masked (R168). -/
def noticeMask? (p : List Byte) : Option NoticeMask :=
  match bool? (u8 p 0), bool? (u8 p 1), bool? (u8 p 2), bool? (u8 p 3), bool? (u8 p 4) with
  | some z, some e, some p, some t, some l => some ⟨z, e, p, t, l⟩
  | _, _, _, _, _ => none

/-- The port under a new mask: the sources of masked classes leave the queue (R168). -/
def Port.masked (p : Port) (m : NoticeMask) : Port :=
  { p with mask := m, urgent := p.urgent.filter m.enables, routine := p.routine.filter m.enables }

/-- Notice Mask's work (R168). -/
def noticeMaskWork (p : List Byte) (s : State) : State × Reply :=
  match noticeMask? p with
  | none => (s, Reply.bare .badField)
  | some m =>
    (s.setPort (s.port.masked m),
      ⟨.ok, [boolByte m.zone, boolByte m.event, boolByte m.probe, boolByte m.trunk, boolByte m.leak,
        byte (s.port.masked m).queueLength]⟩)

/-- Notice Mask (R180): kind, length, work. -/
def noticeMaskService : Service := ⟨0x05, 5, noticeMaskWork⟩

/-- NOTICE_MASK (R168). -/
def execNoticeMask (tag : Byte) (payload : List Byte) (s : State) : Host.Outcome State Fault Refusal :=
  runRequest noticeMaskService tag payload s

end Sys2Proof.Machine
end

