-- ==== Sys2Proof/Machine/MapRequests.lean ====
section
/-! DEFINITION. The requests that change and read the Zone Map (04_the_zone_map.md, R61 to R69). -/

namespace Sys2Proof.Machine

open Sys2Proof

/-! ### A change of the map (R66) -/

/-- The zones whose members a new map alters, ascending: the old and the new answer at every address with a defined
probe whose lookup differs (R66). -/
def State.remapped (s : State) (new : ZoneMap) : List ZoneId :=
  (List.finRange 24).filter fun z =>
    allAddrs.any fun a =>
      s.definedAt a && s.map.lookup a != new.lookup a && (s.map.lookup a == some z || new.lookup a == some z)

/-- The map is changed, then each zone it alters is evaluated once (R66). -/
def State.changeMap (s : State) (new : ZoneMap) : State := (s.setMap new).evaluateAll (s.remapped new)

/-- The bytes of a lookup's answer and its source (R180). -/
def ZoneMap.answerBytes (m : ZoneMap) (a : Addr) : List Byte :=
  [optCode ((m.lookup a).map fun z => byte z.val), m.sourceCode a]

/-! ### Single entries (R62, R64) -/

/-- The map with the single entry of an address written or removed. -/
def ZoneMap.setSingle (m : ZoneMap) (a : Addr) (z : Option ZoneId) : ZoneMap :=
  { m with singles := m.singles.set a.idx z }

/-- Map Point's work (R61, R62). -/
def mapPointWork (p : List Byte) (s : State) : State × Reply :=
  match addr? (u8 p 0) (u8 p 1), fin? 24 (u8 p 2) with
  | some a, some z =>
    if (s.map.single a).isSome || decide (s.map.singlesHeld < 32) then
      let new := s.map.setSingle a (some z)
      (s.changeMap new,
        ⟨.ok, [trunkCode a.trunk, byte a.drop.val, byte z.val] ++ s.map.answerBytes a ++ [byte new.singlesHeld]⟩)
    else (s, Reply.bare .tableFull)
  | _, _ => (s, Reply.bare .badField)

/-- Map Point (R180): kind, length, work. -/
def mapPointService : Service := ⟨0x20, 3, mapPointWork⟩

/-- MAP_POINT (R62). -/
def execMapPoint (tag : Byte) (payload : List Byte) (s : State) : Host.Outcome State Fault Refusal :=
  runRequest mapPointService tag payload s

/-- Unmap Point's work (R61, R64). -/
def unmapPointWork (p : List Byte) (s : State) : State × Reply :=
  match addr? (u8 p 0) (u8 p 1) with
  | none => (s, Reply.bare .badField)
  | some a =>
    match s.map.single a with
    | none => (s, Reply.bare .notFound)
    | some z =>
      let new := s.map.setSingle a none
      (s.changeMap new, ⟨.ok, [trunkCode a.trunk, byte a.drop.val, byte z.val] ++ new.answerBytes a⟩)

/-- Unmap Point (R180): kind, length, work. -/
def unmapPointService : Service := ⟨0x22, 2, unmapPointWork⟩

/-- UNMAP_POINT (R64). -/
def execUnmapPoint (tag : Byte) (payload : List Byte) (s : State) : Host.Outcome State Fault Refusal :=
  runRequest unmapPointService tag payload s

/-! ### Span entries (R63, R65) -/

/-- A size and base that a span may have (R58, R63 step 1). -/
def alignedSpan (base size : Nat) : Bool := [2, 4, 8, 16, 32].contains size && base % size == 0

/-- The span entry has exactly this trunk, base and size. -/
def Span.isAt (p : Span) (trunk : Trunk) (base size : Nat) : Bool :=
  p.trunk = trunk && p.base == base && p.size == size

/-- The span entry with exactly this trunk, base and size (R63 step 2, R65). -/
def ZoneMap.spanAt (m : ZoneMap) (trunk : Trunk) (base size : Nat) : Option Span :=
  m.spans.find? (·.isAt trunk base size)

/-- A span stands before another in the order of trunk and base (R69). -/
def Span.before (p q : Span) : Bool := decide (32 * p.trunk.val + p.base < 32 * q.trunk.val + q.base)

/-- A span put into its place in the order (R69). -/
def insertSpan (p : Span) : List Span → List Span
  | [] => [p]
  | q :: rest => if p.before q then p :: q :: rest else q :: insertSpan p rest

/-- The zone of the span entry with this trunk, base and size is replaced (R63 step 2). -/
def ZoneMap.rezoneSpan (m : ZoneMap) (trunk : Trunk) (base size : Nat) (z : ZoneId) : ZoneMap :=
  { m with spans := m.spans.map fun p => if p.isAt trunk base size then { p with zone := z } else p }

/-- The bytes of a span: trunk, base, size, zone (R180). -/
def Span.bytes (p : Span) : List Byte := [trunkCode p.trunk, byte p.base, byte p.size, byte p.zone.val]

/-- The reply to a taken Map Span (R63, R180). -/
def mapSpanReply (p : Span) (previous : Option ZoneId) (new : ZoneMap) : Reply :=
  ⟨.ok, p.bytes ++ [optCode (previous.map fun z => byte z.val), byte new.spans.length]⟩

/-- Map Span on a trunk, base, size and zone the part has (R63). -/
def State.mapSpan (s : State) (p : Span) : State × Reply :=
  if !alignedSpan p.base p.size then (s, Reply.bare .badSpan)
  else
    match s.map.spanAt p.trunk p.base p.size with
    | some old =>
      let new := s.map.rezoneSpan p.trunk p.base p.size p.zone
      (s.changeMap new, mapSpanReply p (some old.zone) new)
    | none =>
      match s.map.spans.find? (·.meets p.trunk p.base p.size) with
      | some q => (s, ⟨.overlap, q.bytes⟩)
      | none =>
        if s.map.spans.length < 8 then
          let new := { s.map with spans := insertSpan p s.map.spans }
          (s.changeMap new, mapSpanReply p none new)
        else (s, Reply.bare .tableFull)

/-- Map Span's work (R61, R63). -/
def mapSpanWork (p : List Byte) (s : State) : State × Reply :=
  match fin? 2 (u8 p 0), fin? 32 (u8 p 1), fin? 24 (u8 p 3) with
  | some t, some base, some z => s.mapSpan ⟨t, base.val, u8 p 2, z⟩
  | _, _, _ => (s, Reply.bare .badField)

/-- Map Span (R180): kind, length, work. -/
def mapSpanService : Service := ⟨0x21, 4, mapSpanWork⟩

/-- MAP_SPAN (R63). -/
def execMapSpan (tag : Byte) (payload : List Byte) (s : State) : Host.Outcome State Fault Refusal :=
  runRequest mapSpanService tag payload s

/-- Unmap Span's work (R61, R65). -/
def unmapSpanWork (p : List Byte) (s : State) : State × Reply :=
  match fin? 2 (u8 p 0), fin? 32 (u8 p 1) with
  | some t, some base =>
    if !alignedSpan base.val (u8 p 2) then (s, Reply.bare .badSpan)
    else
      match s.map.spanAt t base.val (u8 p 2) with
      | none => (s, Reply.bare .notFound)
      | some q =>
        (s.changeMap { s.map with spans := s.map.spans.filter fun x => !x.isAt t base.val (u8 p 2) }, ⟨.ok, q.bytes⟩)
  | _, _ => (s, Reply.bare .badField)

/-- Unmap Span (R180): kind, length, work. -/
def unmapSpanService : Service := ⟨0x23, 3, unmapSpanWork⟩

/-- UNMAP_SPAN (R65). -/
def execUnmapSpan (tag : Byte) (payload : List Byte) (s : State) : Host.Outcome State Fault Refusal :=
  runRequest unmapSpanService tag payload s

/-! ### Map Query (R69) -/

/-- A single entry's bytes, if the address holds one (R180). -/
def ZoneMap.singleBytes (m : ZoneMap) (a : Addr) : List Byte :=
  match m.single a with
  | some z => [trunkCode a.trunk, byte a.drop.val, byte z.val]
  | none => []

/-- Map Query's answer (R69). -/
def mapQueryAnswer (_ : List Byte) (s : State) : Reply :=
  ⟨.ok, [byte s.map.singlesHeld, byte s.map.spans.length] ++ allAddrs.flatMap s.map.singleBytes
    ++ s.map.spans.flatMap Span.bytes⟩

/-- Map Query (R180): kind, length, work. -/
def mapQueryService : Service := ⟨0x24, 0, readOnly mapQueryAnswer⟩

/-- MAP_QUERY (R69). -/
def execMapQuery (tag : Byte) (payload : List Byte) (s : State) : Host.Outcome State Fault Refusal :=
  runRequest mapQueryService tag payload s

end Sys2Proof.Machine
end

