-- ==== Sys2Proof/Machine/Leak.lean ====
section
/-! DEFINITION. The Leak Sense Unit (07_leak_sense_channels.md): judging a count, rounds, what a change of state hands
on, and the requests Leak Setup, Leak Recalibrate and Leak Query. -/

namespace Sys2Proof.Machine

open Sys2Proof

/-! ### Judging a count (R114 to R117) -/

/-- The wet level B - Dw (section 7.3). -/
def Channel.wetLevel (c : Channel) (b : Nat) : Int := (b : Int) - c.dw

/-- The dry level B - Dw + Hy (section 7.3). -/
def Channel.dryLevel (c : Channel) (b : Nat) : Int := (b : Int) - c.dw + c.hy

/-- The baseline moved by 1 toward the count where their difference is within the tracking window (R116). -/
def Channel.tracked (c : Channel) (b count : Nat) : Nat :=
  if c.dw / 4 < (count - b) + (b - count) then b
  else if b < count then b + 1
  else if count < b then b - 1
  else b

/-- Entry to OPEN or SHORT: streak, calibration sum and count 0, B kept (R114). -/
def Channel.failedAs (c : Channel) (state : LeakState) : Channel :=
  { c with state := state, streak := 0, calSum := 0, calCount := 0 }

/-- A count in 64..4094 returns a channel from OPEN or SHORT: to DRY with B, to CALIBRATING without (R114). -/
def Channel.returned (c : Channel) : Channel :=
  { c with state := if c.baseline.isSome then .dry else .calibrating, streak := 0, calSum := 0, calCount := 0 }

/-- A count in CALIBRATING (R115). -/
def Channel.calibrated (c : Channel) (count : Nat) : Channel :=
  if c.calCount + 1 < 4 then { c with calSum := c.calSum + count, calCount := c.calCount + 1 }
  else { c with baseline := some ((c.calSum + count) / 4), calSum := 0, calCount := 0, streak := 0, state := .dry }

/-- A count in DRY against the wet level (R116). -/
def Channel.judgedDry (c : Channel) (b count : Nat) : Channel :=
  if (count : Int) ≤ c.wetLevel b then
    if c.streak + 1 < 2 then { c with streak := c.streak + 1 } else { c with state := .wet, streak := 0 }
  else { c with streak := 0, baseline := some (c.tracked b count) }

/-- A count in WET against the dry level (R117). -/
def Channel.judgedWet (c : Channel) (b count : Nat) : Channel :=
  if c.dryLevel b ≤ (count : Int) then
    if c.streak + 1 < 2 then { c with streak := c.streak + 1 } else { c with state := .dry, streak := 0 }
  else { c with streak := 0 }

/-- A count in 64..4094, by the channel's state. A DRY or WET channel has B present (R110). -/
def Channel.judgedInRange (c : Channel) (count : Nat) : Channel :=
  match c.state with
  | .off => c
  | .opened => c.returned
  | .short => c.returned
  | .calibrating => c.calibrated count
  | .dry => match c.baseline with
    | some b => c.judgedDry b count
    | none => c
  | .wet => match c.baseline with
    | some b => c.judgedWet b count
    | none => c

/-- The count is written as C and judged (R111, R114). -/
def Channel.judged (c : Channel) (count : Nat) : Channel :=
  let c := { c with last := some count }
  if c.state = .off then c
  else if count = 4095 then (if c.state = .opened then c else c.failedAs .opened)
  else if count < 64 then (if c.state = .short then c else c.failedAs .short)
  else c.judgedInRange count

/-! ### What a change of state hands on (R118) -/

/-- OPEN or SHORT. -/
def LeakState.broken : LeakState → Bool
  | .opened => true
  | .short => true
  | .off => false
  | .calibrating => false
  | .dry => false
  | .wet => false

/-- The urgency of a leak notice for a change of state, if it raises one (R118 step 1). -/
def leakUrgency (before after : LeakState) : Option Urgency :=
  if after = .wet then some .urgent
  else if before = .wet || before.broken || after.broken then some .routine
  else none

/-- The wet-channel count after a change of state (R113). -/
def countWet (n : Nat) (before after : LeakState) : Nat :=
  n - (if before = .wet then 1 else 0) + (if after = .wet then 1 else 0)

/-- The zones whose leak mask holds a channel, ascending (R118 step 3). -/
def State.watchers (s : State) (c : ChannelId) : List ZoneId :=
  (List.finRange 24).filter fun z => (s.zone z).cfg.watches c

/-- The notice of a change of state is raised (R118 step 1). -/
def State.raiseLeak (s : State) (c : ChannelId) (before after : LeakState) : State :=
  match leakUrgency before after with
  | some u => s.raise (.leak c) u
  | none => s

/-- The wet-channel count follows a change of state (R118 step 2). -/
def State.countWetChange (s : State) (before after : LeakState) : State :=
  s.setLeak { s.leak with wetChannels := countWet s.leak.wetChannels before after }

/-- A channel's record is replaced, and its change of state, if it is one, handed on (R118): the notice, the count,
the zones that watch it where it has entered or left WET. -/
def State.changeChannel (s : State) (c : ChannelId) (r : Channel) : State :=
  let before := (s.channel c).state
  let s1 := s.setChannel c r
  if before = r.state then s1
  else
    let s2 := (s1.raiseLeak c before r.state).countWetChange before r.state
    if before = .wet || r.state = .wet then s2.evaluateAll (s2.watchers c) else s2

/-! ### Rounds (R112, R113) -/

/-- The lowest enabled channel numbered at or above n (R112). -/
def State.nextChannel (s : State) (n : Nat) : Option ChannelId :=
  (List.finRange 8).find? fun c => decide (n ≤ c.val) && (s.channel c).enabled

/-- The round countdown of a rate, in milliseconds (R113). -/
def Rate.interval : Rate → Nat
  | .slow => 4000
  | .fast => 500

/-- A round start: the wanted rate is applied, the countdown loaded, the first enabled channel's gate opened (R112,
R113). -/
def State.startRound (s : State) : State :=
  s.setLeak { s.leak with applied := s.leak.wanted, countdown := s.leak.wanted.interval,
                          position := s.nextChannel 0, discard := false }

/-- ROUND_START (R112). A round ends before the next one starts (R112), so none starts while a gate is open
(assumption 4). -/
def execRoundStart (s : State) : Host.Outcome State Fault Refusal :=
  fieldEvent (fun s => if s.leak.position.isSome then s else s.startRound) s

/-- The gate of the next enabled channel above the one just measured opens, or the round ends (R112). -/
def State.advanceRound (s : State) (c : ChannelId) : State :=
  s.setLeak { s.leak with position := s.nextChannel (c.val + 1), discard := false }

/-- The counter stops at 4095 and does not wrap (R111). -/
def saturateCount (cycles : Nat) : Nat := min cycles 4095

/-- A gate closes: its count is written and judged, or discarded where a request reset the channel while the gate was
open (R111, R122); the round goes on (R112). -/
def State.closeGate (s : State) (cycles : Nat) : State :=
  match s.leak.position with
  | none => s
  | some c =>
    (if s.leak.discard then s
     else s.changeChannel c ((s.channel c).judged (saturateCount cycles))).advanceRound c

/-- GATE_CLOSE (R111). -/
def execGateClose (cycles : Nat) (s : State) : Host.Outcome State Fault Refusal :=
  fieldEvent (fun s => s.closeGate cycles) s

/-! ### Requests (R120 to R123) -/

/-- A channel set up afresh: CALIBRATING if enabled, OFF if not; C kept (R120). -/
def Channel.setUp (c : Channel) (enabled : Bool) (dw hy : Nat) : Channel :=
  { c with enabled := enabled, dw := dw, hy := hy, baseline := none,
           state := if enabled then .calibrating else .off, streak := 0, calSum := 0, calCount := 0 }

/-- The open gate's count is discarded if it is this channel's (R122). -/
def State.discardGate (s : State) (c : ChannelId) : State :=
  if s.leak.position = some c then s.setLeak { s.leak with discard := true } else s

/-- A request resets a channel: its open gate's count is discarded and its change handed on (R118, R122). -/
def State.resetChannel (s : State) (c : ChannelId) (r : Channel) : State := (s.discardGate c).changeChannel c r

/-- Dw as applied (R120). -/
def leakDw (dw : Nat) : Nat := clampNat 16 1024 dw

/-- Hy as applied: clamped, and lowered to Dw where it exceeds it (R120). -/
def leakHy (dw hy : Nat) : Nat := min (clampNat 8 128 hy) (leakDw dw)

/-- Leak Setup's work (R120). -/
def leakSetupWork (p : List Byte) (s : State) : State × Reply :=
  match fin? 8 (u8 p 0), bool? (u8 p 1) with
  | some c, some enabled =>
    let dw := leakDw (u16 p 2)
    let hy := leakHy (u16 p 2) (u16 p 4)
    let s' := s.resetChannel c ((s.channel c).setUp enabled dw hy)
    (s', ⟨takenStatus (dw != u16 p 2 || hy != u16 p 4),
      [byte c.val, boolByte enabled] ++ be16 dw ++ be16 hy ++ [(s'.channel c).state.code]⟩)
  | _, _ => (s, Reply.bare .badField)

/-- A Leak Setup payload whose enable byte names the other of the two rows is not this row's step (assumption 21). -/
def otherLeakRow (payload : List Byte) (enabled : Bool) : Bool :=
  decide (payload.length = 6) && bool? (u8 payload 1) == some !enabled

/-- Leak Setup (R180): kind, length, work. -/
def leakSetupService : Service := ⟨0x30, 6, leakSetupWork⟩

/-- LEAK_SETUP_ENABLE (R120). -/
def execLeakSetupEnable (tag : Byte) (payload : List Byte) (s : State) : Host.Outcome State Fault Refusal :=
  if otherLeakRow payload true then .next s else runRequest leakSetupService tag payload s

/-- LEAK_SETUP_DISABLE (R120). -/
def execLeakSetupDisable (tag : Byte) (payload : List Byte) (s : State) : Host.Outcome State Fault Refusal :=
  if otherLeakRow payload false then .next s else runRequest leakSetupService tag payload s

/-- A channel put back into CALIBRATING (R121). -/
def Channel.recalibrated (c : Channel) : Channel :=
  { c with baseline := none, state := .calibrating, streak := 0, calSum := 0, calCount := 0 }

/-- Leak Recalibrate's work (R121). -/
def leakRecalibrateWork (p : List Byte) (s : State) : State × Reply :=
  match fin? 8 (u8 p 0) with
  | none => (s, Reply.bare .badField)
  | some c =>
    if (s.channel c).state = .off then (s, Reply.bare .wrongState)
    else
      let s' := s.resetChannel c (s.channel c).recalibrated
      (s', ⟨.ok, [byte c.val, (s.channel c).state.code, (s'.channel c).state.code]⟩)

/-- Leak Recalibrate (R180): kind, length, work. -/
def leakRecalibrateService : Service := ⟨0x31, 1, leakRecalibrateWork⟩

/-- LEAK_RECALIBRATE (R121). -/
def execLeakRecalibrate (tag : Byte) (payload : List Byte) (s : State) : Host.Outcome State Fault Refusal :=
  runRequest leakRecalibrateService tag payload s

/-- Leak Query's answer: the leak body, the calibration sum, the zones watching, the two rates (R123, R182). -/
def leakQueryAnswer (p : List Byte) (s : State) : Reply :=
  match fin? 8 (u8 p 0) with
  | none => Reply.bare .badField
  | some c =>
    ⟨.ok, s.leakBody c ++ be16 (s.channel c).calSum ++ be32 (zoneSet fun z => (s.zone z).cfg.watches c)
      ++ [s.leak.applied.code, s.leak.wanted.code]⟩

/-- Leak Query (R180): kind, length, work. -/
def leakQueryService : Service := ⟨0x32, 1, readOnly leakQueryAnswer⟩

/-- LEAK_QUERY (R123). -/
def execLeakQuery (tag : Byte) (payload : List Byte) (s : State) : Host.Outcome State Fault Refusal :=
  runRequest leakQueryService tag payload s

end Sys2Proof.Machine
end

