-- ==== Sys2Proof/Machine/Settings.lean ====
section
/-! DEFINITION. Power, the Settings Store and Warm Restart (10_the_message_line.md, R171 to R175): power-on and power
loss, the settings load, Keep Settings and Warm Restart. Their ends, after which the requests that waited are executed,
stand in Requests.lean. -/

namespace Sys2Proof.Machine

open Sys2Proof

/-! ### Keep Settings (R171, R172) -/

/-- The configuration of every block as it stands, with the scan period the host last set (R171, R172 step 1). -/
def State.image (s : State) : Image :=
  { probes := s.probes.map (·.config)
    map := s.map
    zones := s.zones.map fun r => (r.enabled, r.cfg)
    channels := s.leak.channels.map fun c => (c.enabled, c.dw, c.hy, c.baseline)
    lines := s.lines.map (·.cfg)
    scanMode := if s.scan.mode = .continuous then .continuous else .stopped
    period := s.scan.next.getD s.scan.active
    maxAge := s.scan.maxAge
    trunks := s.engines.map (·.settings)
    mask := s.port.mask }

/-- A single entry or none, in the image's bytes (assumption 13). -/
def singleByte (z : Option ZoneId) : Byte := optCode (z.map fun z => byte z.val)

/-- A probe record's configuration in the image's bytes (assumption 13). -/
def probeConfigBytes (c : Option ProbeConfig) : List Byte :=
  [boolByte c.isSome, optCode (c.map fun c => c.kind.code)]
    ++ sbe16 ((c.map (·.tTrim)).getD 0) ++ sbe16 ((c.map (·.rhTrim)).getD 0)

/-- A line's configuration in the image's bytes (assumption 13). -/
def LineConfig.bytes (c : LineConfig) : List Byte :=
  c.mode.code :: be32 c.mask.toNat ++ [c.trigger.code, c.polarity.code, boolByte c.failsafe]

/-- The image as bytes, field by field in the order of R171's table. The spec gives the image no layout: this one is the
model's (DESIGN CHOICE, assumption 13). -/
def Image.bytes (i : Image) : List Byte :=
  i.probes.items.flatMap probeConfigBytes
    ++ i.map.singles.items.map singleByte
    ++ byte i.map.spans.length :: i.map.spans.flatMap (fun p =>
        [trunkCode p.trunk, byte p.base, byte p.size, byte p.zone.val])
    ++ i.zones.items.flatMap (fun z => boolByte z.1 :: z.2.bytes)
    ++ i.channels.items.flatMap (fun c => boolByte c.1 :: be16 c.2.1 ++ be16 c.2.2.1 ++ optWord c.2.2.2)
    ++ i.lines.items.flatMap LineConfig.bytes
    ++ i.scanMode.code :: be16 i.period ++ be16 i.maxAge
    ++ i.trunks.items.flatMap (fun t => [byte t.retries, byte t.haltThreshold, byte t.faultThreshold])
    ++ [boolByte i.mask.zone, boolByte i.mask.event, boolByte i.mask.probe, boolByte i.mask.trunk,
        boolByte i.mask.leak]

/-- The CRC-16 check over an image: 0x1021 from 0xFFFF, as for frames (R171). -/
def Image.check (i : Image) : BitVec 16 := crc16 i.bytes

/-- The store while an image is being written in its place: until the write has ended the stored check is not that of
the contents (R172 step 2); the model lets it be the check's complement (DESIGN CHOICE, assumption 12). -/
def Store.writing (i : Image) : Store := { contents := i, check := ~~~ i.check, markedInvalid := false }

/-- The image's write has ended, its check with it (R172 step 2). -/
def Store.written (s : Store) : Store := { s with check := s.contents.check }

/-- Keep Settings begins (R172). -/
def State.beginKeep (s : State) (tag : Byte) : State :=
  { s with store := Store.writing s.image, port := { s.port with executing := some (.keepSettings tag) } }

/-- The execution of a Keep Settings request up to its write (R163, R172). -/
def State.runKeepSettings (tag : Byte) (payload : List Byte) (s : State) : State :=
  if payload.length = 0 then s.beginKeep tag else s.completeReply 0x03 tag (Reply.bare .badLength)

/-- KEEP_SETTINGS (R172): the start of its execution; its reply comes at KEEP_SETTINGS_DONE. -/
def execKeepSettings (tag : Byte) (payload : List Byte) (s : State) : Host.Outcome State Fault Refusal :=
  whenAdmitted ⟨0x03, tag, payload⟩ (State.runKeepSettings tag payload) s

/-- The image read back agrees: it is valid, and SETTINGS_DEFAULTED is cleared (R172 step 4). -/
def State.keepSucceeded (s : State) : State :=
  { s with defaulted := false, store := s.store.written }

/-- The image read back differs: it is marked invalid (R172 step 4). -/
def State.keepFailed (s : State) : State := { s with store := { s.store with markedInvalid := true } }

/-- Keep Settings ends with its reply (R172 step 4). -/
def State.endKeep (s : State) (tag : Byte) (agrees : Bool) : State :=
  let s1 := if agrees then s.keepSucceeded else s.keepFailed
  (s1.setPort { s1.port with executing := none }).completeReply 0x03 tag
    (Reply.bare (if agrees then .ok else .storeFailed))

/-- The end of a Keep Settings that is under way (R172). -/
def State.keepDone (readBackAgrees : Bool) (s : State) : State :=
  match s.port.executing with
  | some (.keepSettings tag) => s.endKeep tag readBackAgrees
  | some (.warmRestart _) => s
  | none => s

/-! ### Power (R172, R174) -/

/-- The store after a loss of power: a write that had not ended leaves an image that fails its check, and one that had
ended leaves a good one (R172, assumption 12). -/
def State.storeAtLoss (s : State) (writeEnded : Bool) : Store :=
  match s.port.executing with
  | some (.keepSettings _) => if writeEnded then s.store.written else s.store
  | some (.warmRestart _) => s.store
  | none => s.store

/-- POWER_ON (R174): every block at its power-on state, the settings not yet loaded. Power that is already on is lost
first, before any settings write has ended (assumption 11). -/
def execPowerOn (s : State) : Host.Outcome State Fault Refusal := .next (State.unloaded .loading s.store s.pending)

/-- POWER_LOSS (R172): everything but the store is lost (assumption 11). -/
def execPowerLoss (writeEnded : Bool) (s : State) : Host.Outcome State Fault Refusal :=
  .next (State.unloaded .off (s.storeAtLoss writeEnded) s.pending)

/-! ### The settings load (R173) -/

/-- The image is valid: its stored check equals the check computed over its contents and it is not marked invalid
(R171). -/
def Store.valid (s : Store) : Bool := s.check == s.contents.check && !s.markedInvalid

/-- The image that the load gives the blocks: the stored one if it is valid, else the defaults (R173). -/
def Store.toLoad (s : Store) : Image := if s.valid then s.contents else Image.default

/-- The blocks as an image starts them (R20, R30, R40, R56, R70, R108, R124, R143, R157, R174). -/
def State.startedFrom (s : State) (i : Image) : State :=
  { s with
    power := .running
    port := Port.start i.mask
    engines := i.trunks.map Engine.start
    scan := { mode := i.scanMode, active := i.period, next := none, countdown := none, due := false,
              maxAge := i.maxAge }
    slots := Table.all 4 .free
    probes := i.probes.map ProbeRecord.start
    map := i.map
    zones := i.zones.map fun z => ZoneRecord.start z.1 z.2
    leak := { channels := i.channels.map fun c => Channel.start c.1 c.2.1 c.2.2.1 c.2.2.2, applied := .slow,
              countdown := 4000, activeZones := 0, wetChannels := 0, position := none, discard := false }
    events := EventList.empty 1
    lines := i.lines.map fun c => LineRecord.start c .inactive }

/-- The load: every block takes its settings, the first leak round starts, and in mode CONTINUOUS a period start is
made (R30, R124, R173). -/
def State.load (s : State) : State :=
  ({ s with defaulted := !s.store.valid }.startedFrom s.store.toLoad).startRound.resumeScan

/-- SETTINGS_LOAD (R173). It follows a power-on (assumption 4). -/
def execSettingsLoad (s : State) : Host.Outcome State Fault Refusal :=
  if s.power = .loading then finish s.load else .next s

/-! ### Warm Restart (R175) -/

/-- Warm Restart's reply is completed, and the execution goes on until it has been sent (R175). -/
def State.beginRestart (s : State) (tag : Byte) : State :=
  (s.setPort { s.port with executing := some (.warmRestart false) }).queueFrame
    (replyFrame .restartReply 0x04 tag (Reply.bare .ok))

/-- The execution of a Warm Restart request up to the sending of its reply (R163, R175). -/
def State.runWarmRestart (tag : Byte) (payload : List Byte) (s : State) : State :=
  if payload.length = 0 then s.beginRestart tag else s.completeReply 0x04 tag (Reply.bare .badLength)

/-- WARM_RESTART (R175). -/
def execWarmRestart (tag : Byte) (payload : List Byte) (s : State) : Host.Outcome State Fault Refusal :=
  whenAdmitted ⟨0x04, tag, payload⟩ (State.runWarmRestart tag payload) s

/-- The cable of a trunk at Warm Restart: an abandoned transaction runs out first (R21, assumption 17). -/
def Link.abandoned (l : Link) : Link :=
  match l with
  | .sending q => .strandedSending q
  | .listening => .strandedListening
  | .ready => .ready
  | .gap => .gap
  | .strandedSending q => .strandedSending q
  | .strandedListening => .strandedListening

/-- A trunk at Warm Restart (R21). -/
def Engine.restarted (e : Engine) : Engine :=
  { Engine.start e.settings with link := e.link.abandoned }

/-- An order slot at Warm Restart (R40). -/
def OrderSlot.restarted (o : OrderSlot) : OrderSlot :=
  match o with
  | .reporting => .reporting
  | .free => .free
  | .held _ => .free
  | .closing _ => .free

/-- A channel at Warm Restart: its streak is 0, all else is kept (R125). -/
def Channel.restarted (c : Channel) : Channel := { c with streak := 0 }

/-- The port at Warm Restart: the notice queue is emptied and the execution ends; frames, requests, mask and receiver
are kept (R175). -/
def Port.restarted (p : Port) : Port := { p with executing := none, urgent := [], routine := [] }

/-- Every block resets its dynamic state and keeps its configuration (R175; R21, R40, R56, R71, R109, R125, R144,
R158). -/
def State.restarted (s : State) : State :=
  { s with
    port := s.port.restarted
    engines := s.engines.map Engine.restarted
    slots := s.slots.map OrderSlot.restarted
    probes := s.probes.map fun p => ProbeRecord.start p.config
    zones := s.zones.map fun r => ZoneRecord.start r.enabled r.cfg
    leak := { s.leak with channels := s.leak.channels.map Channel.restarted, activeZones := 0 }
    events := EventList.empty s.events.nextNumber
    lines := s.lines.map fun l => LineRecord.start l.cfg .inactive }

/-- The reset, if it is due; then in mode CONTINUOUS a period start is made (R31, R175). -/
def State.resetIfDue (s : State) : State := if s.port.resetDue then s.restarted.resumeScan else s

end Sys2Proof.Machine
end

