-- ==== Sys2Proof/Machine/Requests.lean ====
section
/-! DEFINITION. Requests one after another (R161, R162): the execution of whatever request stands first, at its
arrival or when the one before it has ended, and the three commands that can begin one so: the arrival of a frame, the
end of Keep Settings, and the reset of Warm Restart. -/

namespace Sys2Proof.Machine

open Sys2Proof

/-- The request kinds whose execution is one step with a payload of one length (R180). -/
def requestServices : List Service :=
  [identifyService, summaryService, noticeMaskService, defineProbeService, retireProbeService, probeQueryService,
   trunkRestartService, trunkSetupService, scanSetupService, surveyCancelService, mapPointService, mapSpanService,
   unmapPointService, unmapSpanService, mapQueryService, zoneSetupService, zoneOnService, zoneOffService,
   zoneQueryService, leakSetupService, leakRecalibrateService, leakQueryService, lineSetupService, lineReleaseService,
   lineQueryService, eventListService, eventQueryService, eventAckService]

/-- The execution of a request, by its kind, from the state in which it no longer waits (R162, R163). -/
def State.execute (s : State) (r : Request) : State :=
  if r.kind = 0x03 then s.runKeepSettings r.tag r.payload
  else if r.kind = 0x04 then s.runWarmRestart r.tag r.payload
  else if r.kind = 0x19 then s.runSurvey r.tag r.payload
  else
    match requestServices.find? (·.kind == r.kind) with
    | some v => v.run r.tag r.payload s
    | none => s.runUnknownKind r.kind r.tag

/-- With nothing executing, the oldest waiting request is executed, and a line left free takes what that made ready
(R162, R164). -/
def State.startNext (s : State) : State :=
  match s.port.executing, s.port.waiting with
  | none, r :: rest => ((s.setPort { s.port with waiting := rest }).execute r).arbitrate
  | none, [] => s
  | some _, _ => s

/-- Up to a number of waiting requests are executed. -/
def State.serveUpTo : Nat → State → State
  | 0, s => s
  | n + 1, s => State.serveUpTo n s.startNext

/-- The waiting requests are executed one at a time in the order of their arrival, until none waits or one takes time
(R162). -/
def State.serveWaiting (s : State) : State := State.serveUpTo s.port.waiting.length s

/-- An event of the running part after which a request may begin (R162). -/
def servingEvent (f : State → State) (s : State) : Host.Outcome State Fault Refusal :=
  if s.power = .running then .next (f s).arbitrate.serveWaiting else .next s

/-! ### Receiving (R160, R161) -/

/-- A good frame arrives: it is refused, or waits, or is executed at its arrival (R161, R162); what it makes ready is
sent at once if the line is idle (R164). -/
def State.arriveOne (s : State) (r : Request) : State := (s.arrive r).arbitrate.serveWaiting

/-- Bytes are received: the good frames they complete arrive in order, and the candidate left is kept (R160). -/
def State.receive (s : State) (bytes : List Byte) : State :=
  (receiveBytes s.port.rx bytes).1.foldl State.arriveOne
    (s.setPort { s.port with rx := (receiveBytes s.port.rx bytes).2 })

/-- FRAME_ARRIVAL (R160, R161). Before the load has ended every byte is discarded (R174). -/
def execFrameArrival (bytes : List Byte) (s : State) : Host.Outcome State Fault Refusal :=
  if s.power = .running then .next (s.receive bytes) else .next s

/-! ### The two executions that take time, and their ends (R172, R175) -/

/-- KEEP_SETTINGS_DONE (R172); the requests that waited are executed (R162). -/
def execKeepSettingsDone (readBackAgrees : Bool) (s : State) : Host.Outcome State Fault Refusal :=
  servingEvent (State.keepDone readBackAgrees) s

/-- WARM_RESTART_RESET (R175), due at the moment the last byte of the reply has been sent; execution goes on with the
first of the requests that waited, against the reset state. -/
def execWarmRestartReset (s : State) : Host.Outcome State Fault Refusal := servingEvent State.resetIfDue s

end Sys2Proof.Machine
end

