-- ==== Sys2Proof/Machine/Dispatch.lean ====
section
/-! DEFINITION. The dispatch: one arm for each command, each one call of the command's meaning. A
meaning acts on everything but the queue. -/

namespace Sys2Proof.Machine

open Sys2Proof

def exec (i : Instr) (s : State) : Host.Outcome State Fault Refusal :=
  match i with
  | .powerOn => Sys2Proof.Machine.execPowerOn s
  | .settingsLoad => Sys2Proof.Machine.execSettingsLoad s
  | .frameArrival bytes => Sys2Proof.Machine.execFrameArrival bytes s
  | .frameGapTimeout => Sys2Proof.Machine.execFrameGapTimeout s
  | .frameSent => Sys2Proof.Machine.execFrameSent s
  | .unknownKind kind tag payload => Sys2Proof.Machine.execUnknownKind kind tag payload s
  | .identify tag payload => Sys2Proof.Machine.execIdentify tag payload s
  | .summary tag payload => Sys2Proof.Machine.execSummary tag payload s
  | .keepSettings tag payload => Sys2Proof.Machine.execKeepSettings tag payload s
  | .keepSettingsDone readBackAgrees => Sys2Proof.Machine.execKeepSettingsDone readBackAgrees s
  | .warmRestart tag payload => Sys2Proof.Machine.execWarmRestart tag payload s
  | .warmRestartReset => Sys2Proof.Machine.execWarmRestartReset s
  | .noticeMask tag payload => Sys2Proof.Machine.execNoticeMask tag payload s
  | .defineProbe tag payload => Sys2Proof.Machine.execDefineProbe tag payload s
  | .retireProbe tag payload => Sys2Proof.Machine.execRetireProbe tag payload s
  | .probeQuery tag payload => Sys2Proof.Machine.execProbeQuery tag payload s
  | .trunkRestart tag payload => Sys2Proof.Machine.execTrunkRestart tag payload s
  | .trunkSetup tag payload => Sys2Proof.Machine.execTrunkSetup tag payload s
  | .scanSetupContinuous tag payload => Sys2Proof.Machine.execScanSetupContinuous tag payload s
  | .scanSetupSingle tag payload => Sys2Proof.Machine.execScanSetupSingle tag payload s
  | .scanSetupStopped tag payload => Sys2Proof.Machine.execScanSetupStopped tag payload s
  | .periodStart => Sys2Proof.Machine.execPeriodStart s
  | .survey tag payload => Sys2Proof.Machine.execSurvey tag payload s
  | .surveyCancel tag payload => Sys2Proof.Machine.execSurveyCancel tag payload s
  | .mapPoint tag payload => Sys2Proof.Machine.execMapPoint tag payload s
  | .mapSpan tag payload => Sys2Proof.Machine.execMapSpan tag payload s
  | .unmapPoint tag payload => Sys2Proof.Machine.execUnmapPoint tag payload s
  | .unmapSpan tag payload => Sys2Proof.Machine.execUnmapSpan tag payload s
  | .mapQuery tag payload => Sys2Proof.Machine.execMapQuery tag payload s
  | .zoneSetup tag payload => Sys2Proof.Machine.execZoneSetup tag payload s
  | .zoneOn tag payload => Sys2Proof.Machine.execZoneOn tag payload s
  | .zoneOff tag payload => Sys2Proof.Machine.execZoneOff tag payload s
  | .zoneQuery tag payload => Sys2Proof.Machine.execZoneQuery tag payload s
  | .leakSetupEnable tag payload => Sys2Proof.Machine.execLeakSetupEnable tag payload s
  | .leakSetupDisable tag payload => Sys2Proof.Machine.execLeakSetupDisable tag payload s
  | .leakRecalibrate tag payload => Sys2Proof.Machine.execLeakRecalibrate tag payload s
  | .leakQuery tag payload => Sys2Proof.Machine.execLeakQuery tag payload s
  | .lineSetup tag payload => Sys2Proof.Machine.execLineSetup tag payload s
  | .lineRelease tag payload => Sys2Proof.Machine.execLineRelease tag payload s
  | .lineQuery tag payload => Sys2Proof.Machine.execLineQuery tag payload s
  | .eventList tag payload => Sys2Proof.Machine.execEventList tag payload s
  | .eventQuery tag payload => Sys2Proof.Machine.execEventQuery tag payload s
  | .eventAck tag payload => Sys2Proof.Machine.execEventAck tag payload s
  | .gapExpiry trunk => Sys2Proof.Machine.execGapExpiry trunk s
  | .transactionOpen trunk => Sys2Proof.Machine.execTransactionOpen trunk s
  | .answerReceived trunk bytes => Sys2Proof.Machine.execAnswerReceived trunk bytes s
  | .answerTimeout trunk bytes => Sys2Proof.Machine.execAnswerTimeout trunk bytes s
  | .ageExpiry addr => Sys2Proof.Machine.execAgeExpiry addr s
  | .dwellExpiry zone => Sys2Proof.Machine.execDwellExpiry zone s
  | .dutyFrameStart => Sys2Proof.Machine.execDutyFrameStart s
  | .dutyOnTimeEnd line => Sys2Proof.Machine.execDutyOnTimeEnd line s
  | .roundStart => Sys2Proof.Machine.execRoundStart s
  | .gateClose cycles => Sys2Proof.Machine.execGateClose cycles s
  | .powerLoss writeEnded => Sys2Proof.Machine.execPowerLoss writeEnded s
  | .uptimeSecond => Sys2Proof.Machine.execUptimeSecond s

end Sys2Proof.Machine
end

