-- ==== Sys2Proof/Safety.lean ====
section
/-! DEFINITION. The terms in which claims about the part are made: when the execution of a request begins, what a reply
does to the outgoing line, what an evaluation may touch, and the invariants that every step keeps. -/

namespace Sys2Proof.Machine

open Sys2Proof

/-! ### The start and the end of a request (R161 to R164) -/

/-- In s the execution of the request r begins, and s0 is the state it is executed in: the oldest waiting request no
longer waits, or r arrives while none waits and a slot is free (R161, R162). -/
def State.begins (s : State) (r : Request) (s0 : State) : Prop :=
  s.power = .running ∧ s.port.executing = none ∧
    ((s.port.waiting = [] ∧ s.port.slotsHeld < 4 ∧ s0 = s) ∨
      ∃ rest, s.port.waiting = r :: rest ∧ s0 = s.setPort { s.port with waiting := rest })

/-- The reply-class frames in the order in which they go out, the frame being sent first (R164). -/
def Port.outgoing (p : Port) : List OutFrame := p.line.toList ++ p.replies

/-- The bytes of a frame on the line: SYNC, LEN, KIND, TAG, the payload, and the CRC-16 of LEN and the body, high byte
first (R159). -/
def OutFrame.onWire (f : OutFrame) : List Byte :=
  [0xA5, byte (f.payload.length + 2), f.kind, f.tag] ++ f.payload
    ++ [(crc16 (byte (f.payload.length + 2) :: f.kind :: f.tag :: f.payload)).extractLsb' 8 8,
        (crc16 (byte (f.payload.length + 2) :: f.kind :: f.tag :: f.payload)).extractLsb' 0 8]

/-- The bytes that the transmit pair carries for the frame in line; none while the line is idle (R159, R164). -/
def lineBytes (line : Option OutFrame) : List Byte :=
  match line with
  | some f => f.onWire
  | none => []

/-- The state after a reply-class frame has been completed last of a step: it goes out behind those before it, and at
once if nothing is being sent (R164). -/
def State.answered (s : State) (f : OutFrame) : State :=
  s.setPort { s.port with line := (s.port.outgoing ++ [f]).head?, replies := (s.port.outgoing ++ [f]).tail,
                          wire := if s.port.line.isSome then s.port.wire else lineBytes (s.port.outgoing ++ [f]).head? }

/-- A source's notice waits in the queue, or goes out with what the source shows now (R164, R165). -/
def State.noticed (s : State) (src : Source) : Prop :=
  src ∈ s.port.urgent ++ s.port.routine ∨ s.port.line = some ⟨.notice src, src.kind, 0, s.noticeBody src⟩

/-- The reply to a request kind with a status and what follows it (R163). -/
def replyTo (kind tag : Byte) (status : Status) (body : List Byte) : OutFrame :=
  { role := .reply, kind := kind + 0x40, tag := tag, payload := status.code :: body }

/-- The requests whose payload has one length, each with its row, its kind and that length (R180). -/
def fixedRequests : List ((Byte → List Byte → Instr) × Byte × Nat) :=
  [(.identify, 0x01, 0), (.summary, 0x02, 0), (.keepSettings, 0x03, 0), (.warmRestart, 0x04, 0),
   (.noticeMask, 0x05, 5), (.defineProbe, 0x10, 7), (.retireProbe, 0x11, 2), (.probeQuery, 0x12, 2),
   (.trunkRestart, 0x13, 1), (.trunkSetup, 0x14, 4), (.scanSetupContinuous, 0x18, 5), (.scanSetupSingle, 0x18, 5),
   (.scanSetupStopped, 0x18, 5), (.surveyCancel, 0x1A, 1), (.mapPoint, 0x20, 3), (.mapSpan, 0x21, 4),
   (.unmapPoint, 0x22, 2), (.unmapSpan, 0x23, 3), (.mapQuery, 0x24, 0), (.zoneSetup, 0x28, 17), (.zoneOn, 0x29, 1),
   (.zoneOff, 0x2A, 1), (.zoneQuery, 0x2B, 1), (.leakSetupEnable, 0x30, 6), (.leakSetupDisable, 0x30, 6),
   (.leakRecalibrate, 0x31, 1), (.leakQuery, 0x32, 1), (.lineSetup, 0x34, 9), (.lineRelease, 0x35, 1),
   (.lineQuery, 0x36, 1), (.eventList, 0x38, 0), (.eventQuery, 0x39, 2), (.eventAck, 0x3A, 2)]

/-- Every request row with its kind, and whether a payload is of this row and not of another with the same kind: the
mode byte tells the three Scan Setup rows apart, the enable byte the two Leak Setup rows (R25, R120, R180). -/
def requestRows : List ((Byte → List Byte → Instr) × Byte × (List Byte → Bool)) :=
  [(.identify, 0x01, fun _ => true), (.summary, 0x02, fun _ => true), (.keepSettings, 0x03, fun _ => true),
   (.warmRestart, 0x04, fun _ => true), (.noticeMask, 0x05, fun _ => true), (.defineProbe, 0x10, fun _ => true),
   (.retireProbe, 0x11, fun _ => true), (.probeQuery, 0x12, fun _ => true), (.trunkRestart, 0x13, fun _ => true),
   (.trunkSetup, 0x14, fun _ => true), (.scanSetupContinuous, 0x18, fun p => p.length == 5 && u8 p 0 == 1),
   (.scanSetupSingle, 0x18, fun p => p.length == 5 && u8 p 0 == 2),
   (.scanSetupStopped, 0x18, fun p => p.length != 5 || u8 p 0 == 0 || decide (2 < u8 p 0)),
   (.survey, 0x19, fun _ => true), (.surveyCancel, 0x1A, fun _ => true), (.mapPoint, 0x20, fun _ => true),
   (.mapSpan, 0x21, fun _ => true), (.unmapPoint, 0x22, fun _ => true), (.unmapSpan, 0x23, fun _ => true),
   (.mapQuery, 0x24, fun _ => true), (.zoneSetup, 0x28, fun _ => true), (.zoneOn, 0x29, fun _ => true),
   (.zoneOff, 0x2A, fun _ => true), (.zoneQuery, 0x2B, fun _ => true),
   (.leakSetupEnable, 0x30, fun p => p.length == 6 && u8 p 1 == 1),
   (.leakSetupDisable, 0x30, fun p => p.length != 6 || u8 p 1 != 1),
   (.leakRecalibrate, 0x31, fun _ => true), (.leakQuery, 0x32, fun _ => true), (.lineSetup, 0x34, fun _ => true),
   (.lineRelease, 0x35, fun _ => true), (.lineQuery, 0x36, fun _ => true), (.eventList, 0x38, fun _ => true),
   (.eventQuery, 0x39, fun _ => true), (.eventAck, 0x3A, fun _ => true)]

/-- The command that is a request's own row: that of its kind and payload, or UNKNOWN_KIND (R163, R180). -/
def Request.isRow (r : Request) (c : Instr) : Prop :=
  (r.kind ∉ requestKinds ∧ c = .unknownKind r.kind r.tag r.payload)
    ∨ ∃ row ∈ requestRows, r.kind = row.2.1 ∧ row.2.2 r.payload = true ∧ c = row.1 r.tag r.payload

/-- From s the rows of the requests, one after another, lead to t. -/
def State.runsRows : State → List Request → State → Prop
  | s, [], t => t = s
  | s, r :: rest, t => ∃ c u, r.isRow c ∧ exec c s = .next u ∧ u.runsRows rest t

/-- A field of a payload of the right length that names what the part does not have, request by request (R16, R17,
R25, R42, R44, R55, R61, R69, R89, R91, R92, R107, R120, R121, R123, R139, R141, R151, R154, R156, R168). -/
def badFieldRequests : List ((Byte → List Byte → Instr) × Byte × Nat × (List Byte → Bool)) :=
  [(.noticeMask, 0x05, 5, fun p => (List.range 5).any fun i => decide (1 < u8 p i)),
   (.defineProbe, 0x10, 7, fun p => decide (1 < u8 p 0 ∨ 31 < u8 p 1 ∨ (u8 p 2 ≠ 1 ∧ u8 p 2 ≠ 2))),
   (.retireProbe, 0x11, 2, fun p => decide (1 < u8 p 0 ∨ 31 < u8 p 1)),
   (.probeQuery, 0x12, 2, fun p => decide (1 < u8 p 0 ∨ 31 < u8 p 1)),
   (.trunkRestart, 0x13, 1, fun p => decide (1 < u8 p 0)),
   (.trunkSetup, 0x14, 4, fun p => decide (1 < u8 p 0)),
   (.scanSetupContinuous, 0x18, 5, fun p => decide (2 < u8 p 0)),
   (.scanSetupSingle, 0x18, 5, fun p => decide (2 < u8 p 0)),
   (.scanSetupStopped, 0x18, 5, fun p => decide (2 < u8 p 0)),
   (.mapPoint, 0x20, 3, fun p => decide (1 < u8 p 0 ∨ 31 < u8 p 1 ∨ 23 < u8 p 2)),
   (.mapSpan, 0x21, 4, fun p => decide (1 < u8 p 0 ∨ 31 < u8 p 1 ∨ 23 < u8 p 3)),
   (.unmapPoint, 0x22, 2, fun p => decide (1 < u8 p 0 ∨ 31 < u8 p 1)),
   (.unmapSpan, 0x23, 3, fun p => decide (1 < u8 p 0 ∨ 31 < u8 p 1)),
   (.zoneSetup, 0x28, 17, fun p => decide (23 < u8 p 0 ∨ 1 < u8 p 15)),
   (.zoneOn, 0x29, 1, fun p => decide (23 < u8 p 0)),
   (.zoneOff, 0x2A, 1, fun p => decide (23 < u8 p 0)),
   (.zoneQuery, 0x2B, 1, fun p => decide (23 < u8 p 0)),
   (.leakSetupEnable, 0x30, 6, fun p => decide (1 < u8 p 1 ∨ (7 < u8 p 0 ∧ u8 p 1 = 1))),
   (.leakSetupDisable, 0x30, 6, fun p => decide (1 < u8 p 1 ∨ (7 < u8 p 0 ∧ u8 p 1 = 0))),
   (.leakRecalibrate, 0x31, 1, fun p => decide (7 < u8 p 0)),
   (.leakQuery, 0x32, 1, fun p => decide (7 < u8 p 0)),
   (.lineSetup, 0x34, 9, fun p => decide (3 < u8 p 0 ∨ 3 < u8 p 1 ∨ 0 < u8 p 2 ∨ u8 p 6 < 3 ∨ 5 < u8 p 6 ∨ 1 < u8 p 7
      ∨ 1 < u8 p 8)),
   (.lineRelease, 0x35, 1, fun p => decide (3 < u8 p 0)),
   (.lineQuery, 0x36, 1, fun p => decide (3 < u8 p 0)),
   (.eventQuery, 0x39, 2, fun p => decide (u16 p 0 = 0)),
   (.eventAck, 0x3A, 2, fun p => decide (u16 p 0 = 0))]

/-! ### Items that join a wait list (R8, R9, R24) -/

/-- An engine after items have joined its tail one after another: a free engine, whose list is empty, takes the first of
them at once and sends its query (R8, R9). -/
def Engine.joined (e : Engine) (items : List Item) : Engine :=
  if e.free then
    match items with
    | [] => e
    | i :: rest =>
      { e with inFlight := some i, waitList := rest, attempt := e.settings,
               link := .sending (probeQueryBytes i.drop) }
  else { e with waitList := e.waitList ++ items }

/-- The drops of a trunk at which a probe is defined, ascending (R24). -/
def State.definedDrops (s : State) (t : Trunk) : List Drop :=
  (List.finRange 32).filter fun d => s.definedAt ⟨t, d⟩

/-- The drops of the SCAN items in a wait list. -/
def scanDrops (items : List Item) : List Drop := (items.filter fun i => i.origin == .scan).map (·.drop)

/-- An engine after a cycle start that finds probes defined at the drops given: a new SCAN item for each of them, but
where one waits already; nothing on a HALTED trunk (R15, R24). -/
def Engine.cycled (e : Engine) (defined : List Drop) : Engine :=
  if e.halted then e
  else e.joined ((defined.filter fun d => !(scanDrops e.waitList).contains d).map fun d => newItem d .scan)

/-! ### What an evaluation may touch (R93, R104, R105) -/

/-- The blocks that no evaluation of a zone touches, and what it keeps of those it does. -/
structure State.evaluationKeeps (s t : State) : Prop where
  pending    : t.pending = s.pending
  power      : t.power = s.power
  uptime     : t.uptime = s.uptime
  defaulted  : t.defaulted = s.defaulted
  store      : t.store = s.store
  engines    : t.engines = s.engines
  scan       : t.scan = s.scan
  slots      : t.slots = s.slots
  probes     : t.probes = s.probes
  map        : t.map = s.map
  /-- Of the port only the notice queue. -/
  port       : t.port = { s.port with urgent := t.port.urgent, routine := t.port.routine }
  /-- Of the Leak Sense Unit only the active-zone count. -/
  leak       : t.leak = { s.leak with activeZones := t.leak.activeZones }
  lineConfig : ∀ l, (t.outLine l).cfg = (s.outLine l).cfg

/-! ### The lines of a zone (R148 to R150, R152) -/

/-- A zone proposes a duty to a PROPORTIONAL line (the table of R152). -/
def State.proposes (s : State) (c : LineConfig) (z : ZoneId) (d : Nat) : Prop :=
  ((s.zone z).grade = .wet ∧ d = 255)
    ∨ ((s.zone z).grade = .stale ∧ d = (if c.failsafe then 255 else 0))
    ∨ ((s.zone z).grade = .off ∧ d = 0)
    ∨ (((s.zone z).grade = .clear ∨ (s.zone z).grade = .watch ∨ (s.zone z).grade = .alarm)
        ∧ ∃ m, (s.zone z).m = some m ∧ d = zoneDuty (s.zone z).cfg.w (s.zone z).cfg.a m)

/-- From s to t every line whose mask holds the zone is recomputed from the zones as t has them, and no other line is
touched (R104 step 3, R148 to R150, R152). -/
def State.linesRecomputed (s : State) (z : ZoneId) (t : State) : Prop :=
  ∀ l r, r = s.outLine l →
    (r.cfg.mask.getLsbD z.val = false → t.outLine l = r)
    ∧ (r.cfg.mask.getLsbD z.val = true →
        (r.cfg.mode = .off → t.outLine l = { r with latched := false, computed := 0, applied := 0, drive := .inactive })
        ∧ (r.cfg.mode = .follow → t.outLine l = { r with drive := if t.triggered r.cfg then .active else .inactive })
        ∧ (r.cfg.mode = .latch → ∀ on, on = (r.latched || t.triggered r.cfg) →
            t.outLine l = { r with latched := on, drive := if on then .active else .inactive })
        ∧ (r.cfg.mode = .proportional → t.outLine l = { r with computed := t.askedDuty r.cfg }))

/-! ### Expiries that are due (R23, R51, R101, assumption 19) -/

/-- The expiry of a zone's dwell is due. -/
def State.dwellIsDue (s : State) (z : ZoneId) : Prop :=
  ∃ n, (s.zone z).dwell = .rise n true ∨ (s.zone z).dwell = .fall n true

/-- The awaited age expiry of a reading is due. -/
def State.ageIsDue (s : State) (a : Addr) : Prop := ∃ x, (s.probe a).expiry = some x ∧ x ≤ s.uptime

/-- No expiry is due. -/
def State.noneDue (s : State) : Prop :=
  s.scan.due = false ∧ (∀ z, ¬ s.dwellIsDue z) ∧ ∀ a, ¬ s.ageIsDue a

/-! ### Numbers and margins of the Event List (R128, R134) -/

/-- The number that an opening takes in s: the first at or after the counter, wrapping from 65535 to 1, that no record
holds (R128). -/
def State.numberTaken (s : State) (n : Nat) : Prop :=
  ∃ k, n = (fun x => if x < 65535 then x + 1 else 1)^[k] s.events.nextNumber
    ∧ (∀ q e, s.recordAt q = some e → e.number ≠ n)
    ∧ ∀ j, j < k →
        ∃ q e, s.recordAt q = some e ∧ e.number = (fun x => if x < 65535 then x + 1 else 1)^[j] s.events.nextNumber

/-- The worst margin of a record that tracks, after a zone's M (R134). -/
def EventRecord.worstAfter (e : EventRecord) (m : Option Int) : Option Int :=
  match m, e.worst with
  | none, w => w
  | some m, none => some m
  | some m, some w => some (min w m)

/-! ### The end of an item (R10, R12, R14, R35, R36, R39, R47, R49) -/

/-- An order slot after a point of its order has settled (R35, R36, R39): the outcome recorded and one point fewer
outstanding, or with none outstanding REPORTING; a closing order counts down. -/
def OrderSlot.settled (o : OrderSlot) (point : Nat) (x : PointOutcome) : OrderSlot :=
  match o with
  | .free => .free
  | .reporting => .reporting
  | .closing n => if n ≤ 1 then .free else .closing (n - 1)
  | .held q =>
    if q.outstanding ≤ 1 then .reporting
    else .held { q with outcomes := q.outcomes.set point (some x), outstanding := q.outstanding - 1 }

/-- The points of the order in a slot that a list of items settles with one outcome, in the list's order. -/
def settledPoints (k : SlotId) (x : PointOutcome) (items : List Item) : List (Nat × PointOutcome) :=
  items.filterMap fun i =>
    match i.origin with
    | .survey j n => if j = k then some (n, x) else none
    | .scan => none

/-- What the ending of an item does outside its trunk's engine (R12, R14 step 2, R35, R36, R49): the item settles with
the outcome x, the items dropped at a halt as TRUNK_HALTED; `p` is the record that its address has after it, and
`applied` says whether the outcome was applied to a defined record. -/
structure State.itemEnds (s : State) (t : Trunk) (i : Item) (x : PointOutcome) (dropped : List Item) (p : ProbeRecord)
    (applied : Prop) (s' : State) : Prop where
  engines   : ∀ u, u ≠ t → s'.engine u = s.engine u
  map       : s'.map = s.map
  scan      : s'.scan = s.scan
  store     : s'.store = s.store
  uptime    : s'.uptime = s.uptime
  defaulted : s'.defaulted = s.defaulted
  power     : s'.power = s.power
  channels  : ∀ c, s'.channel c = s.channel c
  probe     : s'.probe ⟨t, i.drop⟩ = p
  probes    : ∀ a, a ≠ ⟨t, i.drop⟩ → s'.probe a = s.probe a
  /-- The points settle in their orders. -/
  slots     : ∀ k, s'.slot k =
    (settledPoints k x [i] ++ settledPoints k ⟨.trunkHalted, none⟩ dropped).foldl (fun o y => o.settled y.1 y.2)
      (s.slot k)
  /-- An order whose last outstanding point settles completes: its report, in point order, waits or goes out. -/
  report    : ∀ k q ys, ys = settledPoints k x [i] ++ settledPoints k ⟨.trunkHalted, none⟩ dropped →
    s.slot k = .held q → max 1 q.outstanding ≤ ys.length →
    ⟨.report k, 0x80, q.tag, SurveyOrder.report
      { q with outcomes := (ys.take (max 1 q.outstanding)).foldl (fun os y => os.set y.1 (some y.2)) q.outcomes }⟩
      ∈ s'.port.outgoing
  /-- The zone that the address looks up to is evaluated, on the new record. -/
  evaluated : applied → ∀ z, s.map.lookup ⟨t, i.drop⟩ = some z → (s.zone z).enabled = true →
    s'.zone z = ({ s with probes := s'.probes } : State).zoneEvaluated z .ordinary
  /-- No other zone is touched. -/
  zones     : ∀ z, (applied → s.map.lookup ⟨t, i.drop⟩ = some z → (s.zone z).enabled = false) → s'.zone z = s.zone z
  /-- An outcome that is not applied touches nothing that an evaluation may touch. -/
  unapplied : ¬ applied → s'.events = s.events ∧ s'.lines = s.lines ∧ s'.leak = s.leak

/-- An attempt on a trunk fails with the result `res` (R10, R13, R14, R47, R49), and `o` is what the command answers.
The consecutive-failure count counts attempts at defined addresses; where it does not halt the trunk the item is
retried while its attempt count is below retries; else the failure is final: the item ends, a defined probe's record
counts it, and a trunk that halts drops its waiting items. The count, retries and threshold are those in force for the
attempt. -/
def State.attemptFails (s : State) (t : Trunk) (i : Item) (res : AttemptResult)
    (o : Host.Outcome State Fault Refusal) : Prop :=
  ∀ (n : Nat) (halts : Bool),
    n = (if (s.probe ⟨t, i.drop⟩).config = none then (s.engine t).failures else (s.engine t).failures + 1) →
    (halts = true ↔ (s.probe ⟨t, i.drop⟩).config ≠ none ∧ (s.engine t).attempt.haltThreshold ≤ n) →
    (halts = false → i.attempts < (s.engine t).attempt.retries →
      o = .next (s.setEngine t
        { s.engine t with link := .gap, failures := n,
                          inFlight := some { i with attempts := i.attempts + 1, latest := some res } }))
    ∧ (halts = true ∨ (s.engine t).attempt.retries ≤ i.attempts →
        ∃ s' p, o = .next s'
          ∧ s.itemEnds t i ⟨res.outcome, some res⟩ (if halts then (s.engine t).waitList else []) p
              ((s.probe ⟨t, i.drop⟩).config ≠ none) s'
          ∧ s'.engine t =
              (if halts then
                { s.engine t with link := .gap, failures := n, inFlight := none, waitList := [], halted := true }
               else { s.engine t with link := .gap, failures := n, inFlight := none })
          ∧ (halts = true → s.port.mask.trunk = true →
              s'.port.line = some ⟨.notice (.trunk t), 0x93, 0, s'.trunkBody t⟩ ∨ .trunk t ∈ s'.port.urgent)
          ∧ ((s.probe ⟨t, i.drop⟩).config = none → p = s.probe ⟨t, i.drop⟩)
          ∧ ((s.probe ⟨t, i.drop⟩).config ≠ none →
              ∀ count state, count = min ((s.probe ⟨t, i.drop⟩).failures + 1) 15 →
              state = (if (s.probe ⟨t, i.drop⟩).state = .faulted then ProbeState.faulted
                else if count < (s.engine t).settings.faultThreshold then .suspect else .faulted) →
              p = { s.probe ⟨t, i.drop⟩ with
                      failures := count, last := some res.outcome, mismatch := none, state := state,
                      df := if state = .faulted then none else (s.probe ⟨t, i.drop⟩).df,
                      expiry := if state = .faulted then none else (s.probe ⟨t, i.drop⟩).expiry }
              ∧ (s.port.mask.probe = true →
                  ((s.probe ⟨t, i.drop⟩).state = .active ∧ state = .suspect)
                    ∨ ((s.probe ⟨t, i.drop⟩).state ≠ .faulted ∧ state = .faulted) →
                  s'.noticed (.probe ⟨t, i.drop⟩))))

/-! ### Invariants -/

/-- The notice queue holds each source at most once, and none of a masked class (R166, R168). -/
def State.noticesSound (s : State) : Prop :=
  (s.port.urgent ++ s.port.routine).Nodup ∧ ∀ src ∈ s.port.urgent ++ s.port.routine, s.port.mask.enables src = true

/-- An idle line has nothing to send, but while a Warm Restart reset is due (R164, R175). -/
def State.lineSound (s : State) : Prop :=
  s.port.line = none →
    s.port.resetDue = true ∨ (s.port.replies = [] ∧ s.port.urgent = [] ∧ s.port.routine = [])

/-- The transmit pair carries the bytes of the frame in line, and none while the line is idle (R159, R164). -/
def State.wireSound (s : State) : Prop := s.port.wire = lineBytes s.port.line

/-- While Keep Settings executes, the stored check is not that of the image in store (R172, assumption 12). -/
def State.storeSound (s : State) : Prop :=
  ∀ tag, s.port.executing = some (.keepSettings tag) → s.store.check ≠ s.store.contents.check

/-- The order slot whose report a frame is. -/
def OutFrame.reportOf (f : OutFrame) : Option SlotId :=
  match f.role with
  | .report k => some k
  | .reply => none
  | .restartReply => none
  | .portFull => none
  | .notice _ => none

/-- At most four request slots are held and at most eight PORT_FULL replies wait (R161); a request waits only while
another executes (R162); the slots in REPORTING are those with a report that waits or is being sent, each with one (R32,
R36). -/
def State.slotsSound (s : State) : Prop :=
  s.port.slotsHeld ≤ 4 ∧ s.port.portFullWaiting ≤ 8 ∧ (s.port.executing = none → s.port.waiting = [])
    ∧ (s.port.outgoing.filterMap OutFrame.reportOf).Nodup
    ∧ ∀ k, s.slot k = .reporting ↔ k ∈ s.port.outgoing.filterMap OutFrame.reportOf

/-- The settings of a trunk stand in their ranges (section 1.7, R17). -/
def TrunkSettings.inRange (t : TrunkSettings) : Prop :=
  t.retries ≤ 3 ∧ 4 ≤ t.haltThreshold ∧ t.haltThreshold ≤ 32 ∧ 1 ≤ t.faultThreshold ∧ t.faultThreshold ≤ 15

/-- One Trunk Engine: at most one SCAN item for a drop waits (R9); a HALTED trunk has an empty list and nothing in
flight (R14); an engine that is free has nothing waiting unless HALTED (R8); an item is in flight exactly while it is
queried, or in the gap before a retry (R7); the count stays in 0..32 (R13), and the two counts of each item in 0..3 and
0..4 (R7). -/
structure Engine.sound (e : Engine) : Prop where
  oneScan   : (scanDrops e.waitList).Nodup
  halted    : e.halted = true → e.waitList = [] ∧ e.inFlight = none
  free      : e.link = .ready → e.inFlight = none ∧ (e.halted = false → e.waitList = [])
  query     : ∀ q, e.link = .sending q → ∃ i, e.inFlight = some i ∧ q = probeQueryBytes i.drop
  listening : e.link = .listening → e.inFlight.isSome = true
  stranded  : (e.link = .strandedListening ∨ ∃ q, e.link = .strandedSending q) → e.inFlight = none
  settings  : e.settings.inRange
  attempt   : e.attempt.inRange
  failures  : e.failures ≤ 32
  counting  : e.halted = false → e.failures < 32
  items     : ∀ i ∈ e.inFlight.toList ++ e.waitList, i.attempts ≤ 3 ∧ i.notReady ≤ 4

/-- Both trunks, and the settings that the stored image would give them (R14, R17). -/
def State.trunksSound (s : State) : Prop :=
  (∀ t, (s.engine t).sound) ∧ ∀ t, (s.store.contents.trunks.get t).inRange

/-- The point indices of the items of a slot's order that are in flight or wait on either trunk (R7). -/
def State.pointsOnTrunks (s : State) (k : SlotId) : List Nat :=
  ((List.finRange 2).flatMap fun t => (s.engine t).inFlight.toList ++ (s.engine t).waitList).filterMap fun i =>
    match i.origin with
    | .survey j n => if j = k then some n else none
    | .scan => none

/-- An order slot, with the point indices of its items on the trunks (R32, R34, R35, R38, R39): a held order has 1..24
points, an outcome slot for each, as many outstanding as are unsettled, and one item for each of those; a CLOSING slot
counts its items; a slot in any other state has none. -/
def OrderSlot.sound (o : OrderSlot) (onTrunks : List Nat) : Prop :=
  match o with
  | .free => onTrunks = []
  | .reporting => onTrunks = []
  | .closing n => 1 ≤ n ∧ n ≤ 2 ∧ onTrunks.length = n
  | .held q =>
    1 ≤ q.points.length ∧ q.points.length ≤ 24 ∧ q.outcomes.length = q.points.length
      ∧ 1 ≤ q.outstanding ∧ q.outstanding = (q.outcomes.filter (·.isNone)).length
      ∧ onTrunks.Nodup ∧ ∀ n, n ∈ onTrunks ↔ q.outcomes[n]? = some none

/-- The survey orders (R32, R34): every slot, distinct tags, and each item at the address of its point. -/
def State.ordersSound (s : State) : Prop :=
  (∀ k, (s.slot k).sound (s.pointsOnTrunks k))
    ∧ (∀ j k p q, s.slot j = .held p → s.slot k = .held q → p.tag = q.tag → j = k)
    ∧ ∀ t i k n q, i ∈ (s.engine t).inFlight.toList ++ (s.engine t).waitList → i.origin = .survey k n →
        s.slot k = .held q → q.points[n]? = some ⟨t, i.drop⟩

/-- The Scan Timer (R22): SINGLE is not held, a countdown runs exactly in CONTINUOUS and a next period is held only
there, every number in its range; an expiry is due only in the countdown's last second (assumption 19). -/
structure ScanTimer.sound (t : ScanTimer) : Prop where
  mode      : t.mode ≠ .single
  active    : 5 ≤ t.active ∧ t.active ≤ 3600
  next      : ∀ n, t.next = some n → t.mode = .continuous ∧ 5 ≤ n ∧ n ≤ 3600
  running   : t.countdown.isSome = true ↔ t.mode = .continuous
  countdown : ∀ n, t.countdown = some n → 1 ≤ n ∧ n ≤ 3600
  maxAge    : 30 ≤ t.maxAge ∧ t.maxAge ≤ 7200
  due       : t.due = true → t.countdown = some 1

/-- The Scan Timer, and what the stored image would give it (R22, R30, R172). -/
def State.scanSound (s : State) : Prop :=
  s.scan.sound ∧ s.store.contents.scanMode ≠ .single
    ∧ (5 ≤ s.store.contents.period ∧ s.store.contents.period ≤ 3600)
    ∧ (30 ≤ s.store.contents.maxAge ∧ s.store.contents.maxAge ≤ 7200)

/-- A probe record (R41, R45, R78, R81): UNDEFINED with every field absent exactly while it is not defined; count, Td
and Df in range; an RH' and a Td exactly for an AIR reading; a Df only for AIR. -/
def ProbeRecord.sound (p : ProbeRecord) : Prop :=
  match p.config with
  | none => p = ProbeRecord.undefined
  | some c =>
    p.state ≠ .undefined ∧ p.failures ≤ 15
      ∧ (∀ r, p.reading = some r → -4000 ≤ r.temp ∧ r.temp ≤ 8500)
      ∧ (∀ r, p.reading = some r → (r.rh.isSome = true ↔ c.kind = .air))
      ∧ (∀ r x, p.reading = some r → r.rh = some x → x ≤ 10000)
      ∧ (p.dew.isSome = true ↔ (p.reading.isSome = true ∧ c.kind = .air))
      ∧ (∀ w, p.dew = some w → -2000 ≤ w.td ∧ w.td ≤ 5000)
      ∧ (∀ d, p.df = some d → -2000 ≤ d ∧ d ≤ 5000 ∧ c.kind = .air)
      ∧ (p.mismatch.isSome = true → p.last = some .kindMismatch)

/-- Every probe record (R41). -/
def State.probesSound (s : State) : Prop := ∀ a, (s.probe a).sound

/-- The ages of the readings of the running part (R50, R51): no reading is of a later second; an awaited expiry belongs
to a reading, comes at the second R51 gives it, and has not passed by more than its own second, in which the max reading
age may have changed (R52); a valid reading awaits its expiry, and Df is held only while one is awaited (assumption
18). -/
def State.agesSound (s : State) : Prop :=
  s.power = .running → ∀ a,
    (∀ r, (s.probe a).reading = some r → r.taken ≤ s.uptime)
    ∧ (∀ x, (s.probe a).expiry = some x → s.uptime ≤ x ∧ (s.probe a).config ≠ none ∧ (s.probe a).state ≠ .faulted
        ∧ ∃ r, (s.probe a).reading = some r ∧ (x = s.uptime ∨ x = r.taken + s.scan.maxAge + 1))
    ∧ (∀ r, s.valid a = true → (s.probe a).reading = some r →
        (s.probe a).expiry = some (r.taken + s.scan.maxAge + 1))
    ∧ ((s.probe a).df ≠ none → (s.probe a).expiry ≠ none)

/-- Two spans do not stand on the same address (R57). -/
def Span.disjoint (p q : Span) : Prop := ¬ (p.meets q.trunk q.base q.size = true)

/-- A map (R57, R58): at most 32 single entries, at most eight spans, each aligned, in order and not intersecting. -/
def ZoneMap.sound (m : ZoneMap) : Prop :=
  m.singlesHeld ≤ 32 ∧ m.spans.length ≤ 8 ∧ (∀ p ∈ m.spans, alignedSpan p.base p.size = true ∧ p.base < 32)
    ∧ m.spans.Pairwise (fun p q => p.before q = true ∧ p.disjoint q)

/-- The map in force and the map in store (R57, R70). -/
def State.mapSound (s : State) : Prop := s.map.sound ∧ s.store.contents.map.sound

/-- A zone record (R88): OFF exactly while not enabled, with every value absent; a dwell only in CLEAR, WATCH or ALARM,
which always have a margin. -/
structure ZoneRecord.sound (r : ZoneRecord) : Prop where
  off    : r.grade = .off ↔ r.enabled = false
  blank  : r.enabled = false → r.d = none ∧ r.s = none ∧ r.m = none ∧ r.air = 0 ∧ r.surfaces = 0
  dwell  : r.dwell ≠ .none → r.grade = .clear ∨ r.grade = .watch ∨ r.grade = .alarm
  graded : r.grade = .clear ∨ r.grade = .watch ∨ r.grade = .alarm → r.m.isSome = true
  margin : r.m = margin (r.s.map (·.value)) r.d

/-- Every zone record (R88). -/
def State.zonesSound (s : State) : Prop := ∀ z, (s.zone z).sound

/-- The settings of a zone stand in their ranges, A below W (R87, R89). -/
structure ZoneConfig.inRange (c : ZoneConfig) : Prop where
  w         : 0 ≤ c.w ∧ c.w ≤ 2000
  a         : -500 ≤ c.a ∧ c.a ≤ 1500 ∧ c.a < c.w
  h         : 10 ≤ c.h ∧ c.h ≤ 500
  riseDwell : c.riseDwell ≤ 900
  fallDwell : c.fallDwell ≤ 3600
  weight    : c.weight ≤ 4
  design    : ∀ x, c.design = some x → -1000 ≤ x ∧ x ≤ 3000
  depth     : c.depth ≤ 8

/-- The remaining seconds of a dwell stand in their range; its expiry is due only in the last of them (R88, R101,
assumption 19). -/
def Dwell.inRange (d : Dwell) : Prop :=
  match d with
  | .none => True
  | .rise n due => 1 ≤ n ∧ n ≤ 900 ∧ (due = true → n = 1)
  | .fall n due => 1 ≤ n ∧ n ≤ 3600 ∧ (due = true → n = 1)

/-- A zone record's settings and values stand in their ranges (R84, R87, R88). -/
structure ZoneRecord.inRange (r : ZoneRecord) : Prop where
  cfg    : r.cfg.inRange
  d      : ∀ x, r.d = some x → -2000 ≤ x ∧ x ≤ 5000
  s      : ∀ x, r.s = some x → -4000 ≤ x.value ∧ x.value ≤ 8500
  m      : ∀ x, r.m = some x → -9000 ≤ x ∧ x ≤ 10500
  dwell  : r.dwell.inRange
  counts : r.air ≤ 64 ∧ r.surfaces ≤ 64

/-- Every zone record, and what the stored image would give it (R87, R88). -/
def State.zonesInRange (s : State) : Prop :=
  (∀ z, (s.zone z).inRange) ∧ ∀ z, (s.store.contents.zones.get z).2.inRange

/-- A leak channel (R110). -/
structure Channel.sound (c : Channel) : Prop where
  off         : c.state = .off ↔ c.enabled = false
  noBaseline  : c.state = .off ∨ c.state = .calibrating → c.baseline = none
  baseline    : c.state = .dry ∨ c.state = .wet → c.baseline.isSome = true
  streak      : c.streak ≤ 1 ∧ (c.streak ≠ 0 → c.state = .dry ∨ c.state = .wet)
  calibration : c.calCount ≤ 3 ∧ (c.calCount ≠ 0 ∨ c.calSum ≠ 0 → c.state = .calibrating)

/-- The ranges of a channel's two settings and its baseline (R110, R120): Hy is never above Dw. -/
def leakSettingsInRange (dw hy : Nat) (baseline : Option Nat) : Prop :=
  16 ≤ dw ∧ dw ≤ 1024 ∧ 8 ≤ hy ∧ hy ≤ 128 ∧ hy ≤ dw ∧ ∀ b, baseline = some b → b ≤ 4095

/-- The ranges of a leak channel (R110); a calibration sum is of as many counts of at most 4094 as have been taken. -/
structure Channel.inRange (c : Channel) : Prop where
  settings : leakSettingsInRange c.dw c.hy c.baseline
  sum      : c.calSum ≤ 4094 * c.calCount
  last     : ∀ n, c.last = some n → n ≤ 4095

/-- The Leak Sense Unit (R110, R113): every channel, sound and in range, with what the stored image would give it; and
the two counts count what they are said to. -/
def State.leakSound (s : State) : Prop :=
  (∀ c, (s.channel c).sound ∧ (s.channel c).inRange)
    ∧ (∀ c, leakSettingsInRange (s.store.contents.channels.get c).2.1 (s.store.contents.channels.get c).2.2.1
        (s.store.contents.channels.get c).2.2.2)
    ∧ s.leak.wetChannels = ((List.finRange 8).filter fun c => (s.channel c).state == .wet).length
    ∧ s.leak.activeZones = ((List.finRange 24).filter fun z => (s.zone z).grade.isActive).length

/-- An event record's own fields (R126): cleared-at and clear cause exactly in CLEARED, at most 255 re-escalations, a
number in 1..65535. -/
structure EventRecord.sound (e : EventRecord) : Prop where
  cleared   : e.clearedAt.isSome = true ↔ e.state = .cleared
  cause     : e.cause.isSome = true ↔ e.state = .cleared
  escalated : e.reEscalations ≤ 255
  number    : 1 ≤ e.number ∧ e.number ≤ 65535

/-- The Event List (R126 to R128, R133): sound records, one for a zone, distinct numbers; the order of opening lists the
places that hold one, each once; a pending flag only while all sixteen places are held, for a zone without a record. -/
structure State.eventsSound (s : State) : Prop where
  records : ∀ p e, s.recordAt p = some e → e.sound
  zones   : ∀ p q e f, s.recordAt p = some e → s.recordAt q = some f → e.zone = f.zone → p = q
  numbers : ∀ p q e f, s.recordAt p = some e → s.recordAt q = some f → e.number = f.number → p = q
  order   : s.events.order.Nodup ∧ ∀ p, p ∈ s.events.order ↔ (s.recordAt p).isSome = true
  counter : 1 ≤ s.events.nextNumber ∧ s.events.nextNumber ≤ 65535
  flags   : ∀ z, (s.pendingKind z).isSome = true → s.recordsHeld = 16 ∧ s.findZone z = none

/-- Every zone graded ALARM or WET has a record in OPEN or ACKED, or its pending flag (R129). -/
def State.alarmsRecorded (s : State) : Prop :=
  ∀ z, (s.zone z).grade = .alarm ∨ (s.zone z).grade = .wet →
    (∃ p e, s.findZone z = some (p, e) ∧ e.state ≠ .cleared) ∨ (s.pendingKind z).isSome = true

/-- A line record while the part is running or not (R145, R146): duties in 0..255 and only in PROPORTIONAL, a latch only
in LATCH, UNDRIVEN exactly until the load. -/
structure LineRecord.sound (running : Bool) (l : LineRecord) : Prop where
  duties   : l.computed ≤ 255 ∧ l.applied ≤ 255
  working  : l.cfg.mode ≠ .proportional → l.computed = 0 ∧ l.applied = 0
  latch    : l.cfg.mode ≠ .latch → l.latched = false
  latchOn  : l.cfg.mode = .latch → (l.drive = .active ↔ l.latched = true)
  undriven : l.drive = .undriven ↔ running = false

/-- Every line record (R145, R146). -/
def State.linesSound (s : State) : Prop := ∀ l, (s.outLine l).sound (s.power == .running)

end Sys2Proof.Machine
end

