-- ==== Sys2Proof/Certificates/Slice0/Obligations.lean ====
section
/-! DEFINITION. The statements for the provers. Each docstring names the rules of spec/ that the statement formalises;
OBLIGATIONS.json lists them. Where a statement says `s.begins r s0`, s0 is the state in which the request r is
executed (that a request row may stand for arrival and execution in one is the model's choice, assumption 5);
`s0.answered f` is s0 with the reply f completed, which goes out at once where the line is idle (assumption 6). -/

open Sys2Proof Sys2Proof.Machine

/-! ### The machine -/

/-- A step takes the command at the front of the queue and executes it with the queue's rest (the row's cut, assumption
1). -/
def Obligations.StepRunsFrontCommand : Prop :=
  ∀ (c : Instr) (rest : List Instr) (s : State),
    s.pending = c :: rest → step s = exec c { s with pending := rest }

/-- No command stops the part, and none touches the queue: every command in every state answers a next state with the
queue as it was (the spec names no fault; assumptions 1 and 4). -/
def Obligations.EveryCommandAnswersNext : Prop :=
  ∀ (c : Instr) (s : State), ∃ t, exec c s = .next t ∧ t.pending = s.pending

/-- What the spec gives for power just applied (R20, R40, R143, R157, R174): uptime 0, the Message Port at rest, no item
on a trunk, every order slot FREE, the Event List empty with its counter at 1, every line UNDRIVEN and released. That
reset is this moment, before the load, is the model's choice (assumption 2). -/
def Obligations.ResetIsPowerApplied : Prop :=
  State.reset.uptime = 0
    ∧ State.reset.port.waiting = [] ∧ State.reset.port.replies = [] ∧ State.reset.port.line = none
    ∧ State.reset.port.wire = []
    ∧ State.reset.port.urgent = [] ∧ State.reset.port.routine = [] ∧ State.reset.port.slotsHeld = 0
    ∧ (∀ t, (State.reset.engine t).state = .idle ∧ (State.reset.engine t).waitList = []
        ∧ (State.reset.engine t).inFlight = none ∧ (State.reset.engine t).failures = 0)
    ∧ (∀ k, State.reset.slot k = .free)
    ∧ (∀ p, State.reset.place p = ⟨none, none⟩) ∧ (∀ z, State.reset.pendingKind z = none)
    ∧ State.reset.events.nextNumber = 1
    ∧ ∀ l, (State.reset.outLine l).drive = .undriven ∧ (State.reset.outLine l).high = true

/-! ### Power and settings (R171 to R175) -/

/-- A state of the part that has power but no settings yet, or no power (R172, R174): nothing but the store and the
queue is left of what it held. Where a write was under way, one that had ended leaves the check over its contents; one
cut short leaves the check that stood there, which while Keep Settings executes is not that of the contents
(`storeSound`, which StepKeepsPort keeps), so that the image is not valid and the load takes the defaults. What the
configuration fields hold then, and that a write under way may have ended, are the model's choices (assumptions 3, 11,
12). -/
def Obligations.PowerOnAndPowerLoss : Prop :=
  (∀ s : State, exec .powerOn s = .next (State.unloaded .loading s.store s.pending))
    ∧ (∀ s : State, ∀ ended : Bool, ∃ t, exec (.powerLoss ended) s = .next t
        ∧ t = State.unloaded .off t.store s.pending
        ∧ t.store.contents = s.store.contents ∧ t.store.markedInvalid = s.store.markedInvalid
        ∧ ((∀ tag, s.port.executing ≠ some (.keepSettings tag)) → t.store = s.store)
        ∧ (∀ tag, s.port.executing = some (.keepSettings tag) →
            t.store.check = (if ended then s.store.contents.check else s.store.check))
        ∧ (∀ tag, s.storeSound → s.port.executing = some (.keepSettings tag) → ended = false →
            t.store.check ≠ t.store.contents.check ∧ t.store.valid = false ∧ t.store.toLoad = Image.default)
        ∧ (∀ tag, s.port.executing = some (.keepSettings tag) → ended = true → s.store.markedInvalid = false →
            t.store.valid = true ∧ t.store.toLoad = s.store.contents))

/-- The settings load (R20, R30, R40, R56, R70, R108, R124, R143, R157, R173, R174): a valid image, else the defaults,
in every block; in CONTINUOUS a period start, whose first items are already taken. The rate SLOW that the first round
applies is R124's; the uptime goes on counting from power-on. The check is the CRC-16 over the contents in the layout
that the model gives them (assumption 13). -/
def Obligations.SettingsLoadStartsEveryBlock : Prop :=
  ∀ (s : State) (i : Image), s.power = .loading →
    i = (if s.store.check = s.store.contents.check ∧ s.store.markedInvalid = false then s.store.contents
         else Image.default) →
    ∃ t, exec .settingsLoad s = .next t
      ∧ t.power = .running ∧ t.uptime = s.uptime ∧ t.store = s.store
      ∧ (t.defaulted = true ↔ ¬ (s.store.check = s.store.contents.check ∧ s.store.markedInvalid = false))
      ∧ (∀ a, t.probe a = (match i.probes.get a.idx with
          | some c => { ProbeRecord.undefined with config := some c, state := .active }
          | none => ProbeRecord.undefined))
      ∧ t.map = i.map
      ∧ (∀ z, t.zone z =
          { enabled := (i.zones.get z).1, cfg := (i.zones.get z).2,
            grade := if (i.zones.get z).1 then .stale else .off, d := none, s := none, m := none, dwell := .none,
            air := 0, surfaces := 0 })
      ∧ (∀ l, t.outLine l =
          { cfg := i.lines.get l, latched := false, computed := 0, applied := 0, drive := .inactive })
      ∧ (∀ c, t.channel c =
          { enabled := (i.channels.get c).1, dw := (i.channels.get c).2.1, hy := (i.channels.get c).2.2.1,
            baseline := if (i.channels.get c).1 then (i.channels.get c).2.2.2 else none,
            state := if (i.channels.get c).1 then (if (i.channels.get c).2.2.2.isSome then .dry else .calibrating)
                     else .off,
            streak := 0, calSum := 0, calCount := 0, last := none })
      ∧ t.leak.applied = .slow ∧ t.leak.countdown = 4000 ∧ t.leak.activeZones = 0 ∧ t.leak.wetChannels = 0
      ∧ t.leak.position = (List.finRange 8).find? (fun c => (t.channel c).enabled)
      ∧ t.port = Port.start i.mask ∧ (∀ k, t.slot k = .free) ∧ t.events = EventList.empty 1
      ∧ t.scan.active = i.period ∧ t.scan.next = none ∧ t.scan.maxAge = i.maxAge ∧ t.scan.mode = i.scanMode
      ∧ t.scan.countdown = (if i.scanMode = .continuous then some i.period else none) ∧ t.scan.due = false
      ∧ (∀ tr, t.engine tr =
          (if i.scanMode = .continuous then (Engine.start (i.trunks.get tr)).cycled (t.definedDrops tr)
           else Engine.start (i.trunks.get tr)))

/-- Keep Settings (R30, R124, R171, R172): at its start the configuration is taken as it stands, with a held next
period in the place of the active one; at its end the reply tells whether the image read back agrees, and the requests
that waited are executed (R162). The model's choices: while the write runs, the new image stands in the store with the
complement of its check, and KEEP_SETTINGS_DONE is told what the read-back shows (assumption 12); the check is taken
over the model's layout of the image (assumption 13). -/
def Obligations.KeepSettingsTakesAndJudges : Prop :=
  (∀ (s s0 : State) (tag : Byte), s.begins ⟨0x03, tag, []⟩ s0 → s.lineSound →
    ∃ i : Image, exec (.keepSettings tag []) s =
        .next { s0 with store := ⟨i, ~~~ i.check, false⟩
                        port := { s0.port with executing := some (.keepSettings tag) } }
      ∧ (∀ a, i.probes.get a.idx = (s0.probe a).config) ∧ i.map = s0.map
      ∧ (∀ z, i.zones.get z = ((s0.zone z).enabled, (s0.zone z).cfg))
      ∧ (∀ c, i.channels.get c =
          ((s0.channel c).enabled, (s0.channel c).dw, (s0.channel c).hy, (s0.channel c).baseline))
      ∧ (∀ l, i.lines.get l = (s0.outLine l).cfg) ∧ (∀ t, i.trunks.get t = (s0.engine t).settings)
      ∧ i.scanMode = (if s0.scan.mode = .continuous then .continuous else .stopped)
      ∧ i.period = s0.scan.next.getD s0.scan.active ∧ i.maxAge = s0.scan.maxAge ∧ i.mask = s0.port.mask)
  ∧ (∀ (s : State) (tag : Byte) (agrees : Bool), s.power = .running → s.port.executing = some (.keepSettings tag) →
      ∃ t : State, exec (.keepSettingsDone agrees) s = .next t.serveWaiting
        ∧ t = ({ s with
                  defaulted := if agrees then false else s.defaulted
                  store := if agrees then { s.store with check := s.store.contents.check }
                           else { s.store with markedInvalid := true }
                  port := { s.port with executing := none } } : State).answered
                (replyTo 0x03 tag (if agrees then .ok else .storeFailed) [])
        ∧ (s.port.waiting = [] → t.serveWaiting = t)
        ∧ (∀ r rest, s.port.waiting = r :: rest → r.kind ∉ requestKinds →
            t.serveWaiting = ((t.setPort { t.port with waiting := rest }).answered
              { role := .reply, kind := 0x7F, tag := r.tag, payload := [0x10] }).serveWaiting)
        ∧ (∀ row ∈ requestRows, ∀ tag' payload rest u, s.port.waiting = ⟨row.2.1, tag', payload⟩ :: rest →
            row.2.2 payload = true → exec (row.1 tag' payload) t = .next u → t.serveWaiting = u.serveWaiting))

/-- Settings survive a loss of power (R30, R70, R124, R171 to R173): what Keep Settings has stored is, after any loss of
power and power-on, the configuration that the load gives back. An OFF channel has no baseline (R110); a request that
waits is executed when Keep Settings has ended (R162), and another Keep Settings among them would write anew. -/
def Obligations.SettingsSurvivePowerCycle : Prop :=
  ∀ (s s0 : State) (tag : Byte), s.begins ⟨0x03, tag, []⟩ s0 → s.lineSound →
    (∀ c, (s.channel c).enabled = false → (s.channel c).baseline = none) → s0.port.waiting = [] →
    ∃ t1 t2 t3 t4 t5, exec (.keepSettings tag []) s = .next t1 ∧ exec (.keepSettingsDone true) t1 = .next t2
      ∧ exec (.powerLoss false) t2 = .next t3 ∧ exec .powerOn t3 = .next t4 ∧ exec .settingsLoad t4 = .next t5
      ∧ t5.defaulted = false ∧ t5.image = s0.image

/-- Warm Restart (R21, R31, R40, R56, R71, R109, R125, R144, R158, R175): its execution completes its reply and goes on
until that has been sent; then the reset, to the state t, in which the requests that waited are executed. The arbiter
waits for the reset (assumption 7), and the query of an abandoned item is sent to its end (assumption 17). -/
def Obligations.WarmRestartRepliesThenResets : Prop :=
  (∀ (s s0 : State) (tag : Byte), s.begins ⟨0x04, tag, []⟩ s0 →
    exec (.warmRestart tag []) s =
      .next ((s0.setPort { s0.port with executing := some (.warmRestart false) }).answered
        { role := .restartReply, kind := 0x44, tag := tag, payload := [0x00] }))
  ∧ ∀ s : State, s.power = .running → s.port.executing = some (.warmRestart true) → s.port.line = none →
    ∃ t : State, exec .warmRestartReset s = .next t.serveWaiting ∧ (s.port.waiting = [] → t.serveWaiting = t)
      ∧ t.power = .running ∧ t.uptime = s.uptime ∧ t.defaulted = s.defaulted ∧ t.store = s.store ∧ t.map = s.map
      ∧ (∀ a, t.probe a = (match (s.probe a).config with
          | some c => { ProbeRecord.undefined with config := some c, state := .active }
          | none => ProbeRecord.undefined))
      ∧ (∀ z, t.zone z =
          { s.zone z with grade := if (s.zone z).enabled then .stale else .off, d := none, s := none, m := none,
                          dwell := .none, air := 0, surfaces := 0 })
      ∧ (∀ c, t.channel c = { s.channel c with streak := 0 })
      ∧ t.leak = { s.leak with channels := t.leak.channels, activeZones := 0 }
      ∧ (∀ p, t.place p = ⟨none, none⟩) ∧ t.events.order = [] ∧ (∀ z, t.pendingKind z = none)
      ∧ t.events.nextNumber = s.events.nextNumber
      ∧ (∀ l, t.outLine l =
          { cfg := (s.outLine l).cfg, latched := false, computed := 0, applied := 0, drive := .inactive })
      ∧ (∀ k, t.slot k = (if s.slot k = .reporting then .reporting else .free))
      ∧ t.port.executing = none ∧ t.port.urgent = [] ∧ t.port.routine = [] ∧ t.port.waiting = s.port.waiting
      ∧ t.port.mask = s.port.mask ∧ t.port.rx = s.port.rx ∧ t.port.outgoing = s.port.outgoing
      ∧ t.port.line = s.port.replies.head?
      ∧ t.port.wire = (if s.port.replies = [] then s.port.wire else lineBytes s.port.replies.head?)
      ∧ t.scan.mode = s.scan.mode ∧ t.scan.maxAge = s.scan.maxAge
      ∧ (s.scan.mode ≠ .continuous → t.scan = s.scan)
      ∧ (s.scan.mode = .continuous → t.scan.active = s.scan.next.getD s.scan.active ∧ t.scan.next = none
          ∧ t.scan.countdown = some (s.scan.next.getD s.scan.active) ∧ t.scan.due = false)
      ∧ ∀ tr, ∃ e : Engine,
          e = { Engine.start (s.engine tr).settings with
                link := (match (s.engine tr).link with
                  | .sending q => .strandedSending q
                  | .listening => .strandedListening
                  | .ready => .ready
                  | .gap => .gap
                  | .strandedSending q => .strandedSending q
                  | .strandedListening => .strandedListening) }
          ∧ t.engine tr = (if s.scan.mode = .continuous then e.cycled (s.definedDrops tr) else e)

/-! ### The message line (R159 to R168) -/

/-- The arrival of bytes (R160, R161, R162, R174), after whatever bytes the receiver keeps of a candidate. Before the
load they are discarded. Where they complete no frame, the receiver keeps the candidate that is left and nothing else
happens. Where they complete one: with a slot free and nothing executing the request is executed at its arrival, as its
row says; while another executes it takes the slot and waits; with all four slots held it is answered PORT_FULL, which
goes out unless a Warm Restart reset is due (assumption 7); with eight such replies waiting it is discarded. Where they
complete several, these arrive in order, each as its row. And a request row, of which every request has one, is that
arrival (assumption 5): it does what its frame does at a hunting receiver. That the PORT_FULL reply being sent is not
among those eight is read from R161 (assumption 10). -/
def Obligations.FrameArrivalTakesASlot : Prop :=
  (∀ (s : State) (bytes : List Byte), s.power ≠ .running → exec (.frameArrival bytes) s = .next s)
  ∧ (∀ (s s1 : State) (bytes : List Byte), s.power = .running →
      s1 = s.setPort { s.port with rx := (receiveBytes s.port.rx bytes).2 } →
      ((receiveBytes s.port.rx bytes).1 = [] → exec (.frameArrival bytes) s = .next s1)
      ∧ (∀ r : Request, (receiveBytes s.port.rx bytes).1 = [r] → s.lineSound →
          (s.port.slotsHeld < 4 → s.port.executing ≠ none →
            exec (.frameArrival bytes) s = .next (s1.setPort { s1.port with waiting := s1.port.waiting ++ [r] }))
          ∧ (s.port.slotsHeld < 4 → s.port.executing = none → s.port.waiting = [] →
              ∀ c, r.isRow c → exec (.frameArrival bytes) s = exec c s1)
          ∧ (4 ≤ s.port.slotsHeld → (s.port.executing = none → s.port.waiting = []) → ∀ f : OutFrame,
              f = { role := .portFull, kind := if requestKinds.contains r.kind then r.kind + 0x40 else 0x7F,
                    tag := r.tag, payload := [0x20] } →
              (s.port.portFullWaiting < 8 → s.port.resetDue = false →
                exec (.frameArrival bytes) s = .next (s1.answered f))
              ∧ (s.port.portFullWaiting < 8 → s.port.resetDue = true →
                  exec (.frameArrival bytes) s = .next (s1.setPort { s1.port with replies := s1.port.replies ++ [f] }))
              ∧ (8 ≤ s.port.portFullWaiting → exec (.frameArrival bytes) s = .next s1)))
      ∧ (s.lineSound → (s.port.executing = none → s.port.waiting = []) →
          ∃ t, exec (.frameArrival bytes) s = .next t ∧ s1.runsRows (receiveBytes s.port.rx bytes).1 t))
  ∧ (∀ r : Request, ∃ c, r.isRow c)
  ∧ ∀ (s : State) (r : Request) (c : Instr), s.power = .running → s.port.rx = [] → s.lineSound →
      (s.port.executing = none → s.port.waiting = []) → r.payload.length ≤ 238 → r.isRow c →
      exec c s = exec (.frameArrival (frameBytes r.kind r.tag r.payload)) s

/-- The receiver does not look at how its bytes are grouped (R160): bytes that come in two deliveries give the frames,
and leave the candidate, that they would give in one. -/
def Obligations.ReceiverIgnoresGrouping : Prop :=
  ∀ rx a b : List Byte,
    (receiveBytes rx (a ++ b)).1 = (receiveBytes rx a).1 ++ (receiveBytes (receiveBytes rx a).2 b).1
      ∧ (receiveBytes rx (a ++ b)).2 = (receiveBytes (receiveBytes rx a).2 b).2

/-- A hunting receiver finds the frame behind bytes that are no SYNC, reads back exactly its kind, tag and payload,
and goes on with the byte after its check: no bit of a frame is dropped. A candidate whose LEN lies outside 2..240, or
whose check is not the CRC-16 of LEN and the body, is dropped, and the hunt resumes at the byte after its SYNC; one
that is not complete is kept (R159, R160, R179). -/
def Obligations.ReceiverReadsFrameBack : Prop :=
  (∀ (kind tag : Byte) (payload noise rest : List Byte), payload.length ≤ 238 → (∀ b ∈ noise, b ≠ 0xA5) →
    receiveBytes [] (noise ++ frameBytes kind tag payload ++ rest) =
      (⟨kind, tag, payload⟩ :: (receiveBytes [] rest).1, (receiveBytes [] rest).2))
  ∧ (∀ (len : Byte) (rest : List Byte), len.toNat < 2 ∨ 240 < len.toNat →
      receiveBytes [] (0xA5 :: len :: rest) = receiveBytes [] (len :: rest))
  ∧ (∀ (len high low : Byte) (body rest : List Byte), 2 ≤ len.toNat → len.toNat ≤ 240 → body.length = len.toNat →
      high ++ low ≠ crc16 (len :: body) →
      receiveBytes [] (0xA5 :: len :: body ++ [high, low] ++ rest) =
        receiveBytes [] (len :: body ++ [high, low] ++ rest))
  ∧ receiveBytes [] [0xA5] = ([], [0xA5])
  ∧ (∀ (len : Byte) (rest : List Byte), 2 ≤ len.toNat → len.toNat ≤ 240 → rest.length < len.toNat + 2 →
      receiveBytes [] (0xA5 :: len :: rest) = ([], 0xA5 :: len :: rest))

/-- The end of a frame and the arbiter's next choice, whose bytes go out (R36, R159, R161, R164, R165, R175;
assumptions 6 and 7), and the receiver's gap (R160). -/
def Obligations.FrameSentFreesAndChooses : Prop :=
  (∀ (s : State) (f : OutFrame), s.power = .running → s.port.line = some f → s.port.resetDue = false →
    ∃ t, exec .frameSent s = .next t
      ∧ (∀ k, t.slot k = (if f.role = .report k ∧ s.slot k = .reporting then .free else s.slot k))
      ∧ t.port.rx = s.port.rx ∧ t.port.waiting = s.port.waiting ∧ t.port.mask = s.port.mask
      ∧ t.port.wire = lineBytes t.port.line
      ∧ t = { s with port := t.port, slots := t.slots }
      ∧ (f.role = .restartReply → s.port.executing = some (.warmRestart false) →
          t.port.executing = some (.warmRestart true) ∧ t.port.line = none ∧ t.port.replies = s.port.replies
            ∧ t.port.urgent = s.port.urgent ∧ t.port.routine = s.port.routine)
      ∧ (f.role ≠ .restartReply → t.port.executing = s.port.executing
          ∧ (∀ r rest, s.port.replies = r :: rest →
              t.port.line = some r ∧ t.port.replies = rest ∧ t.port.urgent = s.port.urgent
                ∧ t.port.routine = s.port.routine)
          ∧ (s.port.replies = [] → ∀ src rest, s.port.urgent = src :: rest →
              t.port.line = some ⟨.notice src, src.kind, 0, s.noticeBody src⟩ ∧ t.port.replies = []
                ∧ t.port.urgent = rest ∧ t.port.routine = s.port.routine)
          ∧ (s.port.replies = [] → s.port.urgent = [] → ∀ src rest, s.port.routine = src :: rest →
              t.port.line = some ⟨.notice src, src.kind, 0, s.noticeBody src⟩ ∧ t.port.replies = []
                ∧ t.port.urgent = [] ∧ t.port.routine = rest)
          ∧ (s.port.replies = [] → s.port.urgent = [] → s.port.routine = [] →
              t.port.line = none ∧ t.port.replies = [] ∧ t.port.urgent = [] ∧ t.port.routine = [])))
  ∧ (∀ s : State, s.power = .running → s.lineSound →
      exec .frameGapTimeout s = .next (s.setPort { s.port with rx := [] }))

/-- The first two checks of an execution (R163, R180): a kind that is no request kind is answered UNKNOWN_KIND, a
payload of another length than its kind's BAD_LENGTH, with the status alone, and nothing changes. -/
def Obligations.UnknownKindAndBadLength : Prop :=
  (∀ (s s0 : State) (kind tag : Byte) (p : List Byte), kind ∉ requestKinds → s.begins ⟨kind, tag, p⟩ s0 →
    exec (.unknownKind kind tag p) s =
      .next (s0.answered { role := .reply, kind := 0x7F, tag := tag, payload := [0x10] }))
  ∧ (∀ row ∈ fixedRequests, ∀ (s s0 : State) (tag : Byte) (p : List Byte), s.begins ⟨row.2.1, tag, p⟩ s0 →
      p.length ≠ row.2.2 → exec (row.1 tag p) s = .next (s0.answered (replyTo row.2.1 tag .badLength [])))

/-- A field that names what the part does not have, or a code not listed, is refused with BAD_FIELD, the status alone,
and nothing changes (R163, R178 and the first checks of each request; the rows of `badFieldRequests`). -/
def Obligations.BadFieldChangesNothing : Prop :=
  ∀ row ∈ badFieldRequests, ∀ (s s0 : State) (tag : Byte) (p : List Byte), s.begins ⟨row.2.1, tag, p⟩ s0 →
    p.length = row.2.2.1 → row.2.2.2 p = true →
    exec (row.1 tag p) s = .next (s0.answered (replyTo row.2.1 tag .badField []))

/-- The nine requests that only read (R55, R69, R107, R123, R141, R156, R169, R170, R180 to R182): their replies, and
nothing else changes; and the layouts of the record bodies that replies, reports and notices carry, field by field as
the tables of R181 and R182 have them. The hardware revision is a free value (assumption 14); a number wider than its
field shows its low bytes (assumption 15). -/
def Obligations.QueriesOnlyAnswer : Prop :=
  ∀ (s s0 : State) (tag : Byte),
    (s.begins ⟨0x01, tag, []⟩ s0 → exec (.identify tag []) s = .next (s0.answered (replyTo 0x01 tag .ok
      [0x50, 0x24, BitVec.ofNat 8 Config.hardwareRevision, 2, 32, 24, 8, 4, 16, 4, if s0.defaulted then 1 else 0])))
    ∧ (s.begins ⟨0x02, tag, []⟩ s0 → exec (.summary tag []) s = .next (s0.answered (replyTo 0x02 tag .ok
        (be32 s0.uptime
          ++ [if s0.defaulted then 1 else 0, s0.scan.mode.code, (s0.engine 0).state.code, (s0.engine 1).state.code]
          ++ [ProbeState.undefined, .active, .suspect, .faulted].map (fun p =>
                byte (allAddrs.filter fun a => (s0.probe a).state == p).length)
          ++ [Grade.off, .stale, .clear, .watch, .alarm, .wet].map (fun g =>
                byte ((List.finRange 24).filter fun z => (s0.zone z).grade == g).length)
          ++ [byte s0.recordsHeld, byte s0.pendingZones, byte (s0.port.urgent.length + s0.port.routine.length)]))))
    ∧ (∀ a : Addr, s.begins ⟨0x12, tag, [trunkCode a.trunk, byte a.drop.val]⟩ s0 →
        exec (.probeQuery tag [trunkCode a.trunk, byte a.drop.val]) s =
          .next (s0.answered (replyTo 0x12 tag .ok (s0.probeBody a))))
    ∧ (s.begins ⟨0x24, tag, []⟩ s0 → exec (.mapQuery tag []) s = .next (s0.answered (replyTo 0x24 tag .ok
        ([byte s0.map.singlesHeld, byte s0.map.spans.length] ++ allAddrs.flatMap s0.map.singleBytes
          ++ s0.map.spans.flatMap fun p => [trunkCode p.trunk, byte p.base, byte p.size, byte p.zone.val]))))
    ∧ (∀ z : ZoneId, s.begins ⟨0x2B, tag, [byte z.val]⟩ s0 →
        exec (.zoneQuery tag [byte z.val]) s = .next (s0.answered (replyTo 0x2B tag .ok
          (s0.zoneBody z ++ [boolByte (s0.zone z).enabled] ++ (s0.zone z).cfg.bytes))))
    ∧ (∀ c : ChannelId, s.begins ⟨0x32, tag, [byte c.val]⟩ s0 →
        exec (.leakQuery tag [byte c.val]) s = .next (s0.answered (replyTo 0x32 tag .ok
          (s0.leakBody c ++ be16 (s0.channel c).calSum ++ be32 (zoneSet fun z => (s0.zone z).cfg.watches c)
            ++ [s0.leak.applied.code,
                if s0.leak.activeZones = 0 ∧ s0.leak.wetChannels = 0 then Rate.slow.code else Rate.fast.code]))))
    ∧ (∀ l : LineId, s.begins ⟨0x36, tag, [byte l.val]⟩ s0 →
        exec (.lineQuery tag [byte l.val]) s = .next (s0.answered (replyTo 0x36 tag .ok (s0.lineBody l))))
    ∧ (s.begins ⟨0x38, tag, []⟩ s0 → exec (.eventList tag []) s = .next (s0.answered (replyTo 0x38 tag .ok
        ([byte s0.recordsHeld] ++ be16 s0.events.nextNumber
          ++ (s0.events.order.flatMap fun p => match s0.recordAt p with
                | some e => be16 e.number ++ [byte e.zone.val, e.kind.code, e.state.code, byte p.val]
                | none => [])
          ++ be32 (zoneSet fun z => (s0.pendingKind z).isSome)
          ++ be32 (zoneSet fun z => s0.pendingKind z == some .water)))))
    ∧ (∀ p : List Byte, s.begins ⟨0x39, tag, p⟩ s0 → p.length = 2 → u16 p 0 ≠ 0 →
        exec (.eventQuery tag p) s = .next (s0.answered
          (match s0.findNumber (u16 p 0) with
           | some (place, e) => replyTo 0x39 tag .ok
               ([byte place.val] ++ e.bytes ++ [byte e.capture.length] ++ e.capture.flatMap Capture.bytes)
           | none => replyTo 0x39 tag .notFound [])))
    ∧ (∀ a : Addr, s0.probeBody a =
        [trunkCode a.trunk, byte a.drop.val]
          ++ (match (s0.probe a).config with
              | some k => [1, k.kind.code] ++ sbe16 k.tTrim ++ sbe16 k.rhTrim
              | none => [0, 0xFF, 0, 0, 0, 0])
          ++ [(s0.probe a).state.code, byte (s0.probe a).failures,
              match (s0.probe a).last with | some o => o.code | none => 0xFF,
              match (s0.probe a).mismatch with | some k => k.code | none => 0xFF]
          ++ (match (s0.probe a).reading with
              | some r => sbe16 r.temp ++ (match r.rh with | some x => be16 x | none => [0xFF, 0xFF]) ++ sbe16 r.rawTemp
                  ++ (match r.rawRh with | some x => be16 x | none => [0xFF, 0xFF])
                  ++ [(if r.saturated then (1 : Byte) else 0) + (if r.tainted then 2 else 0)]
                  ++ be32 (s0.uptime - r.taken)
              | none => [0x80, 0, 0xFF, 0xFF, 0x80, 0, 0xFF, 0xFF, 0, 0xFF, 0xFF, 0xFF, 0xFF])
          ++ [if (s0.probe a).validAt s0.scan.maxAge s0.uptime then 1 else 0]
          ++ (match (s0.probe a).dew with
              | some w =>
                sbe16 w.td ++ [(if w.tempOutOfRange then (1 : Byte) else 0) + (if w.dewBelowRange then 2 else 0)]
              | none => [0x80, 0, 0])
          ++ (match (s0.probe a).df with | some d => sbe16 d | none => [0x80, 0])
          ++ [match s0.map.lookup a with | some z => byte z.val | none => 0xFF])
    ∧ (∀ z : ZoneId, s0.zoneBody z =
        [byte z.val, (s0.zone z).grade.code]
          ++ (match (s0.zone z).d with | some x => sbe16 x | none => [0x80, 0])
          ++ (match (s0.zone z).s with | some x => sbe16 x.value ++ [x.source.code] | none => [0x80, 0, 0xFF])
          ++ (match (s0.zone z).m with | some x => sbe16 x | none => [0x80, 0])
          ++ (match (s0.zone z).dwell with
              | .none => ([0, 0, 0] : List Byte)
              | .rise n _ => 1 :: be16 n
              | .fall n _ => 2 :: be16 n)
          ++ [byte (s0.zone z).air, byte (s0.zone z).surfaces]
          ++ (match s0.findZone z with | some (_, e) => be16 e.number ++ [e.state.code] | none => [0, 0, 0xFF])
          ++ [match s0.pendingKind z with | some _ => (1 : Byte) | none => 0])
    ∧ (∀ c : ZoneConfig, c.bytes = sbe16 c.w ++ sbe16 c.a ++ sbe16 c.h ++ be16 c.riseDwell ++ be16 c.fallDwell
        ++ [byte c.weight] ++ (match c.design with | some x => sbe16 x | none => [0x80, 0])
        ++ [c.leakMask, if c.wetElement then 1 else 0, byte c.depth])
    ∧ (∀ e : EventRecord, e.bytes =
        be16 e.number ++ [byte e.zone.val, e.kind.code, e.state.code] ++ be32 e.openedAt
          ++ (match e.clearedAt with | some x => be32 x | none => [0xFF, 0xFF, 0xFF, 0xFF])
          ++ [match e.cause with | some x => x.code | none => 0xFF]
          ++ (match e.worst with | some x => sbe16 x | none => [0x80, 0])
          ++ [byte e.reEscalations, (if e.lateOpened then 1 else 0) + (if e.dataLost then 2 else 0)]
          ++ (match e.d with | some x => sbe16 x | none => [0x80, 0])
          ++ (match e.s with | some x => sbe16 x | none => [0x80, 0])
          ++ (match e.m with | some x => sbe16 x | none => [0x80, 0]))
    ∧ (∀ p : Place, s0.eventBody p = byte p.val :: (match (s0.place p).record with
        | some e => e.bytes
        | none => (match (s0.place p).last with | some l => be16 l.1 ++ [byte l.2.val] | none => [0, 0, 0xFF])
            ++ [0xFF, 4, 0xFF, 0xFF, 0xFF, 0xFF, 0xFF, 0xFF, 0xFF, 0xFF, 0xFF]
            ++ [0x80, 0, 0, 0, 0x80, 0, 0x80, 0, 0x80, 0]))
    ∧ (∀ c : Capture, c.bytes = [trunkCode c.addr.trunk, byte c.addr.drop.val, c.kind.code]
        ++ (match c.temp with | some x => sbe16 x | none => [0x80, 0])
        ++ (match c.rh with | some x => be16 x | none => [0xFF, 0xFF])
        ++ (match c.age with | some x => be32 x | none => [0xFF, 0xFF, 0xFF, 0xFF])
        ++ [(if c.valid then (1 : Byte) else 0) + (if c.tainted then 2 else 0)])
    ∧ (∀ t : Trunk, s0.trunkBody t =
        [trunkCode t,
         if (s0.engine t).halted then 2
         else if (s0.engine t).inFlight = none ∧ (s0.engine t).waitList = [] then 0 else 1,
         byte (s0.engine t).failures, byte (s0.engine t).waitList.length,
         if (s0.engine t).inFlight = none then 0 else 1, byte (s0.engine t).settings.retries,
         byte (s0.engine t).settings.haltThreshold, byte (s0.engine t).settings.faultThreshold])
    ∧ (∀ c : ChannelId, s0.leakBody c =
        [byte c.val, if (s0.channel c).enabled then 1 else 0] ++ be16 (s0.channel c).dw ++ be16 (s0.channel c).hy
          ++ [(s0.channel c).state.code, byte (s0.channel c).streak]
          ++ (match (s0.channel c).baseline with | some x => be16 x | none => [0xFF, 0xFF])
          ++ (match (s0.channel c).last with | some x => be16 x | none => [0xFF, 0xFF])
          ++ [byte (s0.channel c).calCount])
    ∧ (∀ (l : LineId) (r : LineRecord), r = s0.outLine l → s0.lineBody l =
        [byte l.val, r.cfg.mode.code] ++ be32 r.cfg.mask.toNat
          ++ [r.cfg.trigger.code, r.cfg.polarity.code, if r.cfg.failsafe then 1 else 0, if r.latched then 1 else 0,
              byte r.computed, byte r.applied, r.drive.code, if r.high then 1 else 0,
              if s0.triggered r.cfg then 1 else 0]
          ++ be32 (zoneSet fun z => r.cfg.mask.getLsbD z.val && r.cfg.triggeredBy (s0.zone z).grade))
    ∧ (∀ (a : Addr) (o : PointOutcome), surveyEntry a (some o) =
        [trunkCode a.trunk, byte a.drop.val, o.outcome.code,
         match o.result.bind (·.kind) with | some k => k.code | none => 0xFF]
          ++ (match o.result.bind (·.reading) with
              | some r => sbe16 r.temp ++ (match r.rh with | some x => be16 x | none => [0xFF, 0xFF])
                  ++ [(if r.saturated then (1 : Byte) else 0) + (if r.wet then 2 else 0)]
              | none => [0x80, 0, 0xFF, 0xFF, 0]))

/-- Notice Mask (R168): the mask takes the five values, the sources of masked classes leave the queue, the others keep
their order. -/
def Obligations.NoticeMaskFiltersTheQueue : Prop :=
  ∀ (s s0 : State) (tag : Byte) (m : NoticeMask),
    s.begins ⟨0x05, tag, [boolByte m.zone, boolByte m.event, boolByte m.probe, boolByte m.trunk, boolByte m.leak]⟩ s0 →
    ∀ urgent routine, urgent = s0.port.urgent.filter (fun src => m.enables src) →
      routine = s0.port.routine.filter (fun src => m.enables src) →
      exec (.noticeMask tag
          [boolByte m.zone, boolByte m.event, boolByte m.probe, boolByte m.trunk, boolByte m.leak]) s =
        .next ((s0.setPort { s0.port with mask := m, urgent := urgent, routine := routine }).answered
          (replyTo 0x05 tag .ok
            [boolByte m.zone, boolByte m.event, boolByte m.probe, boolByte m.trunk, boolByte m.leak,
             byte (urgent.length + routine.length)]))

/-- The table of R167: what a raising does to the notice queue, by the source's class and standing. -/
def Obligations.RaisingFollowsTheTable : Prop :=
  ∀ (p : Port) (src : Source),
    (p.mask.enables src = false → ∀ u, p.raise src u = p)
    ∧ (p.mask.enables src = true → src ∉ p.urgent → src ∉ p.routine →
        p.raise src .urgent = { p with urgent := p.urgent ++ [src] }
          ∧ p.raise src .routine = { p with routine := p.routine ++ [src] })
    ∧ (p.mask.enables src = true → src ∉ p.urgent → src ∈ p.routine → p.routine.Nodup →
        p.raise src .urgent = { p with urgent := p.urgent ++ [src], routine := p.routine.erase src }
          ∧ p.raise src .routine = p)
    ∧ (p.mask.enables src = true → src ∈ p.urgent → ∀ u, p.raise src u = p)

/-! ### The Probe Table (R41 to R56) -/

/-- Define Probe and Retire Probe (R42, R43, R44): the record started afresh or returned to UNDEFINED, the SCAN item of
a retired probe removed, the zone of the address evaluated, and nothing else but what that evaluation does. -/
def Obligations.DefineAndRetireProbe : Prop :=
  (∀ (s s0 : State) (tag : Byte) (p : List Byte) (a : Addr) (k : Kind), s.begins ⟨0x10, tag, p⟩ s0 → p.length = 7 →
    u8 p 0 = a.trunk.val → u8 p 1 = a.drop.val → u8 p 2 = k.code.toNat →
    ∀ tTrim rhTrim : Int, tTrim = max (-500) (min 500 (s16 p 3)) →
      rhTrim = (if k = .air then max (-1000) (min 1000 (s16 p 5)) else 0) →
      exec (.defineProbe tag p) s =
        .next (((s0.setProbe a
            { config := some ⟨k, tTrim, rhTrim⟩, state := .active, failures := 0, last := none, mismatch := none,
              reading := none, dew := none, df := none, expiry := none }).evaluateAt a).answered
          (replyTo 0x10 tag (if tTrim = s16 p 3 ∧ rhTrim = s16 p 5 then .ok else .adjusted)
            ([trunkCode a.trunk, byte a.drop.val, k.code] ++ sbe16 tTrim ++ sbe16 rhTrim))))
  ∧ (∀ (s s0 : State) (tag : Byte) (a : Addr), s.begins ⟨0x11, tag, [trunkCode a.trunk, byte a.drop.val]⟩ s0 →
      ((s0.probe a).config = none → exec (.retireProbe tag [trunkCode a.trunk, byte a.drop.val]) s =
        .next (s0.answered (replyTo 0x11 tag .notFound [])))
      ∧ ((s0.probe a).config ≠ none → exec (.retireProbe tag [trunkCode a.trunk, byte a.drop.val]) s =
          .next ((((s0.setEngine a.trunk
              { s0.engine a.trunk with
                waitList := (s0.engine a.trunk).waitList.filter fun i => !(i.origin == .scan && i.drop == a.drop) }
              ).setProbe a ProbeRecord.undefined).evaluateAt a).answered
            (replyTo 0x11 tag .ok [trunkCode a.trunk, byte a.drop.val]))))

/-- An age expiry (R50, R51): the reading stays for display, Df is absent, the zone is evaluated; that one which is not
due leaves the state as it was is the model's choice (assumption 4), and so is the awaited expiry as a field (18). -/
def Obligations.AgeExpiryDropsDf : Prop :=
  ∀ (s : State) (a : Addr), s.power = .running → s.lineSound →
    (∀ t, (s.probe a).expiry = some t → t ≤ s.uptime →
      ∃ s', exec (.ageExpiry a) s = .next s'
        ∧ s' = ((s.setProbe a { s.probe a with df := none, expiry := none }).evaluateAt a).arbitrate
        ∧ s'.probe a = { s.probe a with df := none, expiry := none }
        ∧ (∀ b, b ≠ a → s'.probe b = s.probe b))
    ∧ ((∀ t, (s.probe a).expiry = some t → s.uptime < t) → exec (.ageExpiry a) s = .next s)

/-- A reading is valid by R50's four conditions. A change of the max reading age (R29, R52): every record is re-judged
under the new age, and each enabled zone with a probe whose validity changed is evaluated, on the re-judged records; the
others are not touched. Validity is judged by R50's age even where an expiry has not been taken (assumption 18). -/
def Obligations.MaxAgeRejudgesEveryReading : Prop :=
  (∀ (p : ProbeRecord) (maxAge uptime : Nat), p.validAt maxAge uptime = true ↔
    p.config ≠ none ∧ p.state ≠ .faulted ∧ ∃ r, p.reading = some r ∧ uptime ≤ r.taken + maxAge)
  ∧ (∀ (s : State) (a : Addr), s.valid a = true ↔
      (s.probe a).config ≠ none ∧ (s.probe a).state ≠ .faulted
        ∧ ∃ r, (s.probe a).reading = some r ∧ s.uptime ≤ r.taken + s.scan.maxAge)
  ∧ ∀ (s : State) (new : Nat),
    (s.changeMaxAge new).scan = { s.scan with maxAge := new }
    ∧ (∀ a, ((s.probe a).validAt s.scan.maxAge s.uptime = true → (s.probe a).validAt new s.uptime = false →
          (s.changeMaxAge new).probe a = { s.probe a with df := none, expiry := none })
        ∧ ((s.probe a).validAt s.scan.maxAge s.uptime = false → (s.probe a).validAt new s.uptime = true →
          ∀ r, (s.probe a).reading = some r →
          (s.changeMaxAge new).probe a =
            { s.probe a with df := (s.probe a).dew.map (·.td), expiry := some (r.taken + new + 1) })
        ∧ ((s.probe a).validAt s.scan.maxAge s.uptime = true → (s.probe a).validAt new s.uptime = true →
          ∀ r, (s.probe a).reading = some r →
          (s.changeMaxAge new).probe a = { s.probe a with expiry := some (r.taken + new + 1) })
        ∧ ((s.probe a).validAt s.scan.maxAge s.uptime = false → (s.probe a).validAt new s.uptime = false →
          (s.changeMaxAge new).probe a = s.probe a))
    ∧ (∀ z, (∀ a, s.map.lookup a = some z →
          (s.probe a).validAt s.scan.maxAge s.uptime = (s.probe a).validAt new s.uptime) →
        (s.changeMaxAge new).zone z = s.zone z)
    ∧ (∀ z, (s.zone z).enabled = false → (s.changeMaxAge new).zone z = s.zone z)
    ∧ (∀ z a, s.map.lookup a = some z →
        (s.probe a).validAt s.scan.maxAge s.uptime ≠ (s.probe a).validAt new s.uptime → (s.zone z).enabled = true →
        (s.changeMaxAge new).zone z =
          ({ s with scan := { s.scan with maxAge := new }, probes := (s.changeMaxAge new).probes } : State
            ).zoneEvaluated z .ordinary)
    ∧ (new = s.scan.maxAge → (∀ a, (s.probe a).validAt new s.uptime = true →
          (s.probe a).expiry = (s.probe a).reading.map fun r => r.taken + new + 1) → s.changeMaxAge new = s)

/-! ### The trunks (R2 to R18) -/

/-- Trunk Restart and Trunk Setup (R16, R17). -/
def Obligations.TrunkRequests : Prop :=
  (∀ (s s0 : State) (tag : Byte) (t : Trunk), s.begins ⟨0x13, tag, [trunkCode t]⟩ s0 →
    ((s0.engine t).halted = true → (s0.engine t).waitList = [] → (s0.engine t).inFlight = none →
      exec (.trunkRestart tag [trunkCode t]) s =
        .next (((s0.setEngine t { s0.engine t with halted := false, failures := 0 }).raise (.trunk t) .routine).answered
          (replyTo 0x13 tag .ok [trunkCode t, TrunkState.idle.code])))
    ∧ ((s0.engine t).halted = false →
        exec (.trunkRestart tag [trunkCode t]) s =
          .next (s0.answered (replyTo 0x13 tag .wrongState [trunkCode t,
            if (s0.engine t).inFlight = none ∧ (s0.engine t).waitList = [] then TrunkState.idle.code
            else TrunkState.busy.code]))))
  ∧ (∀ (s s0 : State) (tag : Byte) (p : List Byte) (t : Trunk), s.begins ⟨0x14, tag, p⟩ s0 → p.length = 4 →
      u8 p 0 = t.val →
      ∀ retries halt fault, retries = min 3 (u8 p 1) → halt = max 4 (min 32 (u8 p 2)) →
        fault = max 1 (min 15 (u8 p 3)) →
        exec (.trunkSetup tag p) s =
          .next ((s0.setEngine t { s0.engine t with settings := ⟨retries, halt, fault⟩ }).answered
            (replyTo 0x14 tag (if retries = u8 p 1 ∧ halt = u8 p 2 ∧ fault = u8 p 3 then .ok else .adjusted)
              [trunkCode t, byte retries, byte halt, byte fault])))

/-- The gap's end and the transaction's opening (R2, R4, R8, R10, R18): a retry of the item in flight under the
settings now in force, or the head item, or a free engine; nothing on the other trunk. That an attempt is taken, and
its settings with it, at the start of its query is read from R18 (assumption 22); that the query of an item abandoned
at Warm Restart is sent to its end is read from R21 (assumption 17). -/
def Obligations.GapEndsAndTransactionOpens : Prop :=
  (∀ (s : State) (t : Trunk), s.power = .running → s.lineSound → (s.engine t).link = .gap →
    (∀ i, (s.engine t).inFlight = some i → exec (.gapExpiry t) s =
      .next (s.setEngine t
        { s.engine t with attempt := (s.engine t).settings,
                          link := .sending [byte i.drop.val, 0x01, crc8 [byte i.drop.val, 0x01]] }))
    ∧ ((s.engine t).inFlight = none → (s.engine t).waitList = [] ∨ (s.engine t).halted = true →
        exec (.gapExpiry t) s = .next (s.setEngine t { s.engine t with link := .ready }))
    ∧ (∀ i rest, (s.engine t).inFlight = none → (s.engine t).halted = false → (s.engine t).waitList = i :: rest →
        exec (.gapExpiry t) s =
          .next (s.setEngine t
            { s.engine t with
              inFlight := some i, waitList := rest, attempt := (s.engine t).settings,
              link := .sending [byte i.drop.val, 0x01, crc8 [byte i.drop.val, 0x01]] })))
  ∧ (∀ (s : State) (t : Trunk) (q : List Byte), s.power = .running → s.lineSound →
      ((s.engine t).link = .sending q →
        exec (.transactionOpen t) s = .next (s.setEngine t { s.engine t with link := .listening }))
      ∧ ((s.engine t).link = .strandedSending q →
        exec (.transactionOpen t) s = .next (s.setEngine t { s.engine t with link := .strandedListening })))

/-- The checks of R5 in their order on the seven characters, with the fields where R3 and R179 place them; and what the
result holds by its outcome (R6): the time, the answered kind of a well-formed answer, the reading of a GOOD or TAINTED
one. -/
def Obligations.AnswerJudgedInOrder : Prop :=
  ∀ (defined : Option Kind) (d : Drop) (echo status t1 t0 h1 h0 check : Byte) (time : Nat),
    ∀ (temp : Int) (rh kind : Nat), temp = (t1 ++ t0).toInt → rh = (h1 ++ h0).toNat →
      kind = (if status.getLsbD 2 then 1 else 0) + (if status.getLsbD 3 then 2 else 0) →
      (judgeAnswer defined d [echo, status, t1, t0, h1, h0, check] time).outcome =
        (if check ≠ crc8 [echo, status, t1, t0, h1, h0] then .badCheck
         else if echo.toNat ≠ d.val then .badCheck
         else if status.getLsbD 0 = false then .notReady
         else if kind = 0 ∨ kind = 3 then .badCheck
         else if temp < -4000 ∨ 8500 < temp then .badCheck
         else if kind = 1 ∧ 10230 < rh then .badCheck
         else if (kind = 1 ∧ defined = some .surface) ∨ (kind = 2 ∧ defined = some .air) then .kindMismatch
         else if status.getLsbD 1 then .tainted
         else .good)
      ∧ (judgeAnswer defined d [echo, status, t1, t0, h1, h0, check] time).time = time
      ∧ (judgeAnswer defined d [echo, status, t1, t0, h1, h0, check] time).kind =
        (if (judgeAnswer defined d [echo, status, t1, t0, h1, h0, check] time).outcome
              ∈ [.good, .tainted, .kindMismatch]
         then some (if kind = 1 then .air else .surface) else none)
      ∧ (∀ r, (judgeAnswer defined d [echo, status, t1, t0, h1, h0, check] time).reading = some r →
          r.temp = temp ∧ r.rh = (if kind = 1 then some (min rh 10000) else none)
            ∧ (r.saturated = true ↔ kind = 1 ∧ 10000 < rh) ∧ r.wet = status.getLsbD 1)
      ∧ ((judgeAnswer defined d [echo, status, t1, t0, h1, h0, check] time).reading.isSome = true ↔
          ((judgeAnswer defined d [echo, status, t1, t0, h1, h0, check] time).outcome = .good
            ∨ (judgeAnswer defined d [echo, status, t1, t0, h1, h0, check] time).outcome = .tainted))

/-- The seventh character of an answer (R4, R6, R10 to R14, R35, R36, R39, R45 to R49), by what the answer comes to.
GOOD or TAINTED: the item ends, the count is 0, the gap runs, and a defined probe gets the reading, trimmed, with its
dew point and filtered dew point, is ACTIVE, and is noticed if it was failing. KIND_MISMATCH: the item ends as a
failure of the probe, which is noticed. NOT_READY: the item goes to the tail of the list with its result, or is
dropped for a newer SCAN item; the fifth ends it as NOT_READY_LIMIT and no record is touched. BAD_CHECK: the attempt
fails (`attemptFails`). Where an item ends, its survey point settles and the zone of its address is evaluated
(`itemEnds`); at a halt the SURVEY items that wait settle too, in the order of the list (the model's choice, assumption
28). Characters outside a transaction, and those for an item abandoned at Warm Restart, are discarded (R1, R21). -/
def Obligations.AnswerReceivedIsApplied : Prop :=
  (∀ (s : State) (t : Trunk) (b : List Byte), s.power = .running → s.lineSound → (s.engine t).link ≠ .listening →
    exec (.answerReceived t b) s = .next s)
  ∧ ∀ (s : State) (t : Trunk) (b : List Byte) (i : Item) (res : AttemptResult), s.power = .running →
      (s.engine t).link = .listening → (s.engine t).inFlight = some i → b.length = 7 →
      res = judgeAnswer (s.kindAt ⟨t, i.drop⟩) i.drop b s.uptime →
      (res.outcome = .good ∨ res.outcome = .tainted →
        ∃ s' p raw, exec (.answerReceived t b) s = .next s' ∧ res.reading = some raw
          ∧ s'.engine t = { s.engine t with link := .gap, inFlight := none, failures := 0 }
          ∧ s.itemEnds t i ⟨res.outcome, some res⟩ [] p ((s.probe ⟨t, i.drop⟩).config ≠ none) s'
          ∧ ((s.probe ⟨t, i.drop⟩).config = none → p = s.probe ⟨t, i.drop⟩)
          ∧ (∀ c, (s.probe ⟨t, i.drop⟩).config = some c →
              (∃ r : Reading, p.reading = some r
                ∧ r.temp = max (-4000) (min 8500 (raw.temp + c.tTrim)) ∧ r.rawTemp = raw.temp
                ∧ (c.kind = .surface → r.rh = none ∧ r.rawRh = none
                    ∧ p.dew = (s.probe ⟨t, i.drop⟩).dew ∧ p.df = (s.probe ⟨t, i.drop⟩).df)
                ∧ (c.kind = .air → ∃ rh, raw.rh = some rh ∧ r.rawRh = some rh
                    ∧ ∃ x : Nat, r.rh = some x ∧ (x : Int) = max 0 (min 10000 ((rh : Int) + c.rhTrim))
                      ∧ p.dew = some (dewPoint r.temp x)
                      ∧ p.df = some (filterStep
                          (match s.map.lookup ⟨t, i.drop⟩ with
                           | some z => (s.zone z).cfg.weight
                           | none => 0) (s.probe ⟨t, i.drop⟩).df (dewPoint r.temp x).td))
                ∧ r.saturated = raw.saturated ∧ r.tainted = raw.wet ∧ r.taken = s.uptime)
              ∧ p.state = .active ∧ p.failures = 0 ∧ p.last = some res.outcome ∧ p.mismatch = none ∧ p.config = some c
              ∧ p.expiry = some (s.uptime + s.scan.maxAge + 1)
              ∧ (s.port.mask.probe = true →
                  (s.probe ⟨t, i.drop⟩).state = .suspect ∨ (s.probe ⟨t, i.drop⟩).state = .faulted →
                  s'.noticed (.probe ⟨t, i.drop⟩))))
      ∧ (res.outcome = .kindMismatch →
          ∃ s' p, exec (.answerReceived t b) s = .next s'
            ∧ s'.engine t = { s.engine t with link := .gap, inFlight := none, failures := 0 }
            ∧ s.itemEnds t i ⟨.kindMismatch, some res⟩ [] p True s'
            ∧ (∀ count state, count = min ((s.probe ⟨t, i.drop⟩).failures + 1) 15 →
                state = (if (s.probe ⟨t, i.drop⟩).state = .faulted then ProbeState.faulted
                  else if count < (s.engine t).settings.faultThreshold then .suspect else .faulted) →
                p = { s.probe ⟨t, i.drop⟩ with
                        failures := count, last := some .kindMismatch, mismatch := res.kind, state := state,
                        df := if state = .faulted then none else (s.probe ⟨t, i.drop⟩).df,
                        expiry := if state = .faulted then none else (s.probe ⟨t, i.drop⟩).expiry })
            ∧ (s.port.mask.probe = true → s'.noticed (.probe ⟨t, i.drop⟩)))
      ∧ (res.outcome = .notReady → i.notReady < 4 → s.lineSound →
          exec (.answerReceived t b) s =
            .next (s.setEngine t
              { s.engine t with
                link := .gap, inFlight := none, failures := 0,
                waitList :=
                  if i.origin = .scan ∧ i.drop ∈ scanDrops (s.engine t).waitList then (s.engine t).waitList
                  else (s.engine t).waitList ++ [{ i with notReady := i.notReady + 1, latest := some res }] }))
      ∧ (res.outcome = .notReady → 4 ≤ i.notReady →
          ∃ s', exec (.answerReceived t b) s = .next s'
            ∧ s'.engine t = { s.engine t with link := .gap, inFlight := none, failures := 0 }
            ∧ s.itemEnds t i ⟨.notReadyLimit, some res⟩ [] (s.probe ⟨t, i.drop⟩) False s')
      ∧ (res.outcome = .badCheck → s.lineSound → s.attemptFails t i res (exec (.answerReceived t b) s))

/-- An attempt that ends without an answer (R4, R10, R12 to R14, R35, R36, R39, R47, R49): NO_ANSWER with no
character, BAD_CHECK with one to six, and then what `attemptFails` says of a failed attempt: a retry, or the end of
the item with the failure applied, or the halt of the trunk, at which the SURVEY items that wait settle as
TRUNK_HALTED, in the order of the list (the model's choice, assumption 28). The timeout of an item abandoned at Warm
Restart starts the gap and does nothing else (R21; assumption 17); with no transaction open there is none (assumption
4). -/
def Obligations.AnswerTimeoutRetriesEndsOrHalts : Prop :=
  ∀ (s : State) (t : Trunk) (b : List Byte), s.power = .running → s.lineSound → b.length < 7 →
    (∀ i, (s.engine t).link = .listening → (s.engine t).inFlight = some i →
      s.attemptFails t i
        { outcome := if b = [] then .noAnswer else .badCheck, kind := none, reading := none, time := s.uptime }
        (exec (.answerTimeout t b) s))
    ∧ ((s.engine t).link = .strandedListening →
        exec (.answerTimeout t b) s = .next (s.setEngine t { s.engine t with link := .gap }))
    ∧ ((s.engine t).link ≠ .listening → (s.engine t).link ≠ .strandedListening →
        exec (.answerTimeout t b) s = .next s)

/-! ### Scanning and surveys (R22 to R39) -/

/-- Scan Setup in its three modes (R25 to R29): the timer, the wait lists, then the max reading age, in one step. -/
def Obligations.ScanSetupByMode : Prop :=
  ∀ (s s0 : State) (tag : Byte) (p : List Byte) (period age : Nat), s.begins ⟨0x18, tag, p⟩ s0 → p.length = 5 →
    period = max 5 (min 3600 (u16 p 1)) → age = max 30 (min 7200 (u16 p 3)) → (∀ t, (s0.engine t).sound) →
    ∀ reply : ScanTimer → OutFrame, (∀ t, reply t = replyTo 0x18 tag
        (if period = u16 p 1 ∧ age = u16 p 3 then .ok else .adjusted)
        ([t.mode.code] ++ be16 t.active ++ be16 (t.next.getD 0) ++ be16 (t.countdown.getD 0) ++ be16 t.maxAge)) →
    (u8 p 0 = 1 → s0.scan.mode = .continuous →
      ∃ timer, timer = { s0.scan with next := if period = s0.scan.active then none else some period, maxAge := age } ∧
        exec (.scanSetupContinuous tag p) s =
          .next ((({ s0 with scan := { timer with maxAge := s0.scan.maxAge } } : State).changeMaxAge age).answered
            (reply timer)))
    ∧ (u8 p 0 = 1 → s0.scan.mode ≠ .continuous →
      ∃ timer engines, timer = { mode := .continuous, active := period, next := none, countdown := some period,
                                 due := false, maxAge := age } ∧
        (∀ t, engines.get t = (s0.engine t).cycled (s0.definedDrops t)) ∧
        exec (.scanSetupContinuous tag p) s =
          .next ((({ s0 with scan := { timer with maxAge := s0.scan.maxAge }, engines := engines } : State).changeMaxAge
            age).answered (reply timer)))
    ∧ (u8 p 0 = 2 →
      ∃ timer engines, timer = { mode := .stopped, active := period, next := none, countdown := none, due := false,
                                 maxAge := age } ∧
        (∀ t, engines.get t = (s0.engine t).cycled (s0.definedDrops t)) ∧
        exec (.scanSetupSingle tag p) s =
          .next ((({ s0 with scan := { timer with maxAge := s0.scan.maxAge }, engines := engines } : State).changeMaxAge
            age).answered (reply timer)))
    ∧ (u8 p 0 = 0 →
      ∃ timer engines, timer = { mode := .stopped, active := period, next := none, countdown := none, due := false,
                                 maxAge := age } ∧
        (∀ t, engines.get t = { s0.engine t with
          waitList := (s0.engine t).waitList.filter fun i => i.origin != .scan }) ∧
        exec (.scanSetupStopped tag p) s =
          .next ((({ s0 with scan := { timer with maxAge := s0.scan.maxAge }, engines := engines } : State).changeMaxAge
            age).answered (reply timer)))

/-- A period start (R23, R24): a held next period becomes active, the countdown is loaded, a cycle is offered to both
trunks, and nothing else changes. That the countdown's expiry is due from its last second on is the model's reading
(assumption 19); that the event does nothing while it is not due is its choice (assumption 4). -/
def Obligations.PeriodStartBeginsCycle : Prop :=
  ∀ s : State, s.power = .running → s.lineSound → (∀ t, (s.engine t).sound) →
    (s.scan.due = true →
      ∃ s', exec .periodStart s = .next s'
        ∧ s' = { s with scan := s'.scan, engines := s'.engines }
        ∧ s'.scan = { s.scan with active := s.scan.next.getD s.scan.active, next := none,
                                  countdown := some (s.scan.next.getD s.scan.active), due := false }
        ∧ ∀ t, s'.engine t = (s.engine t).cycled (s.definedDrops t))
    ∧ (s.scan.due = false → exec .periodStart s = .next s)

/-- Survey (R32 to R34, R36, R37, R180): the refusals in their order; an accepted order is held in the lowest FREE slot
and its reply completed before its items join the wait lists; points on a HALTED trunk settle at once, and where every
point is on one the order completes and its report is queued. -/
def Obligations.SurveyAcceptedOrRefused : Prop :=
  (∀ (s s0 : State) (tag : Byte) (p : List Byte), s.begins ⟨0x19, tag, p⟩ s0 →
    (p = [] → exec (.survey tag p) s = .next (s0.answered (replyTo 0x19 tag .badLength [])))
    ∧ (p ≠ [] → u8 p 0 = 0 ∨ 8 < u8 p 0 →
        exec (.survey tag p) s = .next (s0.answered (replyTo 0x19 tag .badField [])))
    ∧ (1 ≤ u8 p 0 → u8 p 0 ≤ 8 → p.length ≠ 1 + 3 * u8 p 0 →
        exec (.survey tag p) s = .next (s0.answered (replyTo 0x19 tag .badLength []))))
  ∧ (∀ (s s0 : State) (tag : Byte) (segments : List (Byte × Byte × Byte)) (p : List Byte) (points : List Addr),
      s.begins ⟨0x19, tag, p⟩ s0 → 1 ≤ segments.length → segments.length ≤ 8 →
      p = byte segments.length :: segments.flatMap (fun g => [g.1, g.2.1, g.2.2]) →
      points = segments.flatMap (fun g => allAddrs.filter fun a =>
        a.trunk.val == g.1.toNat && decide (g.2.1.toNat ≤ a.drop.val)
          && decide (a.drop.val < g.2.1.toNat + g.2.2.toNat)) →
      ((∃ g ∈ segments, 1 < g.1.toNat ∨ g.2.2 = 0 ∨ 32 < g.2.1.toNat + g.2.2.toNat) →
        exec (.survey tag p) s = .next (s0.answered (replyTo 0x19 tag .badField [])))
      ∧ ((∀ g ∈ segments, g.1.toNat ≤ 1 ∧ g.2.2 ≠ 0 ∧ g.2.1.toNat + g.2.2.toNat ≤ 32) →
          (24 < points.length → exec (.survey tag p) s = .next (s0.answered (replyTo 0x19 tag .badField [])))
          ∧ (points.length ≤ 24 → (∃ k o, s0.slot k = .held o ∧ o.tag = tag) →
              exec (.survey tag p) s = .next (s0.answered (replyTo 0x19 tag .duplicateTag [])))
          ∧ (points.length ≤ 24 → (∀ k o, s0.slot k = .held o → o.tag ≠ tag) → (∀ k, s0.slot k ≠ .free) →
              exec (.survey tag p) s = .next (s0.answered (replyTo 0x19 tag .surveyFull [])))
          ∧ (∀ k, points.length ≤ 24 → (∀ j o, s0.slot j = .held o → o.tag ≠ tag) → s0.slot k = .free →
              (∀ j, j < k → s0.slot j ≠ .free) → (∀ t, (s0.engine t).sound) →
              ∃ s1, s1 = s0.answered (replyTo 0x19 tag .ok [byte k.val, byte points.length])
                ∧ ((∃ a ∈ points, (s0.engine a.trunk).halted = false) →
                    ∃ s', exec (.survey tag p) s = .next s'
                      ∧ s' = { s1 with slots := s'.slots, engines := s'.engines }
                      ∧ s'.slot k = .held
                          { tag := tag, points := points
                            outcomes := points.map fun a =>
                              if (s0.engine a.trunk).halted then some ⟨.trunkHalted, none⟩ else none
                            outstanding := (points.filter fun a => !(s0.engine a.trunk).halted).length }
                      ∧ (∀ j, j ≠ k → s'.slot j = s0.slot j)
                      ∧ ∀ t, s'.engine t = (if (s0.engine t).halted then s0.engine t else (s0.engine t).joined
                          ((points.zipIdx.filter fun x => x.1.trunk == t).map fun x =>
                            newItem x.1.drop (.survey k x.2))))
                ∧ ((∀ a ∈ points, (s0.engine a.trunk).halted = true) →
                    ∃ s', exec (.survey tag p) s = .next s'
                      ∧ s' = { s1 with slots := s'.slots, port := s'.port }
                      ∧ s'.slot k = .reporting ∧ (∀ j, j ≠ k → s'.slot j = s0.slot j)
                      ∧ s'.port.outgoing = s1.port.outgoing ++
                          [{ role := .report k, kind := 0x80, tag := tag,
                             payload := [byte points.length, byte points.length] ++ points.flatMap fun a =>
                               [trunkCode a.trunk, byte a.drop.val, 7, 0xFF, 0x80, 0x00, 0xFF, 0xFF, 0] }]))))

/-- Survey Cancel (R38): the waiting items of the order go, the slot is FREE or counts the items that run, nothing else
changes; without such an order NOT_FOUND. -/
def Obligations.SurveyCancelDropsTheOrder : Prop :=
  ∀ (s s0 : State) (tag named : Byte), s.begins ⟨0x1A, tag, [named]⟩ s0 →
    ((∀ k o, s0.slot k = .held o → o.tag ≠ named) →
      exec (.surveyCancel tag [named]) s = .next (s0.answered (replyTo 0x1A tag .notFound [])))
    ∧ (∀ k o removed, s0.slot k = .held o → o.tag = named →
        (∀ j q, s0.slot j = .held q → q.tag = named → j = k) →
        removed = (((s0.engine 0).waitList ++ (s0.engine 1).waitList).filter fun i => i.isOfSlot k).length →
        ∃ engines slots,
          exec (.surveyCancel tag [named]) s =
            .next (({ s0 with engines := engines, slots := slots } : State).answered (replyTo 0x1A tag .ok
              [named, byte (o.points.length - o.outstanding), byte removed, byte (o.outstanding - removed)]))
          ∧ (∀ t, engines.get t =
              { s0.engine t with waitList := (s0.engine t).waitList.filter fun i => !i.isOfSlot k })
          ∧ slots.get k = (if o.outstanding - removed = 0 then .free else .closing (o.outstanding - removed))
          ∧ ∀ j, j ≠ k → slots.get j = s0.slot j)

/-! ### The Zone Map (R57 to R69) -/

/-- The two requests for single entries (R62, R64). -/
def Obligations.MapAndUnmapPoint : Prop :=
  (∀ (s s0 : State) (tag : Byte) (a : Addr) (z : ZoneId) (p : List Byte),
    p = [trunkCode a.trunk, byte a.drop.val, byte z.val] → s.begins ⟨0x20, tag, p⟩ s0 →
    (s0.map.single a = none → 32 ≤ s0.map.singlesHeld →
      exec (.mapPoint tag p) s = .next (s0.answered (replyTo 0x20 tag .tableFull [])))
    ∧ (s0.map.single a ≠ none ∨ s0.map.singlesHeld < 32 →
        ∃ new : ZoneMap, new.spans = s0.map.spans ∧ new.single a = some z
          ∧ (∀ b, b ≠ a → new.single b = s0.map.single b) ∧ (∀ b, b ≠ a → new.lookup b = s0.map.lookup b)
          ∧ new.lookup a = some z
          ∧ exec (.mapPoint tag p) s = .next ((s0.changeMap new).answered (replyTo 0x20 tag .ok
              (p ++ [(match s0.map.lookup a with | some y => byte y.val | none => 0xFF), s0.map.sourceCode a,
                     byte (if s0.map.single a = none then s0.map.singlesHeld + 1 else s0.map.singlesHeld)])))))
  ∧ (∀ (s s0 : State) (tag : Byte) (a : Addr) (p : List Byte),
      p = [trunkCode a.trunk, byte a.drop.val] → s.begins ⟨0x22, tag, p⟩ s0 →
      (s0.map.single a = none → exec (.unmapPoint tag p) s = .next (s0.answered (replyTo 0x22 tag .notFound [])))
      ∧ (∀ z, s0.map.single a = some z →
          ∃ new : ZoneMap, new.spans = s0.map.spans ∧ new.single a = none
            ∧ (∀ b, b ≠ a → new.single b = s0.map.single b)
            ∧ exec (.unmapPoint tag p) s = .next ((s0.changeMap new).answered (replyTo 0x22 tag .ok
                (p ++ [byte z.val] ++ (match s0.map.spans.find? (·.covers a) with
                  | some q => [byte q.zone.val, 2]
                  | none => [0xFF, 0]))))))

/-- What a span covers, when two meet (R58) and the lookup (R59); and the two requests for span entries (R63, R65), on a
map that obeys R57 and R58. -/
def Obligations.MapAndUnmapSpan : Prop :=
  (∀ (q : Span) (a : Addr), q.covers a = true ↔
    q.trunk = a.trunk ∧ q.base ≤ a.drop.val ∧ a.drop.val < q.base + q.size)
  ∧ (∀ (q : Span) (t : Trunk) (base size : Nat), 0 < q.size → 0 < size →
      (q.meets t base size = true ↔
        q.trunk = t ∧ ∃ d, q.base ≤ d ∧ d < q.base + q.size ∧ base ≤ d ∧ d < base + size))
  ∧ (∀ (m : ZoneMap) (a : Addr) (z : ZoneId), m.sound →
      (m.lookup a = some z ↔ m.single a = some z ∨ (m.single a = none ∧ ∃ q ∈ m.spans, q.covers a = true ∧ q.zone = z)))
  ∧ (∀ (s s0 : State) (tag : Byte) (t : Trunk) (base : Fin 32) (size : Fin 256) (z : ZoneId) (p : List Byte),
    p = [trunkCode t, byte base.val, byte size.val, byte z.val] → s.begins ⟨0x21, tag, p⟩ s0 → s0.map.sound →
    (¬ (size.val ∈ [2, 4, 8, 16, 32] ∧ size.val ∣ base.val) →
      exec (.mapSpan tag p) s = .next (s0.answered (replyTo 0x21 tag .badSpan [])))
    ∧ (size.val ∈ [2, 4, 8, 16, 32] → size.val ∣ base.val →
        (∀ old : ZoneId, ⟨t, base.val, size.val, old⟩ ∈ s0.map.spans →
          ∃ new : ZoneMap, new.singles = s0.map.singles ∧ new.sound
            ∧ (∀ q : Span, q ∈ new.spans ↔
                q = ⟨t, base.val, size.val, z⟩ ∨ (q ∈ s0.map.spans ∧ q ≠ ⟨t, base.val, size.val, old⟩))
            ∧ exec (.mapSpan tag p) s = .next ((s0.changeMap new).answered (replyTo 0x21 tag .ok
                (p ++ [byte old.val, byte s0.map.spans.length]))))
        ∧ ((∀ old : ZoneId, ⟨t, base.val, size.val, old⟩ ∉ s0.map.spans) →
            ((∃ q ∈ s0.map.spans, q.meets t base.val size.val = true) →
              ∃ q ∈ s0.map.spans, q.meets t base.val size.val = true
                ∧ (∀ r ∈ s0.map.spans, r.meets t base.val size.val = true → q.base ≤ r.base)
                ∧ exec (.mapSpan tag p) s = .next (s0.answered (replyTo 0x21 tag .overlap
                    [trunkCode q.trunk, byte q.base, byte q.size, byte q.zone.val])))
            ∧ ((∀ q ∈ s0.map.spans, q.meets t base.val size.val = false) →
                (s0.map.spans.length = 8 →
                  exec (.mapSpan tag p) s = .next (s0.answered (replyTo 0x21 tag .tableFull [])))
                ∧ (s0.map.spans.length < 8 →
                    ∃ new : ZoneMap, new.singles = s0.map.singles ∧ new.sound
                      ∧ (∀ q : Span, q ∈ new.spans ↔ q = ⟨t, base.val, size.val, z⟩ ∨ q ∈ s0.map.spans)
                      ∧ exec (.mapSpan tag p) s = .next ((s0.changeMap new).answered (replyTo 0x21 tag .ok
                          (p ++ [0xFF, byte (s0.map.spans.length + 1)]))))))))
  ∧ (∀ (s s0 : State) (tag : Byte) (t : Trunk) (base : Fin 32) (size : Fin 256) (p : List Byte),
      p = [trunkCode t, byte base.val, byte size.val] → s.begins ⟨0x23, tag, p⟩ s0 → s0.map.sound →
      (¬ (size.val ∈ [2, 4, 8, 16, 32] ∧ size.val ∣ base.val) →
        exec (.unmapSpan tag p) s = .next (s0.answered (replyTo 0x23 tag .badSpan [])))
      ∧ (size.val ∈ [2, 4, 8, 16, 32] → size.val ∣ base.val →
          ((∀ z : ZoneId, ⟨t, base.val, size.val, z⟩ ∉ s0.map.spans) →
            exec (.unmapSpan tag p) s = .next (s0.answered (replyTo 0x23 tag .notFound [])))
          ∧ (∀ z : ZoneId, ⟨t, base.val, size.val, z⟩ ∈ s0.map.spans →
              ∃ new : ZoneMap, new.singles = s0.map.singles ∧ new.sound
                ∧ (∀ q : Span, q ∈ new.spans ↔ q ∈ s0.map.spans ∧ q ≠ ⟨t, base.val, size.val, z⟩)
                ∧ exec (.unmapSpan tag p) s = .next ((s0.changeMap new).answered (replyTo 0x23 tag .ok
                    (p ++ [byte z.val]))))))

/-- A change of the map (R66, R67): the zones whose members it alters are evaluated, on the new map; the others, every
probe record and both trunks are untouched. -/
def Obligations.MapChangeEvaluatesAlteredZones : Prop :=
  ∀ (s : State) (new : ZoneMap),
    (s.changeMap new).map = new ∧ (s.changeMap new).probes = s.probes ∧ (s.changeMap new).engines = s.engines
    ∧ (s.changeMap new).scan = s.scan ∧ (s.changeMap new).slots = s.slots
    ∧ (∀ z, (∀ a, s.definedAt a = true → (s.map.lookup a = some z ↔ new.lookup a = some z)) →
        (s.changeMap new).zone z = s.zone z)
    ∧ (∀ z a, s.definedAt a = true → ¬ (s.map.lookup a = some z ↔ new.lookup a = some z) →
        (s.zone z).enabled = true →
        (s.changeMap new).zone z = ({ s with map := new } : State).zoneEvaluated z .ordinary)
    ∧ ((∀ a, s.definedAt a = true → s.map.lookup a = new.lookup a) → s.changeMap new = { s with map := new })

/-! ### Zones (R87 to R105) -/

/-- Zone Setup (R87, R89, R90): every number is clamped into its range, A at or above W is refused, else the settings
are written and the zone evaluated; enabled is kept. -/
def Obligations.ZoneSetupClampsAndEvaluates : Prop :=
  ∀ (s s0 : State) (tag : Byte) (p : List Byte) (z : ZoneId) (c : ZoneConfig), s.begins ⟨0x28, tag, p⟩ s0 →
    p.length = 17 → u8 p 0 = z.val → u8 p 15 ≤ 1 →
    c = { w := max 0 (min 2000 (s16 p 1)), a := max (-500) (min 1500 (s16 p 3)), h := max 10 (min 500 (s16 p 5)),
          riseDwell := min 900 (u16 p 7), fallDwell := min 3600 (u16 p 9), weight := min 4 (u8 p 11),
          design := if s16 p 12 = -32768 then none else some (max (-1000) (min 3000 (s16 p 12))),
          leakMask := p.getD 14 0, wetElement := u8 p 15 == 1, depth := min 8 (u8 p 16) } →
    (c.w ≤ c.a → exec (.zoneSetup tag p) s = .next (s0.answered (replyTo 0x28 tag .badField [])))
    ∧ (c.a < c.w →
        ∃ s', s' = (s0.setZone z { s0.zone z with cfg := c }).evaluate z .ordinary
          ∧ exec (.zoneSetup tag p) s = .next (s'.answered (replyTo 0x28 tag
              (if c.w = s16 p 1 ∧ c.a = s16 p 3 ∧ c.h = s16 p 5 ∧ c.riseDwell = u16 p 7 ∧ c.fallDwell = u16 p 9
                  ∧ c.weight = u8 p 11 ∧ (c.design = none ∨ c.design = some (s16 p 12)) ∧ c.depth = u8 p 16
               then .ok else .adjusted)
              ([byte z.val] ++ sbe16 c.w ++ sbe16 c.a ++ sbe16 c.h ++ be16 c.riseDwell ++ be16 c.fallDwell
                ++ [byte c.weight] ++ optSigned c.design ++ [c.leakMask, boolByte c.wetElement, byte c.depth]
                ++ [(s'.zone z).grade.code])))
          ∧ (s'.zone z).cfg = c ∧ (s'.zone z).enabled = (s0.zone z).enabled)

/-- Zone On (R91, R95, R97, R98, R104, R148): an OFF zone leaves the request graded from STALE, with no dwell; its
notice is queued, the change from OFF is handed to the Event List, and the lines that hold the zone are recomputed; an
enabled zone is not touched. -/
def Obligations.ZoneOnGradesAtOnce : Prop :=
  ∀ (s s0 : State) (tag : Byte) (z : ZoneId), s.begins ⟨0x29, tag, [byte z.val]⟩ s0 →
    ((s0.zone z).enabled = true → exec (.zoneOn tag [byte z.val]) s =
      .next (s0.answered (replyTo 0x29 tag .ok [byte z.val, (s0.zone z).grade.code])))
    ∧ ((s0.zone z).enabled = false → (s0.zone z).grade = .off →
        ∃ t g, exec (.zoneOn tag [byte z.val]) s = .next t
          ∧ g = (if s0.wetCondition z then Grade.wet
                 else match (s0.zoneSurface z).map (·.value), s0.zoneDew z with
                  | some sv, some dv =>
                    if sv - dv ≤ (s0.zone z).cfg.a then .alarm
                    else if sv - dv ≤ (s0.zone z).cfg.w then .watch else .clear
                  | _, _ => .stale)
          ∧ (t.zone z).enabled = true ∧ (t.zone z).cfg = (s0.zone z).cfg ∧ (t.zone z).grade = g
          ∧ (t.zone z).dwell = .none ∧ (t.zone z).d = s0.zoneDew z ∧ (t.zone z).s = s0.zoneSurface z
          ∧ (∀ y, y ≠ z → t.zone y = s0.zone y)
          ∧ t.probes = s0.probes ∧ t.engines = s0.engines ∧ t.map = s0.map ∧ t.scan = s0.scan ∧ t.slots = s0.slots
          ∧ t.uptime = s0.uptime ∧ t.store = s0.store ∧ t.defaulted = s0.defaulted
          ∧ s0.linesRecomputed z t
          ∧ (∀ u : State, u = ((s0.setZone z (t.zone z)).raise (.zone z)
                (if g = .alarm ∨ g = .wet then .urgent else .routine)).eventGradeChange z g →
              t.events = u.events ∧ t.port.urgent = u.port.urgent ∧ t.port.routine = u.port.routine)
          ∧ (∀ c, t.channel c = s0.channel c)
          ∧ t.port.outgoing = s0.port.outgoing ++ [replyTo 0x29 tag .ok [byte z.val, g.code]]
          ∧ (s0.port.mask.zone = true → (g = .alarm ∨ g = .wet → .zone z ∈ t.port.urgent)
              ∧ .zone z ∈ t.port.urgent ++ t.port.routine))

/-- Zone Off (R92, R104, R137, R148): every value is dropped, the change to OFF is handed on, an OPEN record is
cleared with cause ZONE_OFF, an ACKED one removed, the pending flag dropped, the lines that hold the zone recomputed;
an OFF zone is not touched. -/
def Obligations.ZoneOffDropsEverything : Prop :=
  ∀ (s s0 : State) (tag : Byte) (z : ZoneId), s.begins ⟨0x2A, tag, [byte z.val]⟩ s0 →
    ((s0.zone z).enabled = false → exec (.zoneOff tag [byte z.val]) s =
      .next (s0.answered (replyTo 0x2A tag .ok [byte z.val, (s0.zone z).grade.code])))
    ∧ ((s0.zone z).enabled = true → (s0.zone z).grade ≠ .off →
        ∃ t, exec (.zoneOff tag [byte z.val]) s = .next t
          ∧ t.zone z = { s0.zone z with enabled := false, grade := .off, d := none, s := none, m := none,
                                        dwell := .none, air := 0, surfaces := 0 }
          ∧ (∀ y, y ≠ z → t.zone y = s0.zone y)
          ∧ t.probes = s0.probes ∧ t.engines = s0.engines ∧ t.map = s0.map ∧ t.scan = s0.scan ∧ t.slots = s0.slots
          ∧ t.uptime = s0.uptime ∧ t.store = s0.store ∧ t.defaulted = s0.defaulted
          ∧ s0.linesRecomputed z t
          ∧ (∀ u : State, u = ((s0.setZone z (t.zone z)).raise (.zone z) .routine).eventGradeChange z .off →
              t.events = u.events ∧ t.port.urgent = u.port.urgent ∧ t.port.routine = u.port.routine)
          ∧ (∀ c, t.channel c = s0.channel c)
          ∧ t.port.outgoing = s0.port.outgoing ++ [replyTo 0x2A tag .ok [byte z.val, Grade.off.code]]
          ∧ (s0.port.mask.zone = true → .zone z ∈ t.port.urgent ++ t.port.routine)
          ∧ t.pendingKind z = none
          ∧ (∀ p e, s0.findZone z = some (p, e) →
              (e.state = .opened → t.recordAt p =
                some { e with state := .cleared, clearedAt := some s0.uptime, cause := some .zoneOff })
              ∧ (e.state = .cleared → t.recordAt p = some e)
              ∧ (e.state = .acked → ∀ f, t.recordAt p = some f → f.zone ≠ z)))

/-- The expiry of a dwell (R95, R97, R99, R100, R102): the dwell is NONE and the zone is evaluated, with all that
evaluations do (EvaluationWritesOneZone, GradeChangeIsHandedOn). Under the WET condition the grade becomes WET, with M
absent STALE, with no dwell. Else, where the target still lies in the dwell's direction the grade becomes the target;
otherwise the grade stays, and R100 is applied as for a zone with no dwell: none is loaded where the target equals the
grade, one in the other direction where it lies there, or with a length of 0 the grade becomes the target. That the
expiry is due from the dwell's last second on is the model's reading (assumption 19), and that one which is not due
does nothing its choice (assumption 4). -/
def Obligations.DwellExpiryTakesTheTarget : Prop :=
  ∀ (s : State) (z : ZoneId), s.power = .running → s.lineSound →
    ((s.zone z).dwell = .none ∨ (∃ n, (s.zone z).dwell = .rise n false) ∨ (∃ n, (s.zone z).dwell = .fall n false) →
      exec (.dwellExpiry z) s = .next s)
    ∧ (∀ n s', s' = s.setZone z { s.zone z with dwell := .none } →
        ((s.zone z).dwell = .rise n true → exec (.dwellExpiry z) s = .next (s'.evaluate z .riseExpired).arbitrate)
        ∧ ((s.zone z).dwell = .fall n true → exec (.dwellExpiry z) s = .next (s'.evaluate z .fallExpired).arbitrate))
    ∧ ∀ (c : ZoneConfig) (om : Option Int), c = (s.zone z).cfg → (s.zone z).enabled = true →
        om = margin ((s.zoneSurface z).map (·.value)) (s.zoneDew z) →
        (∃ n, (s.zone z).dwell = .rise n true) ∨ (∃ n, (s.zone z).dwell = .fall n true) →
        ∃ t, exec (.dwellExpiry z) s = .next t ∧ t.probes = s.probes ∧ t.engines = s.engines ∧ t.map = s.map
          ∧ t.scan = s.scan ∧ t.slots = s.slots ∧ (∀ c, t.channel c = s.channel c)
          ∧ (∀ y, y ≠ z → t.zone y = s.zone y) ∧ (t.zone z).m = om
          ∧ (s.wetCondition z = true → ((t.zone z).grade, (t.zone z).dwell) = (.wet, .none))
          ∧ (s.wetCondition z = false → om = none → ((t.zone z).grade, (t.zone z).dwell) = (.stale, .none))
          ∧ (∀ m, s.wetCondition z = false → om = some m → c.a < c.w → 0 ≤ c.h →
              (∀ n, (s.zone z).dwell = .rise n true →
                  ((s.zone z).grade = .clear → ((t.zone z).grade, (t.zone z).dwell) =
                    (if m ≤ c.a then (.alarm, .none) else if m ≤ c.w then (.watch, .none) else (.clear, .none)))
                  ∧ ((s.zone z).grade = .watch → ((t.zone z).grade, (t.zone z).dwell) =
                      (if m ≤ c.a then (.alarm, .none) else if m ≤ c.w + c.h then (.watch, .none)
                       else if c.fallDwell = 0 then (.clear, .none) else (.watch, .fall c.fallDwell false)))
                  ∧ ((s.zone z).grade = .alarm → ((t.zone z).grade, (t.zone z).dwell) =
                      (if m ≤ c.a + c.h then (.alarm, .none)
                       else if c.fallDwell = 0 then (if m ≤ c.w + c.h then .watch else .clear, .none)
                       else (.alarm, .fall c.fallDwell false))))
              ∧ (∀ n, (s.zone z).dwell = .fall n true →
                  ((s.zone z).grade = .alarm → ((t.zone z).grade, (t.zone z).dwell) =
                    (if m ≤ c.a + c.h then (.alarm, .none) else if m ≤ c.w + c.h then (.watch, .none)
                     else (.clear, .none)))
                  ∧ ((s.zone z).grade = .watch → ((t.zone z).grade, (t.zone z).dwell) =
                      (if c.w + c.h < m then (.clear, .none) else if c.a < m then (.watch, .none)
                       else if c.riseDwell = 0 then (.alarm, .none) else (.watch, .rise c.riseDwell false)))
                  ∧ ((s.zone z).grade = .clear → ((t.zone z).grade, (t.zone z).dwell) =
                      (if c.w < m then (.clear, .none)
                       else if c.riseDwell = 0 then (if m ≤ c.a then .alarm else .watch, .none)
                       else (.clear, .rise c.riseDwell false)))))

/-- The grade decision (R95 to R100): what settles the grade first, the way out of STALE, hysteresis, and the dwell:
one that runs in the target's direction keeps its remaining seconds, else one of the configured length is loaded, and
where that length is 0 the grade becomes the target at once; a zone that leaves WET goes on from ALARM with no dwell.
A decision made twice on the same values is settled. -/
def Obligations.GradeDecisionByTheRules : Prop :=
  ∀ (c : ZoneConfig) (g : Grade) (dwell : Dwell) (m : Int), c.a < c.w → 0 ≤ c.h →
    (∀ cause om, decideGrade cause c g dwell true om = (.wet, .none))
    ∧ (∀ cause, decideGrade cause c g dwell false none = (.stale, .none))
    ∧ (∀ cause, decideGrade cause c .stale dwell false (some m) =
        (if m ≤ c.a then (.alarm, .none) else if m ≤ c.w then (.watch, .none) else (.clear, .none)))
    ∧ (c.w < m → decideGrade .ordinary c .clear dwell false (some m) = (.clear, .none))
    ∧ (c.a < m → m ≤ c.w + c.h → decideGrade .ordinary c .watch dwell false (some m) = (.watch, .none))
    ∧ (m ≤ c.a + c.h → decideGrade .ordinary c .alarm dwell false (some m) = (.alarm, .none))
    ∧ (m ≤ c.w →
        (∀ k due, dwell = .rise k due → decideGrade .ordinary c .clear dwell false (some m) =
          (.clear, .rise k due))
        ∧ ((∀ k due, dwell ≠ .rise k due) → decideGrade .ordinary c .clear dwell false (some m) =
            (if c.riseDwell = 0 then (if m ≤ c.a then .alarm else .watch, .none)
             else (.clear, .rise c.riseDwell false))))
    ∧ (m ≤ c.a →
        (∀ k due, dwell = .rise k due → decideGrade .ordinary c .watch dwell false (some m) =
          (.watch, .rise k due))
        ∧ ((∀ k due, dwell ≠ .rise k due) → decideGrade .ordinary c .watch dwell false (some m) =
            (if c.riseDwell = 0 then (.alarm, .none) else (.watch, .rise c.riseDwell false))))
    ∧ (c.w + c.h < m →
        (∀ k due, dwell = .fall k due → decideGrade .ordinary c .watch dwell false (some m) =
          (.watch, .fall k due))
        ∧ ((∀ k due, dwell ≠ .fall k due) → decideGrade .ordinary c .watch dwell false (some m) =
            (if c.fallDwell = 0 then (.clear, .none) else (.watch, .fall c.fallDwell false))))
    ∧ (c.a + c.h < m →
        (∀ k due, dwell = .fall k due → decideGrade .ordinary c .alarm dwell false (some m) =
          (.alarm, .fall k due))
        ∧ ((∀ k due, dwell ≠ .fall k due) → decideGrade .ordinary c .alarm dwell false (some m) =
            (if c.fallDwell = 0 then (if m ≤ c.w + c.h then .watch else .clear, .none)
             else (.alarm, .fall c.fallDwell false))))
    ∧ decideGrade .ordinary c .wet dwell false (some m) =
        (if m ≤ c.a + c.h then (.alarm, .none)
         else if c.fallDwell = 0 then (if m ≤ c.w + c.h then .watch else .clear, .none)
         else (.alarm, .fall c.fallDwell false))
    ∧ (∀ wet om, g ≠ .off →
        decideGrade .ordinary c (decideGrade .ordinary c g dwell wet om).1 (decideGrade .ordinary c g dwell wet om).2
          wet om = decideGrade .ordinary c g dwell wet om)

/-- An evaluation (R60, R93 to R95, R104, R105): it touches no other zone and only what `evaluationKeeps` leaves open;
of an OFF zone it changes nothing; of an enabled one it writes D, S, M and the two counts from the zone's members, and
the grade and dwell decided on M and on the WET condition. -/
def Obligations.EvaluationWritesOneZone : Prop :=
  ∀ (s : State) (z : ZoneId) (cause : EvalCause) (r : ZoneRecord), r = (s.evaluate z cause).zone z →
    s.evaluationKeeps (s.evaluate z cause)
    ∧ (∀ y, y ≠ z → (s.evaluate z cause).zone y = s.zone y)
    ∧ ((s.zone z).enabled = false → s.evaluate z cause = s)
    ∧ (∀ a, a ∈ s.members z ↔ (s.probe a).config ≠ none ∧ s.map.lookup a = some z)
    ∧ ((s.zone z).enabled = true →
        r.enabled = true ∧ r.cfg = (s.zone z).cfg
        ∧ (∀ d, r.d = some d ↔
            (∃ a ∈ s.members z, s.kindAt a = some .air ∧ s.valid a = true ∧ s.taintedAt a = false
              ∧ (s.probe a).df = some d)
            ∧ ∀ a ∈ s.members z, s.kindAt a = some .air → s.valid a = true → s.taintedAt a = false →
                ∀ e, (s.probe a).df = some e → e ≤ d)
        ∧ (∀ v, r.s = some ⟨v, .probe⟩ ↔
            (∃ a ∈ s.members z, s.kindAt a = some .surface ∧ s.valid a = true
              ∧ ∃ x, (s.probe a).reading = some x ∧ x.temp = v)
            ∧ ∀ a ∈ s.members z, s.kindAt a = some .surface → s.valid a = true →
                ∀ x, (s.probe a).reading = some x → v ≤ x.temp)
        ∧ (∀ v, r.s = some ⟨v, .design⟩ ↔
            (∀ a ∈ s.members z, s.kindAt a = some .surface → s.valid a = false) ∧ (s.zone z).cfg.design = some v)
        ∧ r.m = (match r.s, r.d with
            | some x, some d => some (x.value - d)
            | _, _ => none)
        ∧ r.air = ((s.members z).filter fun a => s.kindAt a == some .air && s.valid a).length
        ∧ r.surfaces = ((s.members z).filter fun a => s.kindAt a == some .surface && s.valid a).length
        ∧ ∀ wet : Bool, (wet = true ↔
              (∃ c : ChannelId, (s.zone z).cfg.leakMask.getLsbD c.val = true ∧ (s.channel c).state = .wet)
              ∨ ((s.zone z).cfg.wetElement = true ∧ ∃ a ∈ s.members z, s.kindAt a = some .air ∧ s.valid a = true
                  ∧ s.taintedAt a = true)) →
            (r.grade, r.dwell) = decideGrade cause (s.zone z).cfg (s.zone z).grade (s.zone z).dwell wet r.m)

/-- What an evaluation hands on. A changed grade (R104, R113, R147 to R150, R152): the notice, then the change with the
zone's new record to the Event List, the lines that hold the zone recomputed from the grades as they now stand and no
other line, the active-zone count. A grade that stays (R105, R148): no line is touched where M stays as it was; where M
changes every PROPORTIONAL line that holds the zone computes its duty anew, and no other line is touched. -/
def Obligations.GradeChangeIsHandedOn : Prop :=
  ∀ (s : State) (z : ZoneId) (cause : EvalCause) (t : State), t = s.evaluate z cause → (s.zone z).enabled = true →
    ((t.zone z).grade ≠ (s.zone z).grade →
      (s.port.mask.zone = true →
        ((t.zone z).grade = .alarm ∨ (t.zone z).grade = .wet → .zone z ∈ t.port.urgent)
        ∧ .zone z ∈ t.port.urgent ++ t.port.routine)
      ∧ (∀ u : State, u = ((s.setZone z (t.zone z)).raise (.zone z)
            (if (t.zone z).grade = .alarm ∨ (t.zone z).grade = .wet then .urgent else .routine)
              ).eventGradeChange z (t.zone z).grade →
          t.events = u.events ∧ t.port = u.port)
      ∧ s.linesRecomputed z t
      ∧ (t.leak.activeZones + (if (s.zone z).grade.isActive then 1 else 0) =
          s.leak.activeZones + (if (t.zone z).grade.isActive then 1 else 0)
          ∨ ((s.zone z).grade.isActive = true ∧ s.leak.activeZones = 0)))
    ∧ ((t.zone z).grade = (s.zone z).grade →
        ((t.zone z).m = (s.zone z).m → t.lines = s.lines)
        ∧ ((t.zone z).m ≠ (s.zone z).m → ∀ l, t.outLine l =
            (if (s.outLine l).cfg.mask.getLsbD z.val = true ∧ (s.outLine l).cfg.mode = .proportional
             then { s.outLine l with computed := t.askedDuty (s.outLine l).cfg } else s.outLine l)))

/-! ### Condensation events (R126 to R142) -/

/-- The Event List's part in a grade change, by the grade after (R127 to R138), and in an evaluation that leaves the
grade (R105, R134). ALARM or WET: a new record in the lowest free place under the first free number at or after the
counter, a reopening, a turn to WATER with an urgent notice, or a pending flag. CLEAR, WATCH or OFF: an OPEN record is
cleared with its cause, an ACKED one removed and a pending zone served, a pending flag dropped. STALE: DATA_LOST.
Whatever the grade after but OFF and STALE, and where the grade stays, M is taken into the worst margin of an OPEN or
ACKED record. -/
def Obligations.EventListFollowsTheGrade : Prop :=
  (∀ (s t : State) (z : ZoneId) (g : Grade), g = .alarm ∨ g = .wet → t = s.eventGradeChange z g →
    t = { s with events := t.events, port := t.port }
    ∧ (s.findZone z = none → s.recordsHeld < 16 → ∀ capture : List Capture,
        capture = ((allAddrs.filter fun a => (s.probe a).config.isSome && s.map.lookup a == some z).take
            (s.zone z).cfg.depth).filterMap (fun a => (s.probe a).config.map fun k =>
          { addr := a, kind := k.kind, temp := (s.probe a).reading.map (·.temp), rh := (s.probe a).reading.bind (·.rh),
            age := (s.probe a).reading.map fun x => s.uptime - x.taken, valid := s.valid a,
            tainted := s.taintedAt a }) →
        ∃ p n, s.recordAt p = none ∧ (∀ q, q < p → s.recordAt q ≠ none) ∧ s.numberTaken n
          ∧ t.place p = ⟨some
              { number := n, zone := z, kind := if g = .wet then .water else .condensation, state := .opened,
                openedAt := s.uptime, clearedAt := none, cause := none, worst := (s.zone z).m, reEscalations := 0,
                lateOpened := false, dataLost := (s.zone z).grade == .stale, d := (s.zone z).d,
                s := (s.zone z).s.map (·.value), m := (s.zone z).m, capture := capture }, (s.place p).last⟩
          ∧ (∀ q, q ≠ p → t.place q = s.place q) ∧ t.events.order = s.events.order ++ [p]
          ∧ t.events.nextNumber = (if n < 65535 then n + 1 else 1) ∧ t.events.pending = s.events.pending
          ∧ (s.port.mask.event = true → .event p ∈ t.port.urgent))
    ∧ (s.findZone z = none → s.recordsHeld = 16 →
        t.port = s.port ∧ (∀ y, y ≠ z → t.pendingKind y = s.pendingKind y)
        ∧ t.pendingKind z = some (if g = .wet then .water else (s.pendingKind z).getD .condensation)
        ∧ t.events.places = s.events.places ∧ t.events.order = s.events.order
        ∧ t.events.nextNumber = s.events.nextNumber)
    ∧ (∀ p e, s.findZone z = some (p, e) →
        t.events.order = s.events.order ∧ t.events.nextNumber = s.events.nextNumber
        ∧ t.events.pending = s.events.pending ∧ (∀ q, q ≠ p → t.place q = s.place q)
        ∧ (e.state = .cleared →
            t.place p = ⟨some
              { e with state := .opened, reEscalations := min (e.reEscalations + 1) 255, clearedAt := none,
                       cause := none, kind := if g = .wet then .water else e.kind,
                       worst := e.worstAfter (s.zone z).m }, (s.place p).last⟩
            ∧ (s.port.mask.event = true → .event p ∈ t.port.urgent))
        ∧ (e.state ≠ .cleared →
            t.place p = ⟨some
              { e with kind := if g = .wet then .water else e.kind, worst := e.worstAfter (s.zone z).m },
              (s.place p).last⟩
            ∧ (g = .wet → e.kind = .condensation → s.port.mask.event = true → .event p ∈ t.port.urgent)
            ∧ (g = .alarm ∨ e.kind = .water → t.port = s.port))))
  ∧ (∀ (s t : State) (z : ZoneId) (g : Grade), g = .clear ∨ g = .watch ∨ g = .off → t = s.eventGradeChange z g →
      t = { s with events := t.events, port := t.port } ∧ t.pendingKind z = none
      ∧ (s.findZone z = none → t = s.setPendingKind z none)
      ∧ ∀ p e, s.findZone z = some (p, e) →
          (e.state = .cleared → t = s.setPendingKind z none)
          ∧ (e.state ≠ .cleared → s.port.mask.event = true → .event p ∈ t.port.urgent ++ t.port.routine)
          ∧ (e.state = .opened →
              t.place p = ⟨some
                { e with state := .cleared, clearedAt := some s.uptime,
                         cause := some (if g = .off then .zoneOff else .gradeFell),
                         worst := if g = .off then e.worst else e.worstAfter (s.zone z).m }, (s.place p).last⟩
              ∧ (∀ q, q ≠ p → t.place q = s.place q)
              ∧ t.events.order = s.events.order ∧ t.events.nextNumber = s.events.nextNumber
              ∧ ∀ y, y ≠ z → t.pendingKind y = s.pendingKind y)
          ∧ (e.state = .acked → (∀ y, y ≠ z → s.pendingKind y = none) →
              t.place p = ⟨none, some (e.number, z)⟩ ∧ (∀ q, q ≠ p → t.place q = s.place q)
              ∧ t.events.order = s.events.order.erase p
              ∧ t.events.nextNumber = s.events.nextNumber ∧ ∀ y, t.pendingKind y = none)
          ∧ (∀ y k, e.state = .acked → s.eventsSound → s.pendingKind y = some k →
              (∀ x, x < y → s.pendingKind x = none) →
              (∀ q, q ≠ p → t.place q = s.place q)
              ∧ ∃ n, (s.setPlace p ⟨none, none⟩).numberTaken n
                ∧ (∃ r, t.place p = ⟨some r, some (e.number, z)⟩ ∧ r.number = n ∧ r.zone = y ∧ r.kind = k
                    ∧ r.state = .opened ∧ r.lateOpened = true ∧ r.openedAt = s.uptime ∧ r.clearedAt = none
                    ∧ r.cause = none ∧ r.reEscalations = 0 ∧ r.worst = (s.zone y).m ∧ r.m = (s.zone y).m
                    ∧ r.d = (s.zone y).d ∧ r.s = (s.zone y).s.map (·.value)
                    ∧ (r.dataLost = true ↔ (s.zone y).grade = .stale))
                ∧ t.events.order = s.events.order.erase p ++ [p]
                ∧ t.events.nextNumber = (if n < 65535 then n + 1 else 1)
                ∧ t.pendingKind y = none ∧ (∀ x, x ≠ y → t.pendingKind x = s.pendingKind x)
                ∧ (s.port.mask.event = true → .event p ∈ t.port.urgent)))
  ∧ (∀ (s : State) (z : ZoneId),
      (s.findZone z = none → s.eventGradeChange z .stale = s)
      ∧ ∀ p e, s.findZone z = some (p, e) →
          s.eventGradeChange z .stale =
            (if e.state = .cleared then s
             else s.setPlace p ⟨some { e with dataLost := true }, (s.place p).last⟩))
  ∧ (∀ (s t : State) (z : ZoneId) (cause : EvalCause), t = s.evaluate z cause → (s.zone z).enabled = true →
      (t.zone z).grade = (s.zone z).grade →
      t.port = s.port ∧ t.leak = s.leak ∧ (s.findZone z = none → t.events = s.events)
      ∧ ∀ p e, s.findZone z = some (p, e) →
          t.events.order = s.events.order ∧ t.events.nextNumber = s.events.nextNumber
          ∧ t.events.pending = s.events.pending ∧ (∀ q, q ≠ p → t.place q = s.place q)
          ∧ (e.state = .cleared → t.place p = s.place p)
          ∧ (e.state ≠ .cleared →
              t.place p = { s.place p with record := some { e with worst := e.worstAfter (t.zone z).m } }))

/-- Event Ack (R138, R139): OPEN becomes ACKED, ACKED stays, CLEARED is removed and the pending zone with the lowest
number is given a record marked LATE_OPENED in the place just freed. -/
def Obligations.EventAckByState : Prop :=
  ∀ (s s0 : State) (tag : Byte) (p : List Byte), s.begins ⟨0x3A, tag, p⟩ s0 → p.length = 2 → u16 p 0 ≠ 0 →
    (s0.findNumber (u16 p 0) = none →
      exec (.eventAck tag p) s = .next (s0.answered (replyTo 0x3A tag .notFound [])))
    ∧ (∀ place e, s0.findNumber (u16 p 0) = some (place, e) →
        (e.state = .opened → exec (.eventAck tag p) s =
          .next ((s0.setPlace place { s0.place place with record := some { e with state := .acked } }).answered
            (replyTo 0x3A tag .ok (be16 e.number ++ [byte e.zone.val, 1, 2] ++ [0, 0, 0xFF]))))
        ∧ (e.state = .acked → exec (.eventAck tag p) s =
            .next (s0.answered (replyTo 0x3A tag .ok (be16 e.number ++ [byte e.zone.val, 2, 2] ++ [0, 0, 0xFF]))))
        ∧ (e.state = .cleared → (∀ z, s0.pendingKind z = none) →
            ∃ t, exec (.eventAck tag p) s = .next t
              ∧ t = (s0.setEvents { s0.events with places := t.events.places, order := t.events.order }).answered
                  (replyTo 0x3A tag .ok (be16 e.number ++ [byte e.zone.val, 3, 4] ++ [0, 0, 0xFF]))
              ∧ t.place place = ⟨none, some (e.number, e.zone)⟩ ∧ (∀ q, q ≠ place → t.place q = s0.place q)
              ∧ t.events.order = s0.events.order.erase place)
        ∧ (∀ z k, e.state = .cleared → s0.eventsSound → s0.pendingKind z = some k →
            (∀ y, y < z → s0.pendingKind y = none) →
            ∃ t r, exec (.eventAck tag p) s = .next t ∧ t.recordAt place = some r
              ∧ r.zone = z ∧ r.kind = k ∧ r.state = .opened ∧ r.lateOpened = true ∧ r.openedAt = s0.uptime
              ∧ r.worst = (s0.zone z).m ∧ r.m = (s0.zone z).m ∧ r.d = (s0.zone z).d ∧ r.reEscalations = 0
              ∧ (r.dataLost = true ↔ (s0.zone z).grade = .stale)
              ∧ t.pendingKind z = none ∧ (∀ y, y ≠ z → t.pendingKind y = s0.pendingKind y)
              ∧ (∀ q, q ≠ place → t.place q = s0.place q)
              ∧ t.events.order = s0.events.order.erase place ++ [place]
              ∧ t.zones = s0.zones ∧ t.probes = s0.probes ∧ t.lines = s0.lines ∧ t.leak = s0.leak
              ∧ (s0.port.mask.event = true → .event place ∈ t.port.urgent)
              ∧ t.port.outgoing = s0.port.outgoing ++ [replyTo 0x3A tag .ok
                  (be16 e.number ++ [byte e.zone.val, 3, 4] ++ be16 r.number ++ [byte z.val])]))

/-! ### Leak-sense channels (R110 to R122) -/

/-- The judging of a count (R114 to R117), on a channel that holds what R110 says of its state. -/
def Obligations.CountJudgedByState : Prop :=
  ∀ (c : Channel) (n : Nat), c.sound → n ≤ 4095 → c.state ≠ .off →
    (c.judged n).last = some n ∧ (c.judged n).enabled = c.enabled ∧ (c.judged n).dw = c.dw ∧ (c.judged n).hy = c.hy
    ∧ (n = 4095 → (c.judged n).state = .opened ∧ (c.judged n).baseline = c.baseline ∧ (c.judged n).streak = 0)
    ∧ (n < 64 → (c.judged n).state = .short ∧ (c.judged n).baseline = c.baseline ∧ (c.judged n).streak = 0)
    ∧ (64 ≤ n → n ≤ 4094 →
        (c.state = .opened ∨ c.state = .short →
          c.judged n = { c with last := some n, streak := 0, calSum := 0, calCount := 0,
                                state := if c.baseline = none then .calibrating else .dry })
        ∧ (c.state = .calibrating → c.calCount < 3 →
            c.judged n = { c with last := some n, calSum := c.calSum + n, calCount := c.calCount + 1 })
        ∧ (c.state = .calibrating → c.calCount = 3 →
            c.judged n = { c with last := some n, calSum := 0, calCount := 0, streak := 0, state := .dry,
                                  baseline := some ((c.calSum + n) / 4) })
        ∧ (∀ b, c.state = .dry → c.baseline = some b →
            (n + c.dw ≤ b → c.judged n =
              (if c.streak = 0 then { c with last := some n, streak := 1 }
               else { c with last := some n, streak := 0, state := .wet }))
            ∧ (b < n + c.dw → ∃ b', c.judged n = { c with last := some n, streak := 0, baseline := some b' }
                ∧ ((n : Int) - b ≤ c.dw / 4 → (b : Int) - n ≤ c.dw / 4 →
                    (b < n → b' = b + 1) ∧ (n < b → b' = b - 1) ∧ (n = b → b' = b))
                ∧ (¬ ((n : Int) - b ≤ c.dw / 4 ∧ (b : Int) - n ≤ c.dw / 4) → b' = b)))
        ∧ (∀ b, c.state = .wet → c.baseline = some b →
            (b + c.hy ≤ n + c.dw → c.judged n =
              (if c.streak = 0 then { c with last := some n, streak := 1 }
               else { c with last := some n, streak := 0, state := .dry }))
            ∧ (n + c.dw < b + c.hy → c.judged n = { c with last := some n, streak := 0 })))

/-- A round's start and the close of a gate (R111, R112, R113, R118, R122): which channel is measured next, the rate
applied, the count judged or discarded, and what a change of state hands on: the notice, and where the channel has
entered or left WET the count of WET channels and the evaluation of every zone that watches it. The round countdown
stands at the value loaded (assumption 8). -/
def Obligations.RoundsMeasureInOrder : Prop :=
  (∀ s : State, s.power = .running → s.lineSound → s.leak.position = none →
    exec .roundStart s = .next (s.setLeak
      { s.leak with
        applied := if s.leak.activeZones = 0 ∧ s.leak.wetChannels = 0 then .slow else .fast
        countdown := if s.leak.activeZones = 0 ∧ s.leak.wetChannels = 0 then 4000 else 500
        position := (List.finRange 8).find? fun c => (s.channel c).enabled
        discard := false }))
  ∧ (∀ (s : State) (c : ChannelId) (cycles n : Nat) (before after : LeakState), s.power = .running →
      s.leak.position = some c → n = min cycles 4095 → before = (s.channel c).state →
      after = ((s.channel c).judged n).state →
      ∃ t, exec (.gateClose cycles) s = .next t
        ∧ t.leak.position = (List.finRange 8).find? (fun d => decide (c < d) && (s.channel d).enabled)
        ∧ t.leak.discard = false ∧ t.leak.applied = s.leak.applied ∧ t.leak.countdown = s.leak.countdown
        ∧ (∀ d, d ≠ c → t.channel d = s.channel d)
        ∧ t.probes = s.probes ∧ t.engines = s.engines ∧ t.map = s.map ∧ t.scan = s.scan ∧ t.slots = s.slots
        ∧ (s.leak.discard = true → t.channel c = s.channel c ∧ t.zones = s.zones)
        ∧ (s.leak.discard = false → t.channel c = (s.channel c).judged n
            ∧ t.leak.wetChannels =
                s.leak.wetChannels - (if before = .wet ∧ after ≠ .wet then 1 else 0)
                  + (if before ≠ .wet ∧ after = .wet then 1 else 0)
            ∧ ((before = .wet ↔ after = .wet) → t.zones = s.zones)
            ∧ (¬ (before = .wet ↔ after = .wet) →
                (∀ z, (s.zone z).enabled = true → (s.zone z).cfg.leakMask.getLsbD c.val = true →
                    t.zone z = ({ s with leak := t.leak } : State).zoneEvaluated z .ordinary)
                ∧ (∀ z, (s.zone z).enabled = false ∨ (s.zone z).cfg.leakMask.getLsbD c.val = false →
                    t.zone z = s.zone z))
            ∧ (before ≠ .wet → after = .wet →
                (∀ z, (s.zone z).enabled = true → (s.zone z).cfg.leakMask.getLsbD c.val = true →
                    (t.zone z).grade = .wet)
                ∧ (s.port.mask.leak = true →
                    .leak c ∈ t.port.urgent ∨ t.port.line = some ⟨.notice (.leak c), 0x94, 0, t.leakBody c⟩))
            ∧ (before ≠ after → before ∈ [.wet, .opened, .short] ∨ after ∈ [.opened, .short] →
                s.port.mask.leak = true → t.noticed (.leak c))))

/-- The requests that reset a channel (R118, R120 to R122): its record, the discarding of its open gate, the notice,
and where the channel is taken out of WET the count of WET channels and the evaluation of every enabled zone that
watches it; other channels, and the other zones, are untouched. -/
def Obligations.LeakRequestsResetTheChannel : Prop :=
  ∀ (s s0 : State) (tag : Byte) (c : ChannelId),
    (∀ (p : List Byte) (enable : Bool) (dw hy : Nat) (r : Channel), s.begins ⟨0x30, tag, p⟩ s0 → p.length = 6 →
      u8 p 0 = c.val → u8 p 1 = (if enable then 1 else 0) → dw = max 16 (min 1024 (u16 p 2)) →
      hy = min dw (max 8 (min 128 (u16 p 4))) →
      r = { enabled := enable, dw := dw, hy := hy, baseline := none, state := if enable then .calibrating else .off,
            streak := 0, calSum := 0, calCount := 0, last := (s0.channel c).last } →
      ∃ t, exec (if enable then .leakSetupEnable tag p else .leakSetupDisable tag p) s = .next t
        ∧ t.channel c = r ∧ (∀ d, d ≠ c → t.channel d = s0.channel d)
        ∧ t.leak.discard = (s0.leak.discard || s0.leak.position == some c) ∧ t.leak.position = s0.leak.position
        ∧ t.leak.wetChannels = s0.leak.wetChannels - (if (s0.channel c).state = .wet then 1 else 0)
        ∧ ((s0.channel c).state = .wet → ∀ z, (s0.zone z).enabled = true →
            (s0.zone z).cfg.leakMask.getLsbD c.val = true →
            t.zone z = ({ s0 with leak := t.leak } : State).zoneEvaluated z .ordinary)
        ∧ (∀ z, (s0.zone z).enabled = false ∨ (s0.zone z).cfg.leakMask.getLsbD c.val = false
            ∨ (s0.channel c).state ≠ .wet → t.zone z = s0.zone z)
        ∧ t.probes = s0.probes ∧ t.engines = s0.engines ∧ t.map = s0.map ∧ t.scan = s0.scan ∧ t.slots = s0.slots
        ∧ (s0.port.mask.leak = true → (s0.channel c).state = .wet ∨ (s0.channel c).state = .opened
            ∨ (s0.channel c).state = .short → .leak c ∈ t.port.urgent ++ t.port.routine)
        ∧ t.port.outgoing = s0.port.outgoing ++ [replyTo 0x30 tag
            (if dw = u16 p 2 ∧ hy = u16 p 4 then .ok else .adjusted)
            ([byte c.val, boolByte enable] ++ be16 dw ++ be16 hy ++ [r.state.code])])
    ∧ (s.begins ⟨0x31, tag, [byte c.val]⟩ s0 →
        ((s0.channel c).state = .off → exec (.leakRecalibrate tag [byte c.val]) s =
          .next (s0.answered (replyTo 0x31 tag .wrongState [])))
        ∧ ((s0.channel c).state ≠ .off →
            ∃ t, exec (.leakRecalibrate tag [byte c.val]) s = .next t
              ∧ t.channel c = { s0.channel c with baseline := none, state := .calibrating, streak := 0, calSum := 0,
                                                  calCount := 0 }
              ∧ (∀ d, d ≠ c → t.channel d = s0.channel d)
              ∧ t.leak.discard = (s0.leak.discard || s0.leak.position == some c)
              ∧ t.leak.wetChannels = s0.leak.wetChannels - (if (s0.channel c).state = .wet then 1 else 0)
              ∧ ((s0.channel c).state = .wet → ∀ z, (s0.zone z).enabled = true →
                  (s0.zone z).cfg.leakMask.getLsbD c.val = true →
                  t.zone z = ({ s0 with leak := t.leak } : State).zoneEvaluated z .ordinary)
              ∧ (∀ z, (s0.zone z).enabled = false ∨ (s0.zone z).cfg.leakMask.getLsbD c.val = false
                  ∨ (s0.channel c).state ≠ .wet → t.zone z = s0.zone z)
              ∧ (s0.port.mask.leak = true → (s0.channel c).state = .wet ∨ (s0.channel c).state = .opened
                  ∨ (s0.channel c).state = .short → .leak c ∈ t.port.urgent ++ t.port.routine)
              ∧ t.probes = s0.probes ∧ t.engines = s0.engines ∧ t.map = s0.map ∧ t.scan = s0.scan
              ∧ t.slots = s0.slots
              ∧ t.port.outgoing = s0.port.outgoing ++ [replyTo 0x31 tag .ok
                  [byte c.val, (s0.channel c).state.code, 1]]))

/-! ### Output lines (R145 to R156) -/

/-- The duty that a line's zones ask for, the greatest of their proposals by R152's table and 0 for an empty mask; and
Line Setup and Line Release (R147, R149 to R152, R154, R155): the five fields, the latch cleared, the line recomputed at
once; a PROPORTIONAL line that stays one keeps its applied duty and drive; no other line and no other block changes. -/
def Obligations.LineRequestsRecompute : Prop :=
  (∀ (s : State) (c : LineConfig),
    (∀ z d, c.mask.getLsbD z.val = true → s.proposes c z d → d ≤ s.askedDuty c)
    ∧ ((∀ z : ZoneId, c.mask.getLsbD z.val = false) → s.askedDuty c = 0)
    ∧ ((∃ z : ZoneId, c.mask.getLsbD z.val = true) → (∀ z, (s.zone z).sound) →
        ∃ z, c.mask.getLsbD z.val = true ∧ s.proposes c z (s.askedDuty c)))
  ∧ (∀ (s s0 : State) (tag : Byte) (p : List Byte) (l : LineId) (c : LineConfig), s.begins ⟨0x34, tag, p⟩ s0 →
    p.length = 9 → u8 p 0 = l.val → u8 p 1 = c.mode.code.toNat → u32 p 2 = c.mask.toNat →
    u8 p 6 = c.trigger.code.toNat → u8 p 7 = c.polarity.code.toNat → u8 p 8 = (if c.failsafe then 1 else 0) →
    ∃ r s', s' = s0.setOutLine l r
      ∧ exec (.lineSetup tag p) s = .next (s'.answered (replyTo 0x34 tag .ok (s'.lineBody l)))
      ∧ r.cfg = c
      ∧ (c.mode = .off → r = ⟨c, false, 0, 0, .inactive⟩)
      ∧ (c.mode = .follow → r = ⟨c, false, 0, 0, if s0.triggered c then .active else .inactive⟩)
      ∧ (c.mode = .latch → r = ⟨c, s0.triggered c, 0, 0, if s0.triggered c then .active else .inactive⟩)
      ∧ (c.mode = .proportional → (s0.outLine l).cfg.mode ≠ .proportional →
          r = ⟨c, false, s0.askedDuty c, 0, .inactive⟩)
      ∧ (c.mode = .proportional → (s0.outLine l).cfg.mode = .proportional →
          r = ⟨c, false, s0.askedDuty c, (s0.outLine l).applied, (s0.outLine l).drive⟩))
  ∧ (∀ (s s0 : State) (tag : Byte) (l : LineId), s.begins ⟨0x35, tag, [byte l.val]⟩ s0 →
      ((s0.outLine l).cfg.mode ≠ .latch →
        exec (.lineRelease tag [byte l.val]) s = .next (s0.answered (replyTo 0x35 tag .wrongState [])))
      ∧ (∀ tr, (s0.outLine l).cfg.mode = .latch → tr = s0.triggered (s0.outLine l).cfg →
          exec (.lineRelease tag [byte l.val]) s =
            .next ((s0.setOutLine l { s0.outLine l with latched := tr, drive := if tr then .active else .inactive }
              ).answered (replyTo 0x35 tag .ok
                [byte l.val, boolByte tr, boolByte tr, if tr then Drive.active.code else Drive.inactive.code]))))

/-- The duty frame (R153): at a frame start every PROPORTIONAL line, and no other, applies its computed duty; at the end
of an on-time within the frame the line is INACTIVE; nothing else changes. That an on-time of the whole frame has no end
is read from R153 (assumption 24). -/
def Obligations.DutyFrameDrivesProportionalLines : Prop :=
  (∀ s : State, s.power = .running → s.lineSound →
    ∃ t, exec .dutyFrameStart s = .next t ∧ t = { s with lines := t.lines }
      ∧ ∀ l, t.outLine l = (if (s.outLine l).cfg.mode = .proportional then
          { s.outLine l with applied := (s.outLine l).computed,
                             drive := if (s.outLine l).computed = 0 then .inactive else .active }
        else s.outLine l))
  ∧ (∀ (s : State) (l : LineId), s.power = .running → s.lineSound → (s.outLine l).cfg.mode = .proportional →
      (s.outLine l).drive = .active →
      ((s.outLine l).applied < 255 → exec (.dutyOnTimeEnd l) s =
        .next (s.setOutLine l { s.outLine l with drive := .inactive }))
      ∧ (255 ≤ (s.outLine l).applied → exec (.dutyOnTimeEnd l) s = .next s))

/-- A line's level and triggering (R146, R147). -/
def Obligations.LevelAndTrigger : Prop :=
  (∀ l : LineRecord, (l.high = true ↔ l.drive = .undriven ∨ (l.drive = .active ∧ l.cfg.polarity = .activeHigh)
      ∨ (l.drive = .inactive ∧ l.cfg.polarity = .activeLow)))
  ∧ (∀ (s : State) (c : LineConfig), s.triggered c = true ↔
      ∃ z : ZoneId, c.mask.getLsbD z.val = true
        ∧ (((s.zone z).grade = .stale ∧ c.failsafe = true) ∨ (s.zone z).grade = .wet
          ∨ ((s.zone z).grade = .alarm ∧ c.trigger ≠ .wet) ∨ ((s.zone z).grade = .watch ∧ c.trigger = .watch)))

/-! ### The clock (R22, R101, R174) -/

/-- A second of uptime (R22, R101): the uptime, the scan countdown and every dwell count by one; nothing else changes.
In the last second of a countdown or a dwell its expiry falls due. No second passes over an expiry: one that is due
and has not been sent comes before the next second, a period start first, then dwells by ascending zone, then ages by
ascending address (R23, R51, R101; the due flags are the model's reading, assumption 19, and this order its choice,
assumption 29). Without settings only the uptime counts, and without power nothing does. -/
def Obligations.SecondCounts : Prop :=
  ∀ s : State,
    (s.power = .running → s.noneDue → ∃ t, exec .uptimeSecond s = .next t ∧ t.uptime = s.uptime + 1
      ∧ t = { s with uptime := t.uptime, scan := t.scan, zones := t.zones }
      ∧ (s.scan.countdown = none → t.scan = s.scan)
      ∧ (∀ n, s.scan.countdown = some n → 1 < n → t.scan = { s.scan with countdown := some (n - 1) })
      ∧ (s.scan.countdown = some 1 → t.scan = { s.scan with due := true })
      ∧ ∀ z, ((s.zone z).dwell = .none → t.zone z = s.zone z)
          ∧ (∀ n, (s.zone z).dwell = .rise n false → 1 ≤ n → t.zone z =
              { s.zone z with dwell := if n = 1 then .rise 1 true else .rise (n - 1) false })
          ∧ (∀ n, (s.zone z).dwell = .fall n false → 1 ≤ n → t.zone z =
              { s.zone z with dwell := if n = 1 then .fall 1 true else .fall (n - 1) false }))
    ∧ (s.power = .running → s.scan.due = true → s.lineSound → ∀ t, exec .periodStart s = .next t →
        exec .uptimeSecond s = exec .uptimeSecond t)
    ∧ (∀ z, s.power = .running → s.scan.due = false → s.dwellIsDue z → (∀ y, y < z → ¬ s.dwellIsDue y) →
        ∀ t, exec (.dwellExpiry z) s = .next t → exec .uptimeSecond s = exec .uptimeSecond t)
    ∧ (∀ a, s.power = .running → s.scan.due = false → (∀ z, ¬ s.dwellIsDue z) → s.ageIsDue a →
        (∀ b : Addr, b.idx < a.idx → ¬ s.ageIsDue b) →
        ∀ t, exec (.ageExpiry a) s = .next t → exec .uptimeSecond s = exec .uptimeSecond t)
    ∧ (s.power = .loading → exec .uptimeSecond s = .next { s with uptime := s.uptime + 1 })
    ∧ (s.power = .off → exec .uptimeSecond s = .next s)

/-! ### Arithmetic (R74 to R86) -/

/-- The dew point of T' and RH' by the four stages, with its two flags (R74 to R77, the table of R72); and what
follows from them (R78): it lies in -2000..5000 and not above Tc; at saturation it equals Tc wherever the
interpolation is exact, and can lie one below where it is not, and never more; it never falls when T' or RH' rises. -/
def Obligations.DewPointBounds : Prop :=
  (∀ (t : Int) (rh : Nat) (tc esd ed : Int) (E : List Int) (i f j : Nat), rh ≤ 10000 →
    E = [126, 192, 287, 422, 611, 872, 1226, 1702, 2333, 3160, 4234, 5613, 7367, 9580, 12345] →
    tc = max (-2000) (min 5000 t) → i < 14 → f ≤ 500 → tc = -2000 + 500 * i + f →
    esd = 10 * E.getD i 0 + 10 * (E.getD (i + 1) 0 - E.getD i 0) * f / 500 → ed = esd * rh / 10000 →
    ((dewPoint t rh).tempOutOfRange = true ↔ t < -2000 ∨ 5000 < t)
    ∧ ((dewPoint t rh).dewBelowRange = true ↔ ed < 1260)
    ∧ (ed < 1260 → (dewPoint t rh).td = -2000)
    ∧ (123450 ≤ ed → (dewPoint t rh).td = 5000)
    ∧ (j < 14 → 10 * E.getD j 0 ≤ ed → ed < 10 * E.getD (j + 1) 0 →
        (dewPoint t rh).td =
          -2000 + 500 * j + 500 * (ed - 10 * E.getD j 0) / (10 * E.getD (j + 1) 0 - 10 * E.getD j 0)))
  ∧ (∃ t : Int, -4000 ≤ t ∧ t ≤ 5000 ∧ (dewPoint t 10000).td = t - 1)
  ∧ ∀ (t : Int) (rh : Nat), -4000 ≤ t → t ≤ 8500 → rh ≤ 10000 →
    -2000 ≤ (dewPoint t rh).td ∧ (dewPoint t rh).td ≤ 5000
    ∧ (dewPoint t rh).td ≤ max (-2000) (min 5000 t)
    ∧ (rh = 10000 → max (-2000) (min 5000 t) - 1 ≤ (dewPoint t rh).td)
    ∧ (∀ (E : List Int) (i f : Nat), rh = 10000 →
        E = [126, 192, 287, 422, 611, 872, 1226, 1702, 2333, 3160, 4234, 5613, 7367, 9580, 12345] →
        i < 14 → f ≤ 500 → max (-2000) (min 5000 t) = -2000 + 500 * i + f →
        (500 : Int) ∣ (10 * E.getD (i + 1) 0 - 10 * E.getD i 0) * f →
        (dewPoint t rh).td = max (-2000) (min 5000 t))
    ∧ (∀ rh' : Nat, rh ≤ rh' → rh' ≤ 10000 → (dewPoint t rh).td ≤ (dewPoint t rh').td)
    ∧ (∀ t' : Int, t ≤ t' → t' ≤ 8500 → (dewPoint t rh).td ≤ (dewPoint t' rh).td)

/-- The filter step (R81, R83): Df starts as Td; a step lies between the old Df and Td, both included, is Td for weight
0 or where they are equal, keeps the range, and does nothing for a difference smaller than 2^k. -/
def Obligations.FilterStepBetween : Prop :=
  ∀ (k : Nat) (df td : Int),
    filterStep k none td = td
    ∧ (td ≤ df → filterStep k (some df) td = df - (df - td) / 2 ^ k)
    ∧ (df ≤ td → filterStep k (some df) td = df + (td - df) / 2 ^ k)
    ∧ min df td ≤ filterStep k (some df) td ∧ filterStep k (some df) td ≤ max df td
    ∧ (k = 0 ∨ df = td → filterStep k (some df) td = td)
    ∧ (td - df < 2 ^ k → df - td < 2 ^ k → filterStep k (some df) td = df)
    ∧ (-2000 ≤ df → df ≤ 5000 → -2000 ≤ td → td ≤ 5000 →
        -2000 ≤ filterStep k (some df) td ∧ filterStep k (some df) td ≤ 5000)

/-- The per-zone duty (R85, R86): its three cases, its bounds, when it is 255 and when 0, and that it never rises as M
rises. -/
def Obligations.DutyFallsWithMargin : Prop :=
  ∀ w a m : Int, a < w →
    (w ≤ m → zoneDuty w a m = 0) ∧ (m ≤ a → zoneDuty w a m = 255)
    ∧ (a < m → m < w → (zoneDuty w a m : Int) = 255 * (w - m) / (w - a) ∧ zoneDuty w a m ≤ 254)
    ∧ zoneDuty w a m ≤ 255 ∧ (zoneDuty w a m = 255 ↔ m ≤ a)
    ∧ (m < w → 255 * (w - m) < w - a → zoneDuty w a m = 0)
    ∧ (255 < w - a → zoneDuty w a (w - 1) = 0)
    ∧ (∀ m' : Int, m ≤ m' → zoneDuty w a m' ≤ zoneDuty w a m)

/-! ### Invariants that every step keeps -/

/-- Every step keeps the Message Port sound (R159, R161, R162, R164, R166, R168): the notice queue holds each source
once and none of a masked class; an idle line has nothing to send, and the bytes on the line are those of the frame
being sent (R159); at most four slots and eight PORT_FULL replies; a request waits only while another executes; each
REPORTING slot has its one report. And while Keep Settings executes the stored check is not that of the image in store
(R172; the complement of the image's check is the model's choice, assumption 12). -/
def Obligations.StepKeepsPort : Prop :=
  (∀ s t : State, s.noticesSound → s.lineSound → s.wireSound → s.slotsSound → step s = .next t →
    t.noticesSound ∧ t.lineSound ∧ t.wireSound ∧ t.slotsSound)
  ∧ ∀ s t : State, s.storeSound → step s = .next t → t.storeSound

/-- Every step keeps the trunks and the Scan Timer sound (R7 to R9, R13, R14, R17, R22): what waits and what is in
flight, the counts of each item, the failure count and the settings in range; SINGLE is not held, a countdown runs
exactly in CONTINUOUS, every number in its range; and the same of what the stored image would give them. And every step
keeps the survey orders sound (R32, R34, R35, R38, R39): distinct tags, 1..24 points, one outcome slot a point, as many
outstanding as are unsettled, and on the trunks exactly one item for each of those; a CLOSING slot counts its items. -/
def Obligations.StepKeepsTrunksAndScan : Prop :=
  (∀ s t : State, s.trunksSound → s.scanSound → step s = .next t → t.trunksSound ∧ t.scanSound)
  ∧ ∀ s t : State, s.trunksSound → s.ordersSound → step s = .next t → t.ordersSound

/-- Every step keeps the probe records (R41, R78, R81) and the map (R57, R58) sound; and the ages of the readings (R50,
R51): each valid reading awaits its expiry, an expiry that is awaited has not passed by more than its own second, and Df
is held only while one is awaited (assumption 18). -/
def Obligations.StepKeepsProbesAndMap : Prop :=
  (∀ s t : State, s.probesSound → s.mapSound → step s = .next t → t.probesSound ∧ t.mapSound)
  ∧ ∀ s t : State, s.agesSound → step s = .next t → t.agesSound

/-- Every step keeps the zone records sound (R88), and their settings, those of the stored image too, and their values
in range (R84, R87 to R89, R101; the due flag of a dwell is assumption 19), A below W among them. -/
def Obligations.StepKeepsZones : Prop :=
  (∀ s t : State, s.zonesSound → step s = .next t → t.zonesSound)
  ∧ ∀ s t : State, s.probesSound → s.zonesSound → s.zonesInRange → step s = .next t → t.zonesInRange

/-- Every step keeps the Leak Sense Unit sound (R110, R113, R120): every channel's state agrees with its other fields,
and its thresholds, its baseline, its last count and its calibration sum stay in range, in the stored image too; the
two counts count the active zones and the WET channels. -/
def Obligations.StepKeepsLeak : Prop :=
  ∀ s t : State, s.zonesSound → s.leakSound → step s = .next t → t.leakSound

/-- Every step keeps the Event List sound (R126 to R128, R133). -/
def Obligations.StepKeepsEvents : Prop := ∀ s t : State, s.eventsSound → step s = .next t → t.eventsSound

/-- Every step keeps every ALARM or WET zone recorded or pending (R129). -/
def Obligations.StepKeepsAlarmsRecorded : Prop :=
  ∀ s t : State, s.zonesSound → s.eventsSound → s.alarmsRecorded → step s = .next t → t.alarmsRecorded

/-- Every step keeps the line records sound (R145, R146). -/
def Obligations.StepKeepsLines : Prop := ∀ s t : State, s.linesSound → step s = .next t → t.linesSound

/-- The part right after reset meets every invariant above. -/
def Obligations.ResetIsSound : Prop :=
  State.reset.noticesSound ∧ State.reset.lineSound ∧ State.reset.wireSound ∧ State.reset.slotsSound
    ∧ State.reset.trunksSound ∧ State.reset.scanSound ∧ State.reset.probesSound ∧ State.reset.mapSound
    ∧ State.reset.zonesSound ∧ State.reset.leakSound ∧ State.reset.eventsSound ∧ State.reset.alarmsRecorded
    ∧ State.reset.linesSound ∧ State.reset.storeSound ∧ State.reset.ordersSound ∧ State.reset.agesSound
    ∧ State.reset.zonesInRange
end

