-- ==== Sys2Proof/Laws/Clock.lean ====
section
/-! SUPPORT. A second of uptime and the due expiries taken before it: what each does where nothing is due. -/

namespace Sys2Proof.Machine

open Sys2Proof

/-- A period start that is not due is not made (R23). -/
theorem State.startDuePeriod_of_not_due {s : State} (h : s.scan.due = false) : s.startDuePeriod = s := by
  simp [State.startDuePeriod, h]

/-- A dwell whose expiry is not due is left alone (R102). -/
theorem State.takeDueDwell_of_not_due {s : State} {z : ZoneId} (h : (s.zone z).dwell.expired = none) :
    s.takeDueDwell z = s := by
  simp [State.takeDueDwell, h]

/-- A reading whose age expiry is not due is left alone (R51). -/
theorem State.takeDueAge_of_not_due {s : State} {a : Addr} (h : s.ageDue a = false) : s.takeDueAge a = s := by
  simp [State.takeDueAge, h]

/-- A fold of operations that all leave s alone leaves s alone. -/
theorem State.foldl_eq_self {α : Type} (f : State → α → State) {s : State} (h : ∀ a, f s a = s) (xs : List α) :
    xs.foldl f s = s := by
  induction xs with
  | nil => rfl
  | cons x xs ih => rw [List.foldl_cons, h, ih]

/-- With nothing due, no expiry is taken. -/
theorem State.takeDue_of_nothing_due {s : State} (hp : s.scan.due = false)
    (hd : ∀ z, (s.zone z).dwell.expired = none) (ha : ∀ a, s.ageDue a = false) : s.takeDue = s := by
  unfold State.takeDue
  rw [State.startDuePeriod_of_not_due hp,
    State.foldl_eq_self State.takeDueDwell (fun z => State.takeDueDwell_of_not_due (hd z)),
    State.foldl_eq_self State.takeDueAge (fun a => State.takeDueAge_of_not_due (ha a))]

/-- A further second never takes a due expiry back (R101). -/
theorem Dwell.expired_tick (d : Dwell) (h : d.expired.isSome = true) : d.tick.expired = d.expired := by
  rcases d with _ | ⟨n, _ | _⟩ | ⟨n, _ | _⟩ <;> first | (cases h; done) | (unfold Dwell.tick; dsimp only; split <;> rfl)

end Sys2Proof.Machine
end

