-- ==== Sys2Proof/Laws/State.lean ====
section
/-! SUPPORT. What each record update leaves in each field (one lemma per field per update), and reading a record after
one has been replaced. -/

namespace Sys2Proof

/-! ### Tables and addresses -/

@[simp] theorem Table.get_set_same {α : Type} {n : Nat} (t : Table α n) (i : Fin n) (x : α) :
    (t.set i x).get i = x := by
  simp [Table.get, Table.set]

theorem Table.get_set_of_ne {α : Type} {n : Nat} (t : Table α n) {i j : Fin n} (x : α) (h : j ≠ i) :
    (t.set i x).get j = t.get j := by
  simp only [Table.get, Table.set]
  exact List.getElem_set_ne (fun h' => h (Fin.ext h'.symm)) _

theorem Table.get_set {α : Type} {n : Nat} (t : Table α n) (i j : Fin n) (x : α) :
    (t.set i x).get j = if j = i then x else t.get j := by
  split
  · next h => subst h; exact Table.get_set_same t j x
  · next h => exact Table.get_set_of_ne t x h

@[simp] theorem Table.get_map {α β : Type} {n : Nat} (t : Table α n) (f : α → β) (i : Fin n) :
    (t.map f).get i = f (t.get i) := by
  simp [Table.get, Table.map]

@[simp] theorem Table.get_all {α : Type} (n : Nat) (x : α) (i : Fin n) : (Table.all n x).get i = x := by
  simp [Table.get, Table.all]

@[simp] theorem Table.get_ofFn {α : Type} {n : Nat} (f : Fin n → α) (i : Fin n) : (Table.ofFn f).get i = f i := by
  simp [Table.get, Table.ofFn]

/-- Two tables that agree at every number are equal. -/
theorem Table.ext_get {α : Type} {n : Nat} {t u : Table α n} (h : ∀ i, t.get i = u.get i) : t = u := by
  obtain ⟨xs, hx⟩ := t
  obtain ⟨ys, hy⟩ := u
  congr 1
  refine List.ext_getElem (hx.trans hy.symm) fun i h1 h2 => ?_
  exact h ⟨i, hx ▸ h1⟩

@[simp] theorem Table.set_get_self {α : Type} {n : Nat} (t : Table α n) (i : Fin n) : t.set i (t.get i) = t := by
  refine Table.ext_get fun j => ?_
  rw [Table.get_set]
  split
  · next h => rw [h]
  · rfl

theorem Addr.idx_inj {a b : Addr} (h : a.idx = b.idx) : a = b := by
  obtain ⟨t, d⟩ := a
  obtain ⟨u, e⟩ := b
  have h' := congrArg Fin.val h
  simp only [Addr.idx] at h'
  have ht : t = u := Fin.ext (by omega)
  subst ht
  have hd : d = e := Fin.ext (by omega)
  rw [hd]

theorem mem_allAddrs (a : Addr) : a ∈ allAddrs := by
  obtain ⟨t, d⟩ := a
  simp [allAddrs]

end Sys2Proof

namespace Sys2Proof.Machine

open Sys2Proof

/-! ### Each field after each update -/

variable (s : State)

@[simp] theorem State.setProbe_pending (a : Addr) (r : ProbeRecord) : (s.setProbe a r).pending = s.pending := rfl
@[simp] theorem State.setProbe_power (a : Addr) (r : ProbeRecord) : (s.setProbe a r).power = s.power := rfl
@[simp] theorem State.setProbe_uptime (a : Addr) (r : ProbeRecord) : (s.setProbe a r).uptime = s.uptime := rfl
@[simp] theorem State.setProbe_defaulted (a : Addr) (r : ProbeRecord) :
    (s.setProbe a r).defaulted = s.defaulted := rfl
@[simp] theorem State.setProbe_store (a : Addr) (r : ProbeRecord) : (s.setProbe a r).store = s.store := rfl
@[simp] theorem State.setProbe_port (a : Addr) (r : ProbeRecord) : (s.setProbe a r).port = s.port := rfl
@[simp] theorem State.setProbe_engines (a : Addr) (r : ProbeRecord) : (s.setProbe a r).engines = s.engines := rfl
@[simp] theorem State.setProbe_scan (a : Addr) (r : ProbeRecord) : (s.setProbe a r).scan = s.scan := rfl
@[simp] theorem State.setProbe_slots (a : Addr) (r : ProbeRecord) : (s.setProbe a r).slots = s.slots := rfl
@[simp] theorem State.setProbe_probes (a : Addr) (r : ProbeRecord) :
    (s.setProbe a r).probes = s.probes.set a.idx r := rfl
@[simp] theorem State.setProbe_map (a : Addr) (r : ProbeRecord) : (s.setProbe a r).map = s.map := rfl
@[simp] theorem State.setProbe_zones (a : Addr) (r : ProbeRecord) : (s.setProbe a r).zones = s.zones := rfl
@[simp] theorem State.setProbe_leak (a : Addr) (r : ProbeRecord) : (s.setProbe a r).leak = s.leak := rfl
@[simp] theorem State.setProbe_events (a : Addr) (r : ProbeRecord) : (s.setProbe a r).events = s.events := rfl
@[simp] theorem State.setProbe_lines (a : Addr) (r : ProbeRecord) : (s.setProbe a r).lines = s.lines := rfl

@[simp] theorem State.setZone_pending (z : ZoneId) (r : ZoneRecord) : (s.setZone z r).pending = s.pending := rfl
@[simp] theorem State.setZone_power (z : ZoneId) (r : ZoneRecord) : (s.setZone z r).power = s.power := rfl
@[simp] theorem State.setZone_uptime (z : ZoneId) (r : ZoneRecord) : (s.setZone z r).uptime = s.uptime := rfl
@[simp] theorem State.setZone_defaulted (z : ZoneId) (r : ZoneRecord) : (s.setZone z r).defaulted = s.defaulted := rfl
@[simp] theorem State.setZone_store (z : ZoneId) (r : ZoneRecord) : (s.setZone z r).store = s.store := rfl
@[simp] theorem State.setZone_port (z : ZoneId) (r : ZoneRecord) : (s.setZone z r).port = s.port := rfl
@[simp] theorem State.setZone_engines (z : ZoneId) (r : ZoneRecord) : (s.setZone z r).engines = s.engines := rfl
@[simp] theorem State.setZone_scan (z : ZoneId) (r : ZoneRecord) : (s.setZone z r).scan = s.scan := rfl
@[simp] theorem State.setZone_slots (z : ZoneId) (r : ZoneRecord) : (s.setZone z r).slots = s.slots := rfl
@[simp] theorem State.setZone_probes (z : ZoneId) (r : ZoneRecord) : (s.setZone z r).probes = s.probes := rfl
@[simp] theorem State.setZone_map (z : ZoneId) (r : ZoneRecord) : (s.setZone z r).map = s.map := rfl
@[simp] theorem State.setZone_zones (z : ZoneId) (r : ZoneRecord) : (s.setZone z r).zones = s.zones.set z r := rfl
@[simp] theorem State.setZone_leak (z : ZoneId) (r : ZoneRecord) : (s.setZone z r).leak = s.leak := rfl
@[simp] theorem State.setZone_events (z : ZoneId) (r : ZoneRecord) : (s.setZone z r).events = s.events := rfl
@[simp] theorem State.setZone_lines (z : ZoneId) (r : ZoneRecord) : (s.setZone z r).lines = s.lines := rfl

@[simp] theorem State.setEngine_pending (t : Trunk) (e : Engine) : (s.setEngine t e).pending = s.pending := rfl
@[simp] theorem State.setEngine_power (t : Trunk) (e : Engine) : (s.setEngine t e).power = s.power := rfl
@[simp] theorem State.setEngine_uptime (t : Trunk) (e : Engine) : (s.setEngine t e).uptime = s.uptime := rfl
@[simp] theorem State.setEngine_defaulted (t : Trunk) (e : Engine) : (s.setEngine t e).defaulted = s.defaulted := rfl
@[simp] theorem State.setEngine_store (t : Trunk) (e : Engine) : (s.setEngine t e).store = s.store := rfl
@[simp] theorem State.setEngine_port (t : Trunk) (e : Engine) : (s.setEngine t e).port = s.port := rfl
@[simp] theorem State.setEngine_engines (t : Trunk) (e : Engine) :
    (s.setEngine t e).engines = s.engines.set t e := rfl
@[simp] theorem State.setEngine_scan (t : Trunk) (e : Engine) : (s.setEngine t e).scan = s.scan := rfl
@[simp] theorem State.setEngine_slots (t : Trunk) (e : Engine) : (s.setEngine t e).slots = s.slots := rfl
@[simp] theorem State.setEngine_probes (t : Trunk) (e : Engine) : (s.setEngine t e).probes = s.probes := rfl
@[simp] theorem State.setEngine_map (t : Trunk) (e : Engine) : (s.setEngine t e).map = s.map := rfl
@[simp] theorem State.setEngine_zones (t : Trunk) (e : Engine) : (s.setEngine t e).zones = s.zones := rfl
@[simp] theorem State.setEngine_leak (t : Trunk) (e : Engine) : (s.setEngine t e).leak = s.leak := rfl
@[simp] theorem State.setEngine_events (t : Trunk) (e : Engine) : (s.setEngine t e).events = s.events := rfl
@[simp] theorem State.setEngine_lines (t : Trunk) (e : Engine) : (s.setEngine t e).lines = s.lines := rfl

@[simp] theorem State.setLeak_pending (l : LeakUnit) : (s.setLeak l).pending = s.pending := rfl
@[simp] theorem State.setLeak_power (l : LeakUnit) : (s.setLeak l).power = s.power := rfl
@[simp] theorem State.setLeak_uptime (l : LeakUnit) : (s.setLeak l).uptime = s.uptime := rfl
@[simp] theorem State.setLeak_defaulted (l : LeakUnit) : (s.setLeak l).defaulted = s.defaulted := rfl
@[simp] theorem State.setLeak_store (l : LeakUnit) : (s.setLeak l).store = s.store := rfl
@[simp] theorem State.setLeak_port (l : LeakUnit) : (s.setLeak l).port = s.port := rfl
@[simp] theorem State.setLeak_engines (l : LeakUnit) : (s.setLeak l).engines = s.engines := rfl
@[simp] theorem State.setLeak_scan (l : LeakUnit) : (s.setLeak l).scan = s.scan := rfl
@[simp] theorem State.setLeak_slots (l : LeakUnit) : (s.setLeak l).slots = s.slots := rfl
@[simp] theorem State.setLeak_probes (l : LeakUnit) : (s.setLeak l).probes = s.probes := rfl
@[simp] theorem State.setLeak_map (l : LeakUnit) : (s.setLeak l).map = s.map := rfl
@[simp] theorem State.setLeak_zones (l : LeakUnit) : (s.setLeak l).zones = s.zones := rfl
@[simp] theorem State.setLeak_leak (l : LeakUnit) : (s.setLeak l).leak = l := rfl
@[simp] theorem State.setLeak_events (l : LeakUnit) : (s.setLeak l).events = s.events := rfl
@[simp] theorem State.setLeak_lines (l : LeakUnit) : (s.setLeak l).lines = s.lines := rfl

@[simp] theorem State.setChannel_pending (c : ChannelId) (r : Channel) : (s.setChannel c r).pending = s.pending := rfl
@[simp] theorem State.setChannel_power (c : ChannelId) (r : Channel) : (s.setChannel c r).power = s.power := rfl
@[simp] theorem State.setChannel_uptime (c : ChannelId) (r : Channel) : (s.setChannel c r).uptime = s.uptime := rfl
@[simp] theorem State.setChannel_defaulted (c : ChannelId) (r : Channel) :
    (s.setChannel c r).defaulted = s.defaulted := rfl
@[simp] theorem State.setChannel_store (c : ChannelId) (r : Channel) : (s.setChannel c r).store = s.store := rfl
@[simp] theorem State.setChannel_port (c : ChannelId) (r : Channel) : (s.setChannel c r).port = s.port := rfl
@[simp] theorem State.setChannel_engines (c : ChannelId) (r : Channel) : (s.setChannel c r).engines = s.engines := rfl
@[simp] theorem State.setChannel_scan (c : ChannelId) (r : Channel) : (s.setChannel c r).scan = s.scan := rfl
@[simp] theorem State.setChannel_slots (c : ChannelId) (r : Channel) : (s.setChannel c r).slots = s.slots := rfl
@[simp] theorem State.setChannel_probes (c : ChannelId) (r : Channel) : (s.setChannel c r).probes = s.probes := rfl
@[simp] theorem State.setChannel_map (c : ChannelId) (r : Channel) : (s.setChannel c r).map = s.map := rfl
@[simp] theorem State.setChannel_zones (c : ChannelId) (r : Channel) : (s.setChannel c r).zones = s.zones := rfl
@[simp] theorem State.setChannel_leak (c : ChannelId) (r : Channel) :
    (s.setChannel c r).leak = { s.leak with channels := s.leak.channels.set c r } := rfl
@[simp] theorem State.setChannel_events (c : ChannelId) (r : Channel) : (s.setChannel c r).events = s.events := rfl
@[simp] theorem State.setChannel_lines (c : ChannelId) (r : Channel) : (s.setChannel c r).lines = s.lines := rfl

@[simp] theorem State.setOutLine_pending (l : LineId) (r : LineRecord) : (s.setOutLine l r).pending = s.pending := rfl
@[simp] theorem State.setOutLine_power (l : LineId) (r : LineRecord) : (s.setOutLine l r).power = s.power := rfl
@[simp] theorem State.setOutLine_uptime (l : LineId) (r : LineRecord) : (s.setOutLine l r).uptime = s.uptime := rfl
@[simp] theorem State.setOutLine_defaulted (l : LineId) (r : LineRecord) :
    (s.setOutLine l r).defaulted = s.defaulted := rfl
@[simp] theorem State.setOutLine_store (l : LineId) (r : LineRecord) : (s.setOutLine l r).store = s.store := rfl
@[simp] theorem State.setOutLine_port (l : LineId) (r : LineRecord) : (s.setOutLine l r).port = s.port := rfl
@[simp] theorem State.setOutLine_engines (l : LineId) (r : LineRecord) : (s.setOutLine l r).engines = s.engines := rfl
@[simp] theorem State.setOutLine_scan (l : LineId) (r : LineRecord) : (s.setOutLine l r).scan = s.scan := rfl
@[simp] theorem State.setOutLine_slots (l : LineId) (r : LineRecord) : (s.setOutLine l r).slots = s.slots := rfl
@[simp] theorem State.setOutLine_probes (l : LineId) (r : LineRecord) : (s.setOutLine l r).probes = s.probes := rfl
@[simp] theorem State.setOutLine_map (l : LineId) (r : LineRecord) : (s.setOutLine l r).map = s.map := rfl
@[simp] theorem State.setOutLine_zones (l : LineId) (r : LineRecord) : (s.setOutLine l r).zones = s.zones := rfl
@[simp] theorem State.setOutLine_leak (l : LineId) (r : LineRecord) : (s.setOutLine l r).leak = s.leak := rfl
@[simp] theorem State.setOutLine_events (l : LineId) (r : LineRecord) : (s.setOutLine l r).events = s.events := rfl
@[simp] theorem State.setOutLine_lines (l : LineId) (r : LineRecord) :
    (s.setOutLine l r).lines = s.lines.set l r := rfl

@[simp] theorem State.setSlot_pending (k : SlotId) (o : OrderSlot) : (s.setSlot k o).pending = s.pending := rfl
@[simp] theorem State.setSlot_power (k : SlotId) (o : OrderSlot) : (s.setSlot k o).power = s.power := rfl
@[simp] theorem State.setSlot_uptime (k : SlotId) (o : OrderSlot) : (s.setSlot k o).uptime = s.uptime := rfl
@[simp] theorem State.setSlot_defaulted (k : SlotId) (o : OrderSlot) : (s.setSlot k o).defaulted = s.defaulted := rfl
@[simp] theorem State.setSlot_store (k : SlotId) (o : OrderSlot) : (s.setSlot k o).store = s.store := rfl
@[simp] theorem State.setSlot_port (k : SlotId) (o : OrderSlot) : (s.setSlot k o).port = s.port := rfl
@[simp] theorem State.setSlot_engines (k : SlotId) (o : OrderSlot) : (s.setSlot k o).engines = s.engines := rfl
@[simp] theorem State.setSlot_scan (k : SlotId) (o : OrderSlot) : (s.setSlot k o).scan = s.scan := rfl
@[simp] theorem State.setSlot_slots (k : SlotId) (o : OrderSlot) : (s.setSlot k o).slots = s.slots.set k o := rfl
@[simp] theorem State.setSlot_probes (k : SlotId) (o : OrderSlot) : (s.setSlot k o).probes = s.probes := rfl
@[simp] theorem State.setSlot_map (k : SlotId) (o : OrderSlot) : (s.setSlot k o).map = s.map := rfl
@[simp] theorem State.setSlot_zones (k : SlotId) (o : OrderSlot) : (s.setSlot k o).zones = s.zones := rfl
@[simp] theorem State.setSlot_leak (k : SlotId) (o : OrderSlot) : (s.setSlot k o).leak = s.leak := rfl
@[simp] theorem State.setSlot_events (k : SlotId) (o : OrderSlot) : (s.setSlot k o).events = s.events := rfl
@[simp] theorem State.setSlot_lines (k : SlotId) (o : OrderSlot) : (s.setSlot k o).lines = s.lines := rfl

@[simp] theorem State.setEvents_pending (e : EventList) : (s.setEvents e).pending = s.pending := rfl
@[simp] theorem State.setEvents_power (e : EventList) : (s.setEvents e).power = s.power := rfl
@[simp] theorem State.setEvents_uptime (e : EventList) : (s.setEvents e).uptime = s.uptime := rfl
@[simp] theorem State.setEvents_defaulted (e : EventList) : (s.setEvents e).defaulted = s.defaulted := rfl
@[simp] theorem State.setEvents_store (e : EventList) : (s.setEvents e).store = s.store := rfl
@[simp] theorem State.setEvents_port (e : EventList) : (s.setEvents e).port = s.port := rfl
@[simp] theorem State.setEvents_engines (e : EventList) : (s.setEvents e).engines = s.engines := rfl
@[simp] theorem State.setEvents_scan (e : EventList) : (s.setEvents e).scan = s.scan := rfl
@[simp] theorem State.setEvents_slots (e : EventList) : (s.setEvents e).slots = s.slots := rfl
@[simp] theorem State.setEvents_probes (e : EventList) : (s.setEvents e).probes = s.probes := rfl
@[simp] theorem State.setEvents_map (e : EventList) : (s.setEvents e).map = s.map := rfl
@[simp] theorem State.setEvents_zones (e : EventList) : (s.setEvents e).zones = s.zones := rfl
@[simp] theorem State.setEvents_leak (e : EventList) : (s.setEvents e).leak = s.leak := rfl
@[simp] theorem State.setEvents_events (e : EventList) : (s.setEvents e).events = e := rfl
@[simp] theorem State.setEvents_lines (e : EventList) : (s.setEvents e).lines = s.lines := rfl

@[simp] theorem State.setPlace_pending (p : Place) (r : PlaceRecord) : (s.setPlace p r).pending = s.pending := rfl
@[simp] theorem State.setPlace_power (p : Place) (r : PlaceRecord) : (s.setPlace p r).power = s.power := rfl
@[simp] theorem State.setPlace_uptime (p : Place) (r : PlaceRecord) : (s.setPlace p r).uptime = s.uptime := rfl
@[simp] theorem State.setPlace_defaulted (p : Place) (r : PlaceRecord) :
    (s.setPlace p r).defaulted = s.defaulted := rfl
@[simp] theorem State.setPlace_store (p : Place) (r : PlaceRecord) : (s.setPlace p r).store = s.store := rfl
@[simp] theorem State.setPlace_port (p : Place) (r : PlaceRecord) : (s.setPlace p r).port = s.port := rfl
@[simp] theorem State.setPlace_engines (p : Place) (r : PlaceRecord) : (s.setPlace p r).engines = s.engines := rfl
@[simp] theorem State.setPlace_scan (p : Place) (r : PlaceRecord) : (s.setPlace p r).scan = s.scan := rfl
@[simp] theorem State.setPlace_slots (p : Place) (r : PlaceRecord) : (s.setPlace p r).slots = s.slots := rfl
@[simp] theorem State.setPlace_probes (p : Place) (r : PlaceRecord) : (s.setPlace p r).probes = s.probes := rfl
@[simp] theorem State.setPlace_map (p : Place) (r : PlaceRecord) : (s.setPlace p r).map = s.map := rfl
@[simp] theorem State.setPlace_zones (p : Place) (r : PlaceRecord) : (s.setPlace p r).zones = s.zones := rfl
@[simp] theorem State.setPlace_leak (p : Place) (r : PlaceRecord) : (s.setPlace p r).leak = s.leak := rfl
@[simp] theorem State.setPlace_events (p : Place) (r : PlaceRecord) :
    (s.setPlace p r).events = { s.events with places := s.events.places.set p r } := rfl
@[simp] theorem State.setPlace_lines (p : Place) (r : PlaceRecord) : (s.setPlace p r).lines = s.lines := rfl

@[simp] theorem State.setPendingKind_pending (z : ZoneId) (k : Option EventKind) :
    (s.setPendingKind z k).pending = s.pending := rfl
@[simp] theorem State.setPendingKind_power (z : ZoneId) (k : Option EventKind) :
    (s.setPendingKind z k).power = s.power := rfl
@[simp] theorem State.setPendingKind_uptime (z : ZoneId) (k : Option EventKind) :
    (s.setPendingKind z k).uptime = s.uptime := rfl
@[simp] theorem State.setPendingKind_defaulted (z : ZoneId) (k : Option EventKind) :
    (s.setPendingKind z k).defaulted = s.defaulted := rfl
@[simp] theorem State.setPendingKind_store (z : ZoneId) (k : Option EventKind) :
    (s.setPendingKind z k).store = s.store := rfl
@[simp] theorem State.setPendingKind_port (z : ZoneId) (k : Option EventKind) :
    (s.setPendingKind z k).port = s.port := rfl
@[simp] theorem State.setPendingKind_engines (z : ZoneId) (k : Option EventKind) :
    (s.setPendingKind z k).engines = s.engines := rfl
@[simp] theorem State.setPendingKind_scan (z : ZoneId) (k : Option EventKind) :
    (s.setPendingKind z k).scan = s.scan := rfl
@[simp] theorem State.setPendingKind_slots (z : ZoneId) (k : Option EventKind) :
    (s.setPendingKind z k).slots = s.slots := rfl
@[simp] theorem State.setPendingKind_probes (z : ZoneId) (k : Option EventKind) :
    (s.setPendingKind z k).probes = s.probes := rfl
@[simp] theorem State.setPendingKind_map (z : ZoneId) (k : Option EventKind) :
    (s.setPendingKind z k).map = s.map := rfl
@[simp] theorem State.setPendingKind_zones (z : ZoneId) (k : Option EventKind) :
    (s.setPendingKind z k).zones = s.zones := rfl
@[simp] theorem State.setPendingKind_leak (z : ZoneId) (k : Option EventKind) :
    (s.setPendingKind z k).leak = s.leak := rfl
@[simp] theorem State.setPendingKind_events (z : ZoneId) (k : Option EventKind) :
    (s.setPendingKind z k).events = { s.events with pending := s.events.pending.set z k } := rfl
@[simp] theorem State.setPendingKind_lines (z : ZoneId) (k : Option EventKind) :
    (s.setPendingKind z k).lines = s.lines := rfl

@[simp] theorem State.setPort_pending (p : Port) : (s.setPort p).pending = s.pending := rfl
@[simp] theorem State.setPort_power (p : Port) : (s.setPort p).power = s.power := rfl
@[simp] theorem State.setPort_uptime (p : Port) : (s.setPort p).uptime = s.uptime := rfl
@[simp] theorem State.setPort_defaulted (p : Port) : (s.setPort p).defaulted = s.defaulted := rfl
@[simp] theorem State.setPort_store (p : Port) : (s.setPort p).store = s.store := rfl
@[simp] theorem State.setPort_port (p : Port) : (s.setPort p).port = p := rfl
@[simp] theorem State.setPort_engines (p : Port) : (s.setPort p).engines = s.engines := rfl
@[simp] theorem State.setPort_scan (p : Port) : (s.setPort p).scan = s.scan := rfl
@[simp] theorem State.setPort_slots (p : Port) : (s.setPort p).slots = s.slots := rfl
@[simp] theorem State.setPort_probes (p : Port) : (s.setPort p).probes = s.probes := rfl
@[simp] theorem State.setPort_map (p : Port) : (s.setPort p).map = s.map := rfl
@[simp] theorem State.setPort_zones (p : Port) : (s.setPort p).zones = s.zones := rfl
@[simp] theorem State.setPort_leak (p : Port) : (s.setPort p).leak = s.leak := rfl
@[simp] theorem State.setPort_events (p : Port) : (s.setPort p).events = s.events := rfl
@[simp] theorem State.setPort_lines (p : Port) : (s.setPort p).lines = s.lines := rfl

@[simp] theorem State.setScan_pending (t : ScanTimer) : (s.setScan t).pending = s.pending := rfl
@[simp] theorem State.setScan_power (t : ScanTimer) : (s.setScan t).power = s.power := rfl
@[simp] theorem State.setScan_uptime (t : ScanTimer) : (s.setScan t).uptime = s.uptime := rfl
@[simp] theorem State.setScan_defaulted (t : ScanTimer) : (s.setScan t).defaulted = s.defaulted := rfl
@[simp] theorem State.setScan_store (t : ScanTimer) : (s.setScan t).store = s.store := rfl
@[simp] theorem State.setScan_port (t : ScanTimer) : (s.setScan t).port = s.port := rfl
@[simp] theorem State.setScan_engines (t : ScanTimer) : (s.setScan t).engines = s.engines := rfl
@[simp] theorem State.setScan_scan (t : ScanTimer) : (s.setScan t).scan = t := rfl
@[simp] theorem State.setScan_slots (t : ScanTimer) : (s.setScan t).slots = s.slots := rfl
@[simp] theorem State.setScan_probes (t : ScanTimer) : (s.setScan t).probes = s.probes := rfl
@[simp] theorem State.setScan_map (t : ScanTimer) : (s.setScan t).map = s.map := rfl
@[simp] theorem State.setScan_zones (t : ScanTimer) : (s.setScan t).zones = s.zones := rfl
@[simp] theorem State.setScan_leak (t : ScanTimer) : (s.setScan t).leak = s.leak := rfl
@[simp] theorem State.setScan_events (t : ScanTimer) : (s.setScan t).events = s.events := rfl
@[simp] theorem State.setScan_lines (t : ScanTimer) : (s.setScan t).lines = s.lines := rfl

@[simp] theorem State.setMap_pending (m : ZoneMap) : (s.setMap m).pending = s.pending := rfl
@[simp] theorem State.setMap_power (m : ZoneMap) : (s.setMap m).power = s.power := rfl
@[simp] theorem State.setMap_uptime (m : ZoneMap) : (s.setMap m).uptime = s.uptime := rfl
@[simp] theorem State.setMap_defaulted (m : ZoneMap) : (s.setMap m).defaulted = s.defaulted := rfl
@[simp] theorem State.setMap_store (m : ZoneMap) : (s.setMap m).store = s.store := rfl
@[simp] theorem State.setMap_port (m : ZoneMap) : (s.setMap m).port = s.port := rfl
@[simp] theorem State.setMap_engines (m : ZoneMap) : (s.setMap m).engines = s.engines := rfl
@[simp] theorem State.setMap_scan (m : ZoneMap) : (s.setMap m).scan = s.scan := rfl
@[simp] theorem State.setMap_slots (m : ZoneMap) : (s.setMap m).slots = s.slots := rfl
@[simp] theorem State.setMap_probes (m : ZoneMap) : (s.setMap m).probes = s.probes := rfl
@[simp] theorem State.setMap_map (m : ZoneMap) : (s.setMap m).map = m := rfl
@[simp] theorem State.setMap_zones (m : ZoneMap) : (s.setMap m).zones = s.zones := rfl
@[simp] theorem State.setMap_leak (m : ZoneMap) : (s.setMap m).leak = s.leak := rfl
@[simp] theorem State.setMap_events (m : ZoneMap) : (s.setMap m).events = s.events := rfl
@[simp] theorem State.setMap_lines (m : ZoneMap) : (s.setMap m).lines = s.lines := rfl

/-! ### Reading a record after an update of another kind -/

@[simp] theorem State.setZone_probe (z : ZoneId) (r : ZoneRecord) (b : Addr) :
    (s.setZone z r).probe b = s.probe b := rfl
@[simp] theorem State.setEngine_probe (t : Trunk) (e : Engine) (b : Addr) :
    (s.setEngine t e).probe b = s.probe b := rfl
@[simp] theorem State.setLeak_probe (l : LeakUnit) (b : Addr) : (s.setLeak l).probe b = s.probe b := rfl
@[simp] theorem State.setChannel_probe (c : ChannelId) (r : Channel) (b : Addr) :
    (s.setChannel c r).probe b = s.probe b := rfl
@[simp] theorem State.setOutLine_probe (l : LineId) (r : LineRecord) (b : Addr) :
    (s.setOutLine l r).probe b = s.probe b := rfl
@[simp] theorem State.setSlot_probe (k : SlotId) (o : OrderSlot) (b : Addr) :
    (s.setSlot k o).probe b = s.probe b := rfl
@[simp] theorem State.setEvents_probe (e : EventList) (b : Addr) : (s.setEvents e).probe b = s.probe b := rfl
@[simp] theorem State.setPlace_probe (p : Place) (r : PlaceRecord) (b : Addr) :
    (s.setPlace p r).probe b = s.probe b := rfl
@[simp] theorem State.setPendingKind_probe (z : ZoneId) (k : Option EventKind) (b : Addr) :
    (s.setPendingKind z k).probe b = s.probe b := rfl
@[simp] theorem State.setPort_probe (p : Port) (b : Addr) : (s.setPort p).probe b = s.probe b := rfl
@[simp] theorem State.setScan_probe (t : ScanTimer) (b : Addr) : (s.setScan t).probe b = s.probe b := rfl
@[simp] theorem State.setMap_probe (m : ZoneMap) (b : Addr) : (s.setMap m).probe b = s.probe b := rfl

@[simp] theorem State.setProbe_zone (a : Addr) (r : ProbeRecord) (y : ZoneId) :
    (s.setProbe a r).zone y = s.zone y := rfl
@[simp] theorem State.setEngine_zone (t : Trunk) (e : Engine) (y : ZoneId) :
    (s.setEngine t e).zone y = s.zone y := rfl
@[simp] theorem State.setLeak_zone (l : LeakUnit) (y : ZoneId) : (s.setLeak l).zone y = s.zone y := rfl
@[simp] theorem State.setChannel_zone (c : ChannelId) (r : Channel) (y : ZoneId) :
    (s.setChannel c r).zone y = s.zone y := rfl
@[simp] theorem State.setOutLine_zone (l : LineId) (r : LineRecord) (y : ZoneId) :
    (s.setOutLine l r).zone y = s.zone y := rfl
@[simp] theorem State.setSlot_zone (k : SlotId) (o : OrderSlot) (y : ZoneId) :
    (s.setSlot k o).zone y = s.zone y := rfl
@[simp] theorem State.setEvents_zone (e : EventList) (y : ZoneId) : (s.setEvents e).zone y = s.zone y := rfl
@[simp] theorem State.setPlace_zone (p : Place) (r : PlaceRecord) (y : ZoneId) :
    (s.setPlace p r).zone y = s.zone y := rfl
@[simp] theorem State.setPendingKind_zone (z : ZoneId) (k : Option EventKind) (y : ZoneId) :
    (s.setPendingKind z k).zone y = s.zone y := rfl
@[simp] theorem State.setPort_zone (p : Port) (y : ZoneId) : (s.setPort p).zone y = s.zone y := rfl
@[simp] theorem State.setScan_zone (t : ScanTimer) (y : ZoneId) : (s.setScan t).zone y = s.zone y := rfl
@[simp] theorem State.setMap_zone (m : ZoneMap) (y : ZoneId) : (s.setMap m).zone y = s.zone y := rfl

@[simp] theorem State.setProbe_engine (a : Addr) (r : ProbeRecord) (u : Trunk) :
    (s.setProbe a r).engine u = s.engine u := rfl
@[simp] theorem State.setZone_engine (z : ZoneId) (r : ZoneRecord) (u : Trunk) :
    (s.setZone z r).engine u = s.engine u := rfl
@[simp] theorem State.setLeak_engine (l : LeakUnit) (u : Trunk) : (s.setLeak l).engine u = s.engine u := rfl
@[simp] theorem State.setChannel_engine (c : ChannelId) (r : Channel) (u : Trunk) :
    (s.setChannel c r).engine u = s.engine u := rfl
@[simp] theorem State.setOutLine_engine (l : LineId) (r : LineRecord) (u : Trunk) :
    (s.setOutLine l r).engine u = s.engine u := rfl
@[simp] theorem State.setSlot_engine (k : SlotId) (o : OrderSlot) (u : Trunk) :
    (s.setSlot k o).engine u = s.engine u := rfl
@[simp] theorem State.setEvents_engine (e : EventList) (u : Trunk) : (s.setEvents e).engine u = s.engine u := rfl
@[simp] theorem State.setPlace_engine (p : Place) (r : PlaceRecord) (u : Trunk) :
    (s.setPlace p r).engine u = s.engine u := rfl
@[simp] theorem State.setPendingKind_engine (z : ZoneId) (k : Option EventKind) (u : Trunk) :
    (s.setPendingKind z k).engine u = s.engine u := rfl
@[simp] theorem State.setPort_engine (p : Port) (u : Trunk) : (s.setPort p).engine u = s.engine u := rfl
@[simp] theorem State.setScan_engine (t : ScanTimer) (u : Trunk) : (s.setScan t).engine u = s.engine u := rfl
@[simp] theorem State.setMap_engine (m : ZoneMap) (u : Trunk) : (s.setMap m).engine u = s.engine u := rfl

@[simp] theorem State.setProbe_channel (a : Addr) (r : ProbeRecord) (d : ChannelId) :
    (s.setProbe a r).channel d = s.channel d := rfl
@[simp] theorem State.setZone_channel (z : ZoneId) (r : ZoneRecord) (d : ChannelId) :
    (s.setZone z r).channel d = s.channel d := rfl
@[simp] theorem State.setEngine_channel (t : Trunk) (e : Engine) (d : ChannelId) :
    (s.setEngine t e).channel d = s.channel d := rfl
@[simp] theorem State.setOutLine_channel (l : LineId) (r : LineRecord) (d : ChannelId) :
    (s.setOutLine l r).channel d = s.channel d := rfl
@[simp] theorem State.setSlot_channel (k : SlotId) (o : OrderSlot) (d : ChannelId) :
    (s.setSlot k o).channel d = s.channel d := rfl
@[simp] theorem State.setEvents_channel (e : EventList) (d : ChannelId) :
    (s.setEvents e).channel d = s.channel d := rfl
@[simp] theorem State.setPlace_channel (p : Place) (r : PlaceRecord) (d : ChannelId) :
    (s.setPlace p r).channel d = s.channel d := rfl
@[simp] theorem State.setPendingKind_channel (z : ZoneId) (k : Option EventKind) (d : ChannelId) :
    (s.setPendingKind z k).channel d = s.channel d := rfl
@[simp] theorem State.setPort_channel (p : Port) (d : ChannelId) : (s.setPort p).channel d = s.channel d := rfl
@[simp] theorem State.setScan_channel (t : ScanTimer) (d : ChannelId) : (s.setScan t).channel d = s.channel d := rfl
@[simp] theorem State.setMap_channel (m : ZoneMap) (d : ChannelId) : (s.setMap m).channel d = s.channel d := rfl

@[simp] theorem State.setProbe_outLine (a : Addr) (r : ProbeRecord) (i : LineId) :
    (s.setProbe a r).outLine i = s.outLine i := rfl
@[simp] theorem State.setZone_outLine (z : ZoneId) (r : ZoneRecord) (i : LineId) :
    (s.setZone z r).outLine i = s.outLine i := rfl
@[simp] theorem State.setEngine_outLine (t : Trunk) (e : Engine) (i : LineId) :
    (s.setEngine t e).outLine i = s.outLine i := rfl
@[simp] theorem State.setLeak_outLine (l : LeakUnit) (i : LineId) : (s.setLeak l).outLine i = s.outLine i := rfl
@[simp] theorem State.setChannel_outLine (c : ChannelId) (r : Channel) (i : LineId) :
    (s.setChannel c r).outLine i = s.outLine i := rfl
@[simp] theorem State.setSlot_outLine (k : SlotId) (o : OrderSlot) (i : LineId) :
    (s.setSlot k o).outLine i = s.outLine i := rfl
@[simp] theorem State.setEvents_outLine (e : EventList) (i : LineId) : (s.setEvents e).outLine i = s.outLine i := rfl
@[simp] theorem State.setPlace_outLine (p : Place) (r : PlaceRecord) (i : LineId) :
    (s.setPlace p r).outLine i = s.outLine i := rfl
@[simp] theorem State.setPendingKind_outLine (z : ZoneId) (k : Option EventKind) (i : LineId) :
    (s.setPendingKind z k).outLine i = s.outLine i := rfl
@[simp] theorem State.setPort_outLine (p : Port) (i : LineId) : (s.setPort p).outLine i = s.outLine i := rfl
@[simp] theorem State.setScan_outLine (t : ScanTimer) (i : LineId) : (s.setScan t).outLine i = s.outLine i := rfl
@[simp] theorem State.setMap_outLine (m : ZoneMap) (i : LineId) : (s.setMap m).outLine i = s.outLine i := rfl

@[simp] theorem State.setProbe_slot (a : Addr) (r : ProbeRecord) (j : SlotId) :
    (s.setProbe a r).slot j = s.slot j := rfl
@[simp] theorem State.setZone_slot (z : ZoneId) (r : ZoneRecord) (j : SlotId) :
    (s.setZone z r).slot j = s.slot j := rfl
@[simp] theorem State.setEngine_slot (t : Trunk) (e : Engine) (j : SlotId) :
    (s.setEngine t e).slot j = s.slot j := rfl
@[simp] theorem State.setLeak_slot (l : LeakUnit) (j : SlotId) : (s.setLeak l).slot j = s.slot j := rfl
@[simp] theorem State.setChannel_slot (c : ChannelId) (r : Channel) (j : SlotId) :
    (s.setChannel c r).slot j = s.slot j := rfl
@[simp] theorem State.setOutLine_slot (l : LineId) (r : LineRecord) (j : SlotId) :
    (s.setOutLine l r).slot j = s.slot j := rfl
@[simp] theorem State.setEvents_slot (e : EventList) (j : SlotId) : (s.setEvents e).slot j = s.slot j := rfl
@[simp] theorem State.setPlace_slot (p : Place) (r : PlaceRecord) (j : SlotId) :
    (s.setPlace p r).slot j = s.slot j := rfl
@[simp] theorem State.setPendingKind_slot (z : ZoneId) (k : Option EventKind) (j : SlotId) :
    (s.setPendingKind z k).slot j = s.slot j := rfl
@[simp] theorem State.setPort_slot (p : Port) (j : SlotId) : (s.setPort p).slot j = s.slot j := rfl
@[simp] theorem State.setScan_slot (t : ScanTimer) (j : SlotId) : (s.setScan t).slot j = s.slot j := rfl
@[simp] theorem State.setMap_slot (m : ZoneMap) (j : SlotId) : (s.setMap m).slot j = s.slot j := rfl

@[simp] theorem State.setProbe_place (a : Addr) (r : ProbeRecord) (q : Place) :
    (s.setProbe a r).place q = s.place q := rfl
@[simp] theorem State.setZone_place (z : ZoneId) (r : ZoneRecord) (q : Place) :
    (s.setZone z r).place q = s.place q := rfl
@[simp] theorem State.setEngine_place (t : Trunk) (e : Engine) (q : Place) :
    (s.setEngine t e).place q = s.place q := rfl
@[simp] theorem State.setLeak_place (l : LeakUnit) (q : Place) : (s.setLeak l).place q = s.place q := rfl
@[simp] theorem State.setChannel_place (c : ChannelId) (r : Channel) (q : Place) :
    (s.setChannel c r).place q = s.place q := rfl
@[simp] theorem State.setOutLine_place (l : LineId) (r : LineRecord) (q : Place) :
    (s.setOutLine l r).place q = s.place q := rfl
@[simp] theorem State.setSlot_place (k : SlotId) (o : OrderSlot) (q : Place) :
    (s.setSlot k o).place q = s.place q := rfl
@[simp] theorem State.setPort_place (p : Port) (q : Place) : (s.setPort p).place q = s.place q := rfl
@[simp] theorem State.setScan_place (t : ScanTimer) (q : Place) : (s.setScan t).place q = s.place q := rfl
@[simp] theorem State.setMap_place (m : ZoneMap) (q : Place) : (s.setMap m).place q = s.place q := rfl

@[simp] theorem State.setProbe_pendingKind (a : Addr) (r : ProbeRecord) (y : ZoneId) :
    (s.setProbe a r).pendingKind y = s.pendingKind y := rfl
@[simp] theorem State.setZone_pendingKind (z : ZoneId) (r : ZoneRecord) (y : ZoneId) :
    (s.setZone z r).pendingKind y = s.pendingKind y := rfl
@[simp] theorem State.setEngine_pendingKind (t : Trunk) (e : Engine) (y : ZoneId) :
    (s.setEngine t e).pendingKind y = s.pendingKind y := rfl
@[simp] theorem State.setLeak_pendingKind (l : LeakUnit) (y : ZoneId) :
    (s.setLeak l).pendingKind y = s.pendingKind y := rfl
@[simp] theorem State.setChannel_pendingKind (c : ChannelId) (r : Channel) (y : ZoneId) :
    (s.setChannel c r).pendingKind y = s.pendingKind y := rfl
@[simp] theorem State.setOutLine_pendingKind (l : LineId) (r : LineRecord) (y : ZoneId) :
    (s.setOutLine l r).pendingKind y = s.pendingKind y := rfl
@[simp] theorem State.setSlot_pendingKind (k : SlotId) (o : OrderSlot) (y : ZoneId) :
    (s.setSlot k o).pendingKind y = s.pendingKind y := rfl
@[simp] theorem State.setPort_pendingKind (p : Port) (y : ZoneId) :
    (s.setPort p).pendingKind y = s.pendingKind y := rfl
@[simp] theorem State.setScan_pendingKind (t : ScanTimer) (y : ZoneId) :
    (s.setScan t).pendingKind y = s.pendingKind y := rfl
@[simp] theorem State.setMap_pendingKind (m : ZoneMap) (y : ZoneId) :
    (s.setMap m).pendingKind y = s.pendingKind y := rfl

@[simp] theorem State.setProbe_recordAt (a : Addr) (r : ProbeRecord) (q : Place) :
    (s.setProbe a r).recordAt q = s.recordAt q := rfl
@[simp] theorem State.setZone_recordAt (z : ZoneId) (r : ZoneRecord) (q : Place) :
    (s.setZone z r).recordAt q = s.recordAt q := rfl
@[simp] theorem State.setEngine_recordAt (t : Trunk) (e : Engine) (q : Place) :
    (s.setEngine t e).recordAt q = s.recordAt q := rfl
@[simp] theorem State.setLeak_recordAt (l : LeakUnit) (q : Place) : (s.setLeak l).recordAt q = s.recordAt q := rfl
@[simp] theorem State.setChannel_recordAt (c : ChannelId) (r : Channel) (q : Place) :
    (s.setChannel c r).recordAt q = s.recordAt q := rfl
@[simp] theorem State.setOutLine_recordAt (l : LineId) (r : LineRecord) (q : Place) :
    (s.setOutLine l r).recordAt q = s.recordAt q := rfl
@[simp] theorem State.setSlot_recordAt (k : SlotId) (o : OrderSlot) (q : Place) :
    (s.setSlot k o).recordAt q = s.recordAt q := rfl
@[simp] theorem State.setPort_recordAt (p : Port) (q : Place) : (s.setPort p).recordAt q = s.recordAt q := rfl
@[simp] theorem State.setScan_recordAt (t : ScanTimer) (q : Place) : (s.setScan t).recordAt q = s.recordAt q := rfl
@[simp] theorem State.setMap_recordAt (m : ZoneMap) (q : Place) : (s.setMap m).recordAt q = s.recordAt q := rfl

/-! ### Reading a record after an update of its kind -/

@[simp] theorem State.probe_setProbe_same (a : Addr) (r : ProbeRecord) : (s.setProbe a r).probe a = r :=
  Table.get_set_same ..

theorem State.probe_setProbe_of_ne {a b : Addr} (r : ProbeRecord) (h : b ≠ a) :
    (s.setProbe a r).probe b = s.probe b :=
  Table.get_set_of_ne _ _ fun h' => h (Addr.idx_inj h')

@[simp] theorem State.zone_setZone_same (z : ZoneId) (r : ZoneRecord) : (s.setZone z r).zone z = r :=
  Table.get_set_same ..

theorem State.zone_setZone_of_ne {z y : ZoneId} (r : ZoneRecord) (h : y ≠ z) : (s.setZone z r).zone y = s.zone y :=
  Table.get_set_of_ne _ _ h

@[simp] theorem State.engine_setEngine_same (t : Trunk) (e : Engine) : (s.setEngine t e).engine t = e :=
  Table.get_set_same ..

theorem State.engine_setEngine_of_ne {t u : Trunk} (e : Engine) (h : u ≠ t) :
    (s.setEngine t e).engine u = s.engine u :=
  Table.get_set_of_ne _ _ h

@[simp] theorem State.channel_setChannel_same (c : ChannelId) (r : Channel) : (s.setChannel c r).channel c = r :=
  Table.get_set_same ..

theorem State.channel_setChannel_of_ne {c d : ChannelId} (r : Channel) (h : d ≠ c) :
    (s.setChannel c r).channel d = s.channel d :=
  Table.get_set_of_ne _ _ h

@[simp] theorem State.channel_setLeak (l : LeakUnit) (d : ChannelId) :
    (s.setLeak l).channel d = l.channels.get d := rfl

@[simp] theorem State.outLine_setOutLine_same (l : LineId) (r : LineRecord) : (s.setOutLine l r).outLine l = r :=
  Table.get_set_same ..

theorem State.outLine_setOutLine_of_ne {l m : LineId} (r : LineRecord) (h : m ≠ l) :
    (s.setOutLine l r).outLine m = s.outLine m :=
  Table.get_set_of_ne _ _ h

@[simp] theorem State.slot_setSlot_same (k : SlotId) (o : OrderSlot) : (s.setSlot k o).slot k = o :=
  Table.get_set_same ..

theorem State.slot_setSlot_of_ne {k j : SlotId} (o : OrderSlot) (h : j ≠ k) : (s.setSlot k o).slot j = s.slot j :=
  Table.get_set_of_ne _ _ h

@[simp] theorem State.place_setPlace_same (p : Place) (r : PlaceRecord) : (s.setPlace p r).place p = r :=
  Table.get_set_same ..

theorem State.place_setPlace_of_ne {p q : Place} (r : PlaceRecord) (h : q ≠ p) :
    (s.setPlace p r).place q = s.place q :=
  Table.get_set_of_ne _ _ h

@[simp] theorem State.place_setPendingKind (z : ZoneId) (k : Option EventKind) (q : Place) :
    (s.setPendingKind z k).place q = s.place q := rfl

@[simp] theorem State.recordAt_setPendingKind (z : ZoneId) (k : Option EventKind) (q : Place) :
    (s.setPendingKind z k).recordAt q = s.recordAt q := rfl

@[simp] theorem State.pendingKind_setPlace (p : Place) (r : PlaceRecord) (y : ZoneId) :
    (s.setPlace p r).pendingKind y = s.pendingKind y := rfl

@[simp] theorem State.pendingKind_setPendingKind_same (z : ZoneId) (k : Option EventKind) :
    (s.setPendingKind z k).pendingKind z = k :=
  Table.get_set_same ..

theorem State.pendingKind_setPendingKind_of_ne {z y : ZoneId} (k : Option EventKind) (h : y ≠ z) :
    (s.setPendingKind z k).pendingKind y = s.pendingKind y :=
  Table.get_set_of_ne _ _ h

@[simp] theorem State.setPort_setPort (p q : Port) : (s.setPort p).setPort q = s.setPort q := rfl

@[simp] theorem State.setPort_self : s.setPort s.port = s := rfl

end Sys2Proof.Machine
end

