-- ==== Sys2Proof/Laws/Requests.lean ====
section
/-! SUPPORT. What the Message Port's shared operations can do: raising, completing a reply, the arbiter, and the start
of a request's execution. -/

namespace Sys2Proof.Machine

open Sys2Proof

/-! ### Raising (R167) -/

/-- A raising touches only the notice queue. -/
theorem Port.raise_eq (p : Port) (src : Source) (u : Urgency) :
    p.raise src u = { p with urgent := (p.raise src u).urgent, routine := (p.raise src u).routine } := by
  unfold Port.raise
  repeat' split
  all_goals rfl

/-- A raising touches only the notice queue of the part. -/
theorem State.raise_eq (s : State) (src : Source) (u : Urgency) :
    s.raise src u = s.setPort { s.port with urgent := (s.raise src u).port.urgent,
                                            routine := (s.raise src u).port.routine } := by
  conv_lhs => rw [State.raise, Port.raise_eq]
  rfl

@[simp] theorem Port.raise_line (p : Port) (src : Source) (u : Urgency) : (p.raise src u).line = p.line := by
  rw [Port.raise_eq]

@[simp] theorem Port.raise_wire (p : Port) (src : Source) (u : Urgency) : (p.raise src u).wire = p.wire := by
  rw [Port.raise_eq]

@[simp] theorem Port.raise_replies (p : Port) (src : Source) (u : Urgency) : (p.raise src u).replies = p.replies := by
  rw [Port.raise_eq]

@[simp] theorem Port.raise_waiting (p : Port) (src : Source) (u : Urgency) : (p.raise src u).waiting = p.waiting := by
  rw [Port.raise_eq]

@[simp] theorem Port.raise_executing (p : Port) (src : Source) (u : Urgency) :
    (p.raise src u).executing = p.executing := by
  rw [Port.raise_eq]

@[simp] theorem Port.raise_rx (p : Port) (src : Source) (u : Urgency) : (p.raise src u).rx = p.rx := by
  rw [Port.raise_eq]

@[simp] theorem Port.raise_mask (p : Port) (src : Source) (u : Urgency) : (p.raise src u).mask = p.mask := by
  rw [Port.raise_eq]

/-- A source that is raised stands in the queue, unless its class is masked. -/
theorem Port.mem_raise (p : Port) (src : Source) (u : Urgency) (h : p.mask.enables src = true) :
    src ∈ (p.raise src u).urgent ++ (p.raise src u).routine := by
  unfold Port.raise
  simp only [h, Bool.not_true, Bool.false_eq_true, if_false]
  split
  · next hu => exact List.mem_append_left _ (by simpa using hu)
  · cases u
    · simp
    · dsimp only
      split
      · next hr => exact List.mem_append_right _ (by simpa using hr)
      · simp

/-- A source that is raised urgent stands in the urgent segment, unless its class is masked. -/
theorem Port.mem_raise_urgent (p : Port) (src : Source) (h : p.mask.enables src = true) :
    src ∈ (p.raise src .urgent).urgent := by
  unfold Port.raise
  simp only [h, Bool.not_true, Bool.false_eq_true, if_false]
  split
  · next hu => simpa using hu
  · simp

/-- A raising never takes a source out of the queue. -/
theorem Port.mem_raise_of_mem (p : Port) (src : Source) (u : Urgency) {x : Source} (h : x ∈ p.urgent ++ p.routine) :
    x ∈ (p.raise src u).urgent ++ (p.raise src u).routine := by
  by_cases hm : p.mask.enables src = true
  · by_cases hx : x = src
    · subst hx
      exact p.mem_raise x u hm
    · unfold Port.raise
      repeat' split
      all_goals simp_all
  · have hm' : p.mask.enables src = false := by simpa using hm
    simpa [Port.raise, hm'] using h

/-- A raising never takes a source out of the urgent segment. -/
theorem Port.mem_urgent_raise_of_mem (p : Port) (src : Source) (u : Urgency) {x : Source} (h : x ∈ p.urgent) :
    x ∈ (p.raise src u).urgent := by
  unfold Port.raise
  repeat' split
  all_goals simp_all

/-! ### The arbiter (R164) -/

/-- The arbiter touches only the port. -/
theorem State.arbitrate_eq (s : State) : s.arbitrate = s.setPort s.arbitrate.port := by
  unfold State.arbitrate
  repeat' split
  all_goals rfl

/-- The arbiter does nothing while a frame is being sent, or while a Warm Restart reset is due. -/
theorem State.arbitrate_of_busy (s : State) (h : s.port.line.isSome = true ∨ s.port.resetDue = true) :
    s.arbitrate = s := by
  unfold State.arbitrate
  rw [if_pos]
  cases h with
  | inl h => simp [h]
  | inr h => simp [h]

/-- The arbiter does nothing where nothing waits to be sent. -/
theorem State.arbitrate_of_empty (s : State) (h1 : s.port.replies = []) (h2 : s.port.urgent = [])
    (h3 : s.port.routine = []) : s.arbitrate = s := by
  unfold State.arbitrate
  simp [h1, h2, h3]

/-- The arbiter has nothing to do in a state whose line is busy while anything waits. -/
theorem State.arbitrate_of_lineSound (s : State) (h : s.lineSound) : s.arbitrate = s := by
  cases hl : s.port.line with
  | some f => exact s.arbitrate_of_busy (.inl (by simp [hl]))
  | none =>
    cases h hl with
    | inl h => exact s.arbitrate_of_busy (.inr h)
    | inr h => exact s.arbitrate_of_empty h.1 h.2.1 h.2.2

/-- The bytes the transmit pair carries for a frame, in their two spellings (R159). -/
theorem OutFrame.wireBytes_eq_onWire (f : OutFrame) : f.wireBytes = f.onWire := by
  simp [OutFrame.wireBytes, OutFrame.onWire, frameBytes, lenAndBody, checkBytes]

/-- A completed reply-class frame goes out behind those before it (R164). -/
theorem State.arbitrate_queueFrame (s : State) (f : OutFrame) (h : s.port.resetDue = false) :
    (s.queueFrame f).arbitrate = s.answered f := by
  have hd : (s.queueFrame f).port.resetDue = false := h
  unfold State.arbitrate
  simp only [hd, Bool.or_false]
  cases hl : s.port.line with
  | some g =>
    have hp : (s.queueFrame f).port.line.isSome = true := by simp [State.queueFrame, hl]
    rw [if_pos hp]
    simp [State.queueFrame, State.answered, Port.outgoing, hl]
  | none =>
    have hp : ¬ (s.queueFrame f).port.line.isSome = true := by simp [State.queueFrame, hl]
    rw [if_neg hp]
    cases hr : s.port.replies with
    | nil => simp [State.queueFrame, State.answered, Port.outgoing, Port.send, OutFrame.wireBytes_eq_onWire, lineBytes, hl, hr]
    | cons g rest =>
      simp [State.queueFrame, State.answered, Port.outgoing, Port.send, OutFrame.wireBytes_eq_onWire, lineBytes, hl, hr]

/-- A step that ends with a reply's completion (R162). -/
theorem finish_completeReply (s : State) (kind tag : Byte) (r : Reply) (h : s.port.resetDue = false) :
    finish (s.completeReply kind tag r) = .next (s.answered (replyFrame .reply kind tag r)) := by
  rw [finish, State.completeReply, State.arbitrate_queueFrame _ _ h]

/-- The reply of a request kind in its two spellings. -/
theorem replyFrame_eq_replyTo {kind : Byte} (h : kind ∈ requestKinds) (tag : Byte) (status : Status)
    (body : List Byte) : replyFrame .reply kind tag ⟨status, body⟩ = replyTo kind tag status body := by
  have h' : requestKinds.contains kind = true := by simpa using h
  rw [replyFrame, replyTo, replyKind, if_pos h']

@[simp] theorem State.answered_outgoing (s : State) (f : OutFrame) :
    (s.answered f).port.outgoing = s.port.outgoing ++ [f] := by
  have h : ∀ l : List OutFrame, l.head?.toList ++ l.tail = l := by intro l; cases l <;> rfl
  exact h _

@[simp] theorem State.answered_urgent (s : State) (f : OutFrame) : (s.answered f).port.urgent = s.port.urgent := rfl

@[simp] theorem State.answered_routine (s : State) (f : OutFrame) : (s.answered f).port.routine = s.port.routine := rfl

/-! ### The start of an execution (R161, R162) -/

theorem State.begins.running {s s0 : State} {r : Request} (h : s.begins r s0) : s.power = .running := h.1

theorem State.begins.idle {s s0 : State} {r : Request} (h : s.begins r s0) : s0.port.executing = none := by
  obtain ⟨-, he, ⟨-, -, rfl⟩ | ⟨rest, -, rfl⟩⟩ := h
  · exact he
  · exact he

theorem State.begins.notDue {s s0 : State} {r : Request} (h : s.begins r s0) : s0.port.resetDue = false := by
  simp [Port.resetDue, h.idle]

/-- Where a request's execution begins, it is admitted. -/
theorem State.begins.admitted {s s0 : State} {r : Request} (h : s.begins r s0) : s.admission r = .runs s0 := by
  obtain ⟨hp, he, ⟨hw, hl, rfl⟩ | ⟨rest, hw, rfl⟩⟩ := h
  · simp [State.admission, hp, he, hw, hl]
  · simp [State.admission, hp, he, hw]

/-- A request row where its execution begins. -/
theorem whenAdmitted_of_begins {s s0 : State} {r : Request} (h : s.begins r s0) (run : State → State) :
    whenAdmitted r run s = finish (run s0) := by
  simp [whenAdmitted, h.admitted]

/-- A request that is one step, where its execution begins with a payload of the right length. -/
theorem runRequest_of_begins {s s0 : State} {v : Service} {tag : Byte} {p : List Byte}
    (h : s.begins ⟨v.kind, tag, p⟩ s0) (hl : p.length = v.length) (hd : (v.work p s0).1.port.resetDue = false) :
    runRequest v tag p s =
      .next ((v.work p s0).1.answered (replyFrame .reply v.kind tag (v.work p s0).2)) := by
  rw [runRequest, whenAdmitted_of_begins h, Service.run, if_pos hl]
  exact finish_completeReply _ _ _ _ hd

/-- A request that is one step, where its execution begins with a payload of a wrong length (R163). -/
theorem runRequest_badLength {s s0 : State} {v : Service} {tag : Byte} {p : List Byte}
    (h : s.begins ⟨v.kind, tag, p⟩ s0) (hl : p.length ≠ v.length) :
    runRequest v tag p s =
      .next (s0.answered (replyFrame .reply v.kind tag (Reply.bare .badLength))) := by
  rw [runRequest, whenAdmitted_of_begins h, Service.run, if_neg hl]
  exact finish_completeReply _ _ _ _ h.notDue

/-- Everything a request row can do: nothing, or an arrival that begins no execution, or its execution from the state in
which it no longer waits (assumption 5). -/
theorem whenAdmitted_cases (r : Request) (run : State → State) (s : State) :
    whenAdmitted r run s = .next s ∨ whenAdmitted r run s = finish (s.arrive r)
      ∨ ∃ s0, s.begins r s0 ∧ whenAdmitted r run s = finish (run s0) := by
  unfold whenAdmitted
  cases h : s.admission r with
  | notNow => exact .inl rfl
  | arrives => exact .inr (.inl rfl)
  | runs s' =>
    refine .inr (.inr ⟨s', ?_, rfl⟩)
    revert h
    unfold State.admission
    split
    · next hp =>
      split
      · next he hw =>
        split
        · next hl => intro h; cases h; exact ⟨hp, he, .inl ⟨hw, hl, rfl⟩⟩
        · intro h; cases h
      · next q rest he hw =>
        split
        · next hq => intro h; cases h; exact ⟨hp, he, .inr ⟨rest, hq ▸ hw, rfl⟩⟩
        · intro h; cases h
      · intro h; cases h
    · intro h; cases h

/-! ### Waiting requests (R162) -/

/-- With nothing waiting, or a request executing, no request begins. -/
theorem State.startNext_eq_self (s : State) (h : s.port.waiting = [] ∨ s.port.executing ≠ none) :
    s.startNext = s := by
  unfold State.startNext
  split
  · next he hw => cases h with
    | inl h => rw [hw] at h; cases h
    | inr h => exact absurd he h
  · rfl
  · rfl

/-- With nothing waiting, or a request executing, no waiting request is served. -/
theorem State.serveWaiting_eq_self (s : State) (h : s.port.waiting = [] ∨ s.port.executing ≠ none) :
    s.serveWaiting = s := by
  have hs : ∀ n, State.serveUpTo n s = s := by
    intro n
    induction n with
    | zero => rfl
    | succ n ih => rw [State.serveUpTo, s.startNext_eq_self h, ih]
  exact hs _

/-- With nothing executing the oldest waiting request is executed first, and then those that are left. -/
theorem State.startNext_of_waiting (s : State) {r : Request} {rest : List Request} (he : s.port.executing = none)
    (hw : s.port.waiting = r :: rest) :
    s.startNext = ((s.setPort { s.port with waiting := rest }).execute r).arbitrate := by
  simp [State.startNext, he, hw]

/-- Everything a field event can do (assumption 4). -/
theorem fieldEvent_cases (f : State → State) (s : State) :
    (s.power ≠ .running ∧ fieldEvent f s = .next s)
      ∨ (s.power = .running ∧ fieldEvent f s = .next (f s).arbitrate) := by
  unfold fieldEvent finish
  by_cases h : s.power = .running
  · exact .inr ⟨h, if_pos h⟩
  · exact .inl ⟨h, if_neg h⟩

end Sys2Proof.Machine
end

