-- ==== Sys2Proof/Laws/Evaluation.lean ====
section
/-! SUPPORT. What the Event List, the Output Unit and an evaluation can touch: one frame lemma for each operation. -/

namespace Sys2Proof.Machine

open Sys2Proof

/-! ### The Event List touches its own records and the notice queue -/

/-- t differs from s only in the Event List and the notice queue. -/
def State.eventsOnly (s t : State) : Prop :=
  ∃ e u r, t = { s with events := e, port := { s.port with urgent := u, routine := r } }

theorem State.eventsOnly.refl (s : State) : s.eventsOnly s := ⟨s.events, s.port.urgent, s.port.routine, rfl⟩

theorem State.eventsOnly.trans {s t v : State} (h : s.eventsOnly t) (h' : t.eventsOnly v) : s.eventsOnly v := by
  obtain ⟨e, u, r, rfl⟩ := h
  obtain ⟨e', u', r', rfl⟩ := h'
  exact ⟨e', u', r', rfl⟩

theorem State.raise_eventsOnly (s : State) (src : Source) (u : Urgency) : s.eventsOnly (s.raise src u) := by
  rw [State.raise_eq]
  exact ⟨s.events, _, _, rfl⟩

theorem State.setEvents_eventsOnly (s : State) (e : EventList) : s.eventsOnly (s.setEvents e) :=
  ⟨e, s.port.urgent, s.port.routine, rfl⟩

theorem State.setRecord_eventsOnly (s : State) (p : Place) (e : EventRecord) : s.eventsOnly (s.setRecord p e) :=
  ⟨_, s.port.urgent, s.port.routine, rfl⟩

theorem State.setPendingKind_eventsOnly (s : State) (z : ZoneId) (k : Option EventKind) :
    s.eventsOnly (s.setPendingKind z k) :=
  ⟨_, s.port.urgent, s.port.routine, rfl⟩

theorem State.openRecord_eventsOnly (s : State) (z : ZoneId) (k : EventKind) (late : Bool) :
    s.eventsOnly (s.openRecord z k late) := by
  unfold State.openRecord
  split
  · exact .refl s
  · exact (s.setEvents_eventsOnly _).trans (State.raise_eventsOnly ..)

theorem State.servePending_eventsOnly (s : State) : s.eventsOnly s.servePending := by
  unfold State.servePending
  split
  · exact (s.setPendingKind_eventsOnly _ _).trans (State.openRecord_eventsOnly ..)
  · exact .refl s

theorem State.removeRecord_eventsOnly (s : State) (p : Place) (e : EventRecord) :
    s.eventsOnly (s.removeRecord p e) :=
  (s.setEvents_eventsOnly _).trans (State.servePending_eventsOnly _)

theorem State.eventRise_eventsOnly (s : State) (z : ZoneId) (wet : Bool) : s.eventsOnly (s.eventRise z wet) := by
  unfold State.eventRise
  repeat' split
  all_goals
    first
    | exact .refl s
    | exact (s.setRecord_eventsOnly _ _).trans (State.raise_eventsOnly ..)
    | exact s.openRecord_eventsOnly ..
    | exact s.setPendingKind_eventsOnly ..

theorem State.trackMargin_eventsOnly (s : State) (z : ZoneId) : s.eventsOnly (s.trackMargin z) := by
  unfold State.trackMargin
  repeat' split
  all_goals first | exact .refl s | exact s.setRecord_eventsOnly ..

theorem State.markDataLost_eventsOnly (s : State) (z : ZoneId) : s.eventsOnly (s.markDataLost z) := by
  unfold State.markDataLost
  repeat' split
  all_goals first | exact .refl s | exact s.setRecord_eventsOnly ..

theorem State.eventFall_eventsOnly (s : State) (z : ZoneId) (cause : ClearCause) :
    s.eventsOnly (s.eventFall z cause) := by
  refine (s.setPendingKind_eventsOnly z none).trans ?_
  unfold State.eventFall
  dsimp only
  repeat' split
  all_goals
    first
    | exact .refl _
    | exact (State.setRecord_eventsOnly ..).trans (State.raise_eventsOnly ..)
    | exact (State.removeRecord_eventsOnly ..).trans (State.raise_eventsOnly ..)

/-- Everything the Event List's part in a grade change can touch. -/
theorem State.eventGradeChange_eventsOnly (s : State) (z : ZoneId) (g : Grade) :
    s.eventsOnly (s.eventGradeChange z g) := by
  unfold State.eventGradeChange
  cases g
  · exact s.eventFall_eventsOnly ..
  · exact s.markDataLost_eventsOnly ..
  · exact (s.trackMargin_eventsOnly z).trans (State.eventFall_eventsOnly ..)
  · exact (s.trackMargin_eventsOnly z).trans (State.eventFall_eventsOnly ..)
  · exact (s.eventRise_eventsOnly z false).trans (State.trackMargin_eventsOnly ..)
  · exact (s.eventRise_eventsOnly z true).trans (State.trackMargin_eventsOnly ..)

/-! ### A recompute touches its own line -/

/-- A recompute keeps a line's configuration. -/
theorem LineRecord.recomputed_cfg (l : LineRecord) (b : Bool) (d : Nat) : (l.recomputed b d).cfg = l.cfg := by
  unfold LineRecord.recomputed
  split <;> rfl

/-- t differs from s only in the dynamic fields of lines. -/
def State.linesOnly (s t : State) : Prop :=
  (∃ ls, t = { s with lines := ls }) ∧ ∀ l, (t.outLine l).cfg = (s.outLine l).cfg

theorem State.linesOnly.refl (s : State) : s.linesOnly s := ⟨⟨s.lines, rfl⟩, fun _ => rfl⟩

theorem State.linesOnly.trans {s t v : State} (h : s.linesOnly t) (h' : t.linesOnly v) : s.linesOnly v := by
  obtain ⟨⟨a, rfl⟩, hc⟩ := h
  obtain ⟨⟨b, rfl⟩, hc'⟩ := h'
  exact ⟨⟨b, rfl⟩, fun l => (hc' l).trans (hc l)⟩

theorem State.recompute_linesOnly (s : State) (l : LineId) : s.linesOnly (s.recompute l) := by
  refine ⟨⟨_, rfl⟩, fun m => ?_⟩
  unfold State.recompute
  by_cases h : m = l
  · subst h
    simp [LineRecord.recomputed_cfg]
  · rw [State.outLine_setOutLine_of_ne _ _ h]

/-- A fold of operations that touch only lines touches only lines. -/
theorem linesOnly_foldl {α : Type} (f : State → α → State) (hf : ∀ (s : State) (a : α), s.linesOnly (f s a)) (xs : List α)
    (s : State) : s.linesOnly (xs.foldl f s) := by
  induction xs generalizing s with
  | nil => exact .refl s
  | cons x xs ih => exact (hf s x).trans (ih (f s x))

theorem State.recomputeLinesOf_linesOnly (s : State) (z : ZoneId) : s.linesOnly (s.recomputeLinesOf z) :=
  linesOnly_foldl _ (fun s l => by split; exacts [s.recompute_linesOnly l, .refl s]) _ s

theorem State.recomputeProportionalOf_linesOnly (s : State) (z : ZoneId) :
    s.linesOnly (s.recomputeProportionalOf z) :=
  linesOnly_foldl _ (fun s l => by split; exacts [s.recompute_linesOnly l, .refl s]) _ s

/-! ### What is handed on, and an evaluation -/

/-- t differs from s only in the Event List, the notice queue, the dynamic fields of lines and the active-zone count. -/
def State.handedOn (s t : State) : Prop :=
  (∃ e u r ls n, t = { s with events := e, port := { s.port with urgent := u, routine := r }, lines := ls,
                              leak := { s.leak with activeZones := n } })
    ∧ ∀ l, (t.outLine l).cfg = (s.outLine l).cfg

theorem State.handedOn.refl (s : State) : s.handedOn s :=
  ⟨⟨s.events, s.port.urgent, s.port.routine, s.lines, s.leak.activeZones, rfl⟩, fun _ => rfl⟩

theorem State.handedOn.trans {s t v : State} (h : s.handedOn t) (h' : t.handedOn v) : s.handedOn v := by
  obtain ⟨⟨e, u, r, ls, n, rfl⟩, hc⟩ := h
  obtain ⟨⟨e', u', r', ls', n', rfl⟩, hc'⟩ := h'
  exact ⟨⟨e', u', r', ls', n', rfl⟩, fun l => (hc' l).trans (hc l)⟩

theorem State.eventsOnly.handedOn {s t : State} (h : s.eventsOnly t) : s.handedOn t := by
  obtain ⟨e, u, r, rfl⟩ := h
  exact ⟨⟨e, u, r, s.lines, s.leak.activeZones, rfl⟩, fun _ => rfl⟩

theorem State.linesOnly.handedOn {s t : State} (h : s.linesOnly t) : s.handedOn t := by
  obtain ⟨⟨ls, rfl⟩, hc⟩ := h
  exact ⟨⟨s.events, s.port.urgent, s.port.routine, ls, s.leak.activeZones, rfl⟩, hc⟩

/-- Everything a grade change can touch (R104). -/
theorem State.gradeChange_handedOn (s : State) (z : ZoneId) (before after : Grade) :
    s.handedOn (s.gradeChange z before after) := by
  unfold State.gradeChange
  have h1 := (s.raise_eventsOnly (.zone z) after.urgency).handedOn
  have h2 := ((s.raise (.zone z) after.urgency).eventGradeChange_eventsOnly z after).handedOn
  have h3 := (((s.raise (.zone z) after.urgency).eventGradeChange z after).recomputeLinesOf_linesOnly z).handedOn
  exact ((h1.trans h2).trans h3).trans ⟨⟨_, _, _, _, _, rfl⟩, fun _ => rfl⟩

/-- Everything that is handed on without a grade change can touch (R105). -/
theorem State.marginHandover_handedOn (s : State) (z : ZoneId) (before : Option Int) :
    s.handedOn (s.marginHandover z before) := by
  unfold State.marginHandover
  split
  · exact (State.trackMargin_eventsOnly ..).handedOn
  · exact (State.recomputeProportionalOf_linesOnly ..).handedOn.trans (State.trackMargin_eventsOnly ..).handedOn

theorem State.handOn_handedOn (s : State) (z : ZoneId) (before : ZoneRecord) : s.handedOn (s.handOn z before) := by
  unfold State.handOn
  split
  · exact s.marginHandover_handedOn ..
  · exact s.gradeChange_handedOn ..

/-- What an evaluation touches: the zone's own record, and what it hands on. -/
theorem State.evaluate_handedOn (s : State) (z : ZoneId) (cause : EvalCause) :
    s.evaluate z cause = s ∨ (s.setZone z (s.zoneEvaluated z cause)).handedOn (s.evaluate z cause) := by
  unfold State.evaluate
  split
  · exact .inr (State.handOn_handedOn ..)
  · exact .inl rfl

theorem State.handedOn.keeps {s t : State} (h : s.handedOn t) : s.evaluationKeeps t := by
  obtain ⟨⟨e, u, r, ls, n, rfl⟩, hc⟩ := h
  exact ⟨rfl, rfl, rfl, rfl, rfl, rfl, rfl, rfl, rfl, rfl, rfl, rfl, hc⟩

theorem State.handedOn.zones {s t : State} (h : s.handedOn t) : t.zones = s.zones := by
  obtain ⟨⟨e, u, r, ls, n, rfl⟩, -⟩ := h
  rfl

theorem State.evaluationKeeps.refl (s : State) : s.evaluationKeeps s :=
  (State.handedOn.refl s).keeps

theorem State.evaluationKeeps.trans {s t v : State} (h : s.evaluationKeeps t) (h' : t.evaluationKeeps v) :
    s.evaluationKeeps v where
  pending := h'.pending.trans h.pending
  power := h'.power.trans h.power
  uptime := h'.uptime.trans h.uptime
  defaulted := h'.defaulted.trans h.defaulted
  store := h'.store.trans h.store
  engines := h'.engines.trans h.engines
  scan := h'.scan.trans h.scan
  slots := h'.slots.trans h.slots
  probes := h'.probes.trans h.probes
  map := h'.map.trans h.map
  port := by rw [h'.port, h.port]
  leak := by rw [h'.leak, h.leak]
  lineConfig := fun l => (h'.lineConfig l).trans (h.lineConfig l)

/-- An evaluation keeps what `evaluationKeeps` says. -/
theorem State.evaluate_keeps (s : State) (z : ZoneId) (cause : EvalCause) :
    s.evaluationKeeps (s.evaluate z cause) := by
  cases s.evaluate_handedOn z cause with
  | inl h => rw [h]; exact .refl s
  | inr h =>
    have hs : s.evaluationKeeps (s.setZone z (s.zoneEvaluated z cause)) :=
      ⟨rfl, rfl, rfl, rfl, rfl, rfl, rfl, rfl, rfl, rfl, rfl, rfl, fun _ => rfl⟩
    exact hs.trans h.keeps

theorem State.evaluateAll_keeps (s : State) (zs : List ZoneId) : s.evaluationKeeps (s.evaluateAll zs) := by
  unfold State.evaluateAll
  induction zs generalizing s with
  | nil => exact .refl s
  | cons z zs ih => exact (s.evaluate_keeps z .ordinary).trans (ih _)

theorem State.evaluateAt_keeps (s : State) (a : Addr) : s.evaluationKeeps (s.evaluateAt a) := by
  unfold State.evaluateAt
  split
  · exact s.evaluate_keeps ..
  · exact .refl s

/-- The part's answer to a request is not held back by an evaluation. -/
theorem State.evaluationKeeps.resetDue {s t : State} (h : s.evaluationKeeps t) :
    t.port.resetDue = s.port.resetDue := by
  rw [h.port]
  rfl

end Sys2Proof.Machine
end

