-- ==== Sys2Proof/WellFormed.lean ====
section
/-! DEFINITION. Which commands can be sent at all: a request's payload fits a frame (R159), an answer has seven
characters and a short one fewer (R4). Values inside a payload are never ill-formed: the model judges them (R163). -/

namespace Sys2Proof

/-- A frame carries a payload of at most 238 bytes (R159, R179). -/
def payloadFits (payload : List Byte) : Bool := decide (payload.length ≤ 238)

/-- The command can be sent. -/
def Instr.wf : Instr → Bool
  | .powerOn => true
  | .settingsLoad => true
  | .frameArrival _ => true
  | .frameGapTimeout => true
  | .frameSent => true
  | .unknownKind _ _ p => payloadFits p
  | .identify _ p => payloadFits p
  | .summary _ p => payloadFits p
  | .keepSettings _ p => payloadFits p
  | .keepSettingsDone _ => true
  | .warmRestart _ p => payloadFits p
  | .warmRestartReset => true
  | .noticeMask _ p => payloadFits p
  | .defineProbe _ p => payloadFits p
  | .retireProbe _ p => payloadFits p
  | .probeQuery _ p => payloadFits p
  | .trunkRestart _ p => payloadFits p
  | .trunkSetup _ p => payloadFits p
  | .scanSetupContinuous _ p => payloadFits p
  | .scanSetupSingle _ p => payloadFits p
  | .scanSetupStopped _ p => payloadFits p
  | .periodStart => true
  | .survey _ p => payloadFits p
  | .surveyCancel _ p => payloadFits p
  | .mapPoint _ p => payloadFits p
  | .mapSpan _ p => payloadFits p
  | .unmapPoint _ p => payloadFits p
  | .unmapSpan _ p => payloadFits p
  | .mapQuery _ p => payloadFits p
  | .zoneSetup _ p => payloadFits p
  | .zoneOn _ p => payloadFits p
  | .zoneOff _ p => payloadFits p
  | .zoneQuery _ p => payloadFits p
  | .leakSetupEnable _ p => payloadFits p
  | .leakSetupDisable _ p => payloadFits p
  | .leakRecalibrate _ p => payloadFits p
  | .leakQuery _ p => payloadFits p
  | .lineSetup _ p => payloadFits p
  | .lineRelease _ p => payloadFits p
  | .lineQuery _ p => payloadFits p
  | .eventList _ p => payloadFits p
  | .eventQuery _ p => payloadFits p
  | .eventAck _ p => payloadFits p
  | .gapExpiry _ => true
  | .transactionOpen _ => true
  | .answerReceived _ b => decide (b.length = 7)
  | .answerTimeout _ b => decide (b.length < 7)
  | .ageExpiry _ => true
  | .dwellExpiry _ => true
  | .dutyFrameStart => true
  | .dutyOnTimeEnd _ => true
  | .roundStart => true
  | .gateClose _ => true
  | .powerLoss _ => true
  | .uptimeSecond => true

end Sys2Proof
end

