-- ==== Sys2Proof/Tests/Slice0.lean ====
section
/-! SUPPORT. The model's own tests: the well-formedness checks, the spec's worked figures and sequences (each test names
its section), one small step for each command; then, for each statement with hypotheses, a witness that meets them. -/

namespace Sys2Proof.Tests

-- One test after another: side by side, a hundred of them ask for more threads than the memory limit allows.
set_option Elab.async false

open Sys2Proof Sys2Proof.Machine

/-! ### Helpers -/

/-- The state after a command. -/
def after (c : Instr) (s : State) : State :=
  match exec c s with
  | .next t => t
  | .fault _ => s
  | .refused _ => s

/-- The payload of the frame being sent. -/
def sentPayload (s : State) : List Byte :=
  match s.port.line with
  | some f => f.payload
  | none => []

/-- A part that runs with the defaults and nothing under way. -/
def running : State :=
  { State.reset with
    power := .running, defaulted := true, lines := Table.all 4 (LineRecord.start LineConfig.default .inactive) }

/-- The same at an uptime second. -/
def at_ (uptime : Nat) : State := { running with uptime := uptime }

/-- The engine of trunk A with an item for a drop in flight. -/
def inFlight (d : Drop) (link : Link) : Engine :=
  { Engine.start TrunkSettings.default with inFlight := some (newItem d .scan), link := link }

/-- A running part with trunk A's engine as given. -/
def onTrunk (e : Engine) : State := running.setEngine 0 e

/-- The AIR probe of 03_the_probe_table.md's worked sequence, with a Df of 1200. -/
def probeA04 : ProbeRecord :=
  { ProbeRecord.fresh ⟨.air, -30, 150⟩ with df := some 1200 }

/-- The settings of zone 5 in 06_zone_grades.md's worked sequence. -/
def zoneCfg : ZoneConfig :=
  { ZoneConfig.default with riseDwell := 45, fallDwell := 270, design := some 1600 }

/-- A zone with those settings and D, in a grade, with a dwell. -/
def zoneAt (d : Int) (g : Grade) (dwell : Dwell) : ZoneRecord :=
  { enabled := true, cfg := zoneCfg, grade := g, d := some d, s := some ⟨1600, .design⟩, m := some (1600 - d),
    dwell := dwell, air := 1, surfaces := 0 }

/-- An AIR probe with a valid reading whose Df is given. -/
def airWith (df : Int) : ProbeRecord :=
  { ProbeRecord.fresh ⟨.air, 0, 0⟩ with
    reading := some ⟨2250, some 5500, 2250, some 5500, false, false, 0⟩, dew := some ⟨1298, false, false⟩,
    df := some df, expiry := some 301 }

/-- Zone 5 with the air probe A04, whose Df is given, as its one member. -/
def zone5 (df d : Int) (g : Grade) (dwell : Dwell) : State :=
  ((running.setProbe ⟨0, 4⟩ (airWith df)).setMap ⟨ZoneMap.empty.singles.set 4 (some 5), []⟩).setZone 5
    (zoneAt d g dwell)

/-- An event record of a zone. -/
def record (n : Nat) (z : ZoneId) (state : EventState) : EventRecord :=
  { number := n, zone := z, kind := .condensation, state := state, openedAt := 0,
    clearedAt := if state = .cleared then some 1 else none,
    cause := if state = .cleared then some .gradeFell else none, worst := some 70, reEscalations := 0,
    lateOpened := false, dataLost := false, d := none, s := none, m := some 90, capture := [] }

/-- An Event List with one record in place 3. -/
def oneRecord (e : EventRecord) : State :=
  running.setEvents { (EventList.empty 117) with places := (EventList.empty 117).places.set 3 ⟨some e, none⟩,
                                                 order := [3] }

/-- The full list of 08_condensation_events.md's worked sequence: records 101 to 116 of zones 0 to 15, that of zone 3
in a state as given (there CLEARED); zone 17 pends. -/
def fullListOf (third : EventState) (kind : Option EventKind) : State :=
  running.setEvents
    { places := Table.ofFn fun p =>
        ⟨some (record (101 + p.val) (p.castLE (by decide)) (if p = 3 then third else .opened)), none⟩
      order := List.finRange 16, nextNumber := 117, pending := (EventList.empty 1).pending.set 17 kind }

/-- The same as it stands there. -/
def fullList (kind : Option EventKind) : State := fullListOf .cleared kind

/-- Channel 6 of 07_leak_sense_channels.md's worked sequence. -/
def trench (b : Nat) (state : LeakState) (streak : Nat) : Channel :=
  { enabled := true, dw := 120, hy := 24, baseline := some b, state := state, streak := streak, calSum := 0,
    calCount := 0, last := none }

/-- A running part whose channel 6 is as given and whose gate of channel 6 is open. -/
def gate6 (c : Channel) : State := (running.setChannel 6 c).setLeak { (running.setChannel 6 c).leak with position := some 6 }

/-- A line in a mode with zone 5 in its mask. -/
def lineIn (mode : LineMode) : LineRecord := LineRecord.start ⟨mode, 0x20, .alarm, .activeLow, true⟩ .inactive

/-- A running part whose executing request and frame being sent are as given. -/
def portWith (executing : Option Execution) (line : Option OutFrame) : State :=
  running.setPort { running.port with executing := executing, line := line, wire := lineBytes line }

/-- A frame of a role. -/
def frameOf (role : FrameRole) : OutFrame := ⟨role, 0x41, 1, [0]⟩

/-! ### Well-formedness -/

/-- Every request row. -/
def allRows : List (Byte → List Byte → Instr) := fixedRequests.map (·.1) ++ [.survey, .unknownKind 0x7E]

theorem test_wf_refuses_long_payload :
    allRows.all (fun row => !(row 1 (List.replicate 239 0)).wf) = true := by decide +kernel

theorem test_wf_takes_full_payload :
    allRows.all (fun row => (row 1 (List.replicate 238 0)).wf) = true := by decide +kernel

theorem test_wf_refuses_short_answer : (Instr.answerReceived 0 [1, 2, 3, 4, 5, 6]).wf = false := by decide

theorem test_wf_refuses_long_timeout : (Instr.answerTimeout 0 [1, 2, 3, 4, 5, 6, 7]).wf = false := by decide

theorem test_no_row_has_bits : decodeTableWord 8 0x29 = none := rfl

/-! ### Checks, frames and arithmetic -/

/-- 11_frame_and_record_layouts.md, worked frames: the trunk query for A07. -/
theorem test_trunk_query : crc8 [0x07] = 0x3B ∧ probeQueryBytes 7 = [0x07, 0x01, 0x1E] := by decide +kernel

/-- The published check of this CRC-16 (polynomial 0x1021, start 0xFFFF) over the digits 1 to 9. -/
theorem test_crc16 : crc16 [0x31, 0x32, 0x33, 0x34, 0x35, 0x36, 0x37, 0x38, 0x39] = 0x29B1 := by decide +kernel

/-- 11_frame_and_record_layouts.md: the Zone On request for zone 5. -/
theorem test_frame_layout : (frameBytes 0x29 0x33 [0x05]).take 5 = [0xA5, 0x03, 0x29, 0x33, 0x05] := by decide +kernel

/-- 05_dew_point_arithmetic.md, sections 5.4 and 5.5: T', RH', Td and the two flags. -/
theorem test_dew_points :
    ([(2250, 5500, 1298, false, false), (1800, 6500, 1132, false, false), (-500, 8000, -813, false, false),
      (2000, 500, -2000, false, true), (2000, 600, -1895, false, false), (2000, 4000, 586, false, false),
      (2000, 5000, 915, false, false), (2000, 6000, 1182, false, false), (2000, 8000, 1630, false, false),
      (1000, 10000, 1000, false, false), (2250, 10000, 2250, false, false), (2251, 10000, 2250, false, false),
      (5000, 10000, 5000, false, false), (5000, 9999, 4999, false, false), (8500, 10000, 5000, true, false),
      (6000, 3000, 2753, true, false), (-2000, 10000, -2000, false, false), (-2000, 9999, -2000, false, true),
      (-2500, 10000, -2000, true, false), (-2500, 5000, -2000, true, true), (2250, 0, -2000, false, true)] :
      List (Int × Nat × Int × Bool × Bool)).all
      (fun (t, rh, td, a, b) => decide (dewPoint t rh = ⟨td, a, b⟩)) = true := by decide +kernel

/-- 05_dew_point_arithmetic.md, worked duties: W, A, M and d. -/
theorem test_duties :
    ([(300, 100, 400, 0), (300, 100, 300, 0), (300, 100, 299, 1), (300, 100, 250, 63), (300, 100, 180, 153),
      (300, 100, 101, 253), (300, 100, 100, 255), (300, 100, -174, 255), (2000, -500, 1999, 0), (2000, -500, 1990, 1),
      (2000, -500, 750, 127), (2000, -500, -499, 254), (2000, -500, -500, 255)] : List (Int × Int × Int × Nat)).all
      (fun (w, a, m, d) => zoneDuty w a m == d) = true := by decide +kernel

/-- 05_dew_point_arithmetic.md, R83's table from Df 1000 to Td 2000, and the step of case 1. -/
theorem test_filter :
    (List.range 5).map (fun k => filterStep k (some 1000) 2000) = [2000, 1500, 1250, 1125, 1062]
      ∧ filterStep 2 (some 1200) 1298 = 1224 ∧ filterStep 3 (some 1500) 1420 = 1490 := by decide +kernel

/-! ### The message line and power -/

theorem test_powerOn : after .powerOn running = State.reset := by decide +kernel

set_option maxRecDepth 20000 in
theorem test_settingsLoad : after .settingsLoad State.reset = running := by decide +kernel

set_option maxRecDepth 20000 in
theorem test_powerLoss_during_write :
    (after (.powerLoss true) (after (.keepSettings 1 []) running)).store.valid = true
      ∧ (after (.powerLoss false) (after (.keepSettings 1 []) running)).store.valid = false
      ∧ Store.blank.valid = false := by
  decide +kernel

/-- A frame behind noise waits in a slot while another request executes (R160 to R162). -/
theorem test_frameArrival_waits :
    (after (.frameArrival ([0x00, 0xA5, 0xF1] ++ frameBytes 0x29 0x33 [0x05]))
      (portWith (some (.keepSettings 1)) none)).port.waiting = [⟨0x29, 0x33, [0x05]⟩] := by decide +kernel

/-- A frame that comes in two arrivals is executed when its last byte has come (R160). -/
theorem test_frameArrival_split :
    (after (.frameArrival ((frameBytes 0x02 0x33 []).drop 3))
      (after (.frameArrival ((frameBytes 0x02 0x33 []).take 3)) running)).port.outgoing.map (·.tag) = [0x33] := by
  decide +kernel

/-- R161, R162: of five requests that reach an idle part in one delivery, four are executed at their arrivals, and the
fifth, which finds their replies unsent, is answered PORT_FULL. -/
theorem test_frameArrival_executes :
    (after (.frameArrival ((List.replicate 5 (frameBytes 0x02 0x33 [])).flatten)) running).port.outgoing.map (·.role) =
      [.reply, .reply, .reply, .reply, .portFull] := by decide +kernel

theorem test_frameGapTimeout :
    (after .frameGapTimeout (running.setPort { running.port with rx := [0xA5, 3] })).port.rx = [] := by decide +kernel

/-- R164: a reply-class frame goes before any notice. -/
theorem test_frameSent :
    (after .frameSent (running.setPort { running.port with line := some (frameOf .reply), replies := [frameOf .portFull],
                                                           urgent := [.zone 7] })).port.line = some (frameOf .portFull)
      ∧ (after .frameSent ((portWith none (some (frameOf (.report 2)))).setSlot 2 .reporting)).slot 2 = .free := by
  decide +kernel

theorem test_unknownKind :
    (after (.unknownKind 0x7E 9 []) running).port.line = some ⟨.reply, 0x7F, 9, [0x10]⟩ := by decide +kernel

theorem test_identify : (sentPayload (after (.identify 1 []) running)).getD 11 9 = 1 := by decide +kernel

theorem test_summary :
    sentPayload (after (.summary 1 []) (at_ 258)) =
      [0, 0, 0, 1, 2, 1, 0, 0, 0, 64, 0, 0, 0, 24, 0, 0, 0, 0, 0, 0, 0, 0] := by decide +kernel

theorem test_keepSettings :
    (after (.keepSettings 0x10 []) running).port.executing = some (.keepSettings 0x10)
      ∧ (after (.keepSettings 0x10 []) running).port.line = none := by decide +kernel

theorem test_keepSettingsDone :
    sentPayload (after (.keepSettingsDone false) (portWith (some (.keepSettings 1)) none)) = [0x40]
      ∧ (after (.keepSettingsDone true) (portWith (some (.keepSettings 1)) none)).defaulted = false := by
  decide +kernel

theorem test_warmRestart :
    (after .frameSent (after (.warmRestart 1 []) running)).port.resetDue = true := by decide +kernel

theorem test_warmRestartReset :
    (after .warmRestartReset ((portWith (some (.warmRestart true)) none).setProbe ⟨0, 4⟩ (airWith 1200))).probe ⟨0, 4⟩ =
      ProbeRecord.fresh ⟨.air, 0, 0⟩ := by decide +kernel

/-- 10_the_message_line.md, coalescing: the probe class masked. -/
theorem test_noticeMask :
    (after (.noticeMask 1 [1, 1, 0, 1, 1])
      (running.setPort { running.port with line := some (frameOf .reply), urgent := [.trunk 0, .zone 5, .event 2],
                                           routine := [.probe ⟨0, 4⟩] })).port.routine = [] := by decide +kernel

/-! ### Probes, trunks, scanning, surveys -/

theorem test_defineProbe :
    (after (.defineProbe 1 [0, 4, 1, 0xFF, 0xE2, 0x00, 0x96]) running).probe ⟨0, 4⟩ = ProbeRecord.fresh ⟨.air, -30, 150⟩
      ∧ sentPayload (after (.defineProbe 1 [0, 4, 2, 0x02, 0x00, 0x00, 0x01]) running) =
          [0x01, 0, 4, 2, 0x01, 0xF4, 0, 0] := by decide +kernel

theorem test_retireProbe :
    sentPayload (after (.retireProbe 1 [0, 4]) running) = [0x32]
      ∧ (after (.retireProbe 1 [0, 4]) (running.setProbe ⟨0, 4⟩ probeA04)).probe ⟨0, 4⟩ = ProbeRecord.undefined := by
  decide +kernel

/-- 11_frame_and_record_layouts.md: the probe notice for A04 at uptime 1250. -/
theorem test_probeQuery :
    sentPayload (after (.probeQuery 1 [0, 4])
      (((at_ 1250).setMap ⟨ZoneMap.empty.singles.set 4 (some 5), []⟩).setProbe ⟨0, 4⟩
        { probeA04 with state := .faulted, failures := 4, last := some .noAnswer, df := none,
                        reading := some ⟨2250, some 5500, 2280, some 5350, false, false, 1000⟩,
                        dew := some ⟨1298, false, false⟩ })) =
      [0, 0, 4, 1, 1, 0xFF, 0xE2, 0x00, 0x96, 3, 4, 3, 0xFF, 0x08, 0xCA, 0x15, 0x7C, 0x08, 0xE8, 0x14, 0xE6, 0, 0, 0,
       0, 250, 0, 0x05, 0x12, 0, 0x80, 0x00, 5] := by decide +kernel

/-- 01_probe_trunks.md, R16: a restarted trunk goes to IDLE with its count at 0. -/
theorem test_trunkRestart :
    sentPayload (after (.trunkRestart 1 [0])
      (onTrunk { Engine.start TrunkSettings.default with halted := true, failures := 10 })) = [0x00, 0, 0]
      ∧ sentPayload (after (.trunkRestart 1 [1]) running) = [0x33, 1, 0] := by decide +kernel

theorem test_trunkSetup :
    sentPayload (after (.trunkSetup 1 [1, 4, 33, 0]) running) = [0x01, 1, 3, 32, 1] := by decide +kernel

/-- 02_scanning_and_surveys.md, worked sequence: the request at 1230 and the one at 1290. -/
theorem test_scanSetup :
    sentPayload (after (.scanSetupContinuous 1 [1, 0, 20, 1, 44])
      (running.setScan ⟨.continuous, 60, none, some 30, false, 300⟩)) = [0, 1, 0, 60, 0, 20, 0, 30, 1, 44]
      ∧ sentPayload (after (.scanSetupSingle 1 [2, 1, 44, 1, 44])
          (running.setScan ⟨.continuous, 20, none, some 10, false, 300⟩)) = [0, 0, 1, 44, 0, 0, 0, 0, 1, 44] := by
  decide +kernel

theorem test_scanSetupStopped :
    ((after (.scanSetupStopped 1 [0, 0, 60, 1, 44])
      (onTrunk { inFlight 1 .listening with waitList := [newItem 2 .scan, newItem 3 (.survey 0 0)] })).engine 0).waitList =
      [newItem 3 (.survey 0 0)] := by decide +kernel

/-- 02_scanning_and_surveys.md, worked sequence: the expiry at 1260; and the scan cycle of 01_probe_trunks.md. -/
theorem test_periodStart :
    (after .periodStart (running.setScan ⟨.continuous, 60, some 20, some 1, true, 300⟩)).scan =
        ⟨.continuous, 20, none, some 20, false, 300⟩
      ∧ ((after .periodStart ((((running.setScan ⟨.continuous, 60, none, some 1, true, 300⟩).setProbe ⟨0, 2⟩ probeA04).setProbe
          ⟨0, 5⟩ probeA04).setProbe ⟨0, 9⟩ probeA04)).engine 0).waitList = [newItem 5 .scan, newItem 9 .scan] := by
  decide +kernel

/-- 02_scanning_and_surveys.md, worked sequence: the survey of five points. -/
theorem test_survey :
    sentPayload (after (.survey 0x40 [2, 0, 10, 3, 1, 4, 2]) running) = [0, 0, 5]
      ∧ ((after (.survey 0x40 [2, 0, 10, 3, 1, 4, 2]) running).engine 0).waitList =
          [newItem 11 (.survey 0 1), newItem 12 (.survey 0 2)] := by decide +kernel

/-- The same sequence: the cancel with one point settled and one running. -/
theorem test_surveyCancel :
    sentPayload (after (.surveyCancel 1 [0x40])
      (((onTrunk { inFlight 11 .listening with inFlight := some (newItem 11 (.survey 0 1)),
                                               waitList := [newItem 12 (.survey 0 2)] }).setEngine 1
          { inFlight 1 .listening with waitList := [newItem 2 .scan, newItem 4 (.survey 0 3), newItem 5 (.survey 0 4)] }
        ).setSlot 0 (.held { tag := 0x40, points := [⟨0, 10⟩, ⟨0, 11⟩, ⟨0, 12⟩, ⟨1, 4⟩, ⟨1, 5⟩],
                             outcomes := [none, none, none, none, none], outstanding := 4 }))) =
      [0, 0x40, 1, 3, 1] := by decide +kernel

theorem test_gapExpiry :
    ((after (.gapExpiry 0) (onTrunk { Engine.start TrunkSettings.default with link := .gap,
                                                                              waitList := [newItem 7 .scan] })).engine 0).link =
      .sending [0x07, 0x01, 0x1E] := by decide +kernel

theorem test_transactionOpen :
    ((after (.transactionOpen 0) (onTrunk (inFlight 7 (.sending [0x07, 0x01, 0x1E])))).engine 0).link = .listening := by
  decide +kernel

/-- 03_the_probe_table.md, worked sequence: the answer at 1000 (raw 2280 and 5350). -/
theorem test_answerReceived :
    ((after (.answerReceived 0 ([4, 0x05, 0x08, 0xE8, 0x14, 0xE6] ++ [crc8 [4, 0x05, 0x08, 0xE8, 0x14, 0xE6]]))
      ((((at_ 1000).setEngine 0 (inFlight 4 .listening)).setMap ⟨ZoneMap.empty.singles.set 4 (some 5), []⟩).setProbe
        ⟨0, 4⟩ probeA04)).probe ⟨0, 4⟩) =
      { probeA04 with last := some .good, reading := some ⟨2250, some 5500, 2280, some 5350, false, false, 1000⟩,
                      dew := some ⟨1298, false, false⟩, df := some 1224, expiry := some 1301 } := by decide +kernel

/-- 01_probe_trunks.md, worked sequences: a retry; and the halt at the count of 10. -/
theorem test_answerTimeout :
    ((after (.answerTimeout 0 []) ((onTrunk (inFlight 9 .listening)).setProbe ⟨0, 9⟩ probeA04)).engine 0).inFlight =
        some { newItem 9 .scan with attempts := 1, latest := some ⟨.noAnswer, none, none, 0⟩ }
      ∧ ((after (.answerTimeout 0 []) ((onTrunk { inFlight 3 .listening with
            failures := 9, attempt := ⟨2, 10, 3⟩, waitList := [newItem 4 .scan] }).setProbe ⟨0, 3⟩ probeA04)).engine 0).state =
          .halted := by decide +kernel

/-- R51: the reading of second 0 under 300 expires at 301. -/
theorem test_ageExpiryTaken :
    ((after .uptimeSecond ((at_ 300).setProbe ⟨0, 4⟩ (airWith 1200))).probe ⟨0, 4⟩).df = some 1200
      ∧ ((after .uptimeSecond ((at_ 301).setProbe ⟨0, 4⟩ (airWith 1200))).probe ⟨0, 4⟩).df = none := by decide +kernel

theorem test_ageExpiry :
    ((after (.ageExpiry ⟨0, 4⟩) ((at_ 301).setProbe ⟨0, 4⟩ (airWith 1200))).probe ⟨0, 4⟩).df = none
      ∧ ((after (.ageExpiry ⟨0, 4⟩) ((at_ 300).setProbe ⟨0, 4⟩ (airWith 1200))).probe ⟨0, 4⟩).df = some 1200 := by
  decide +kernel

/-! ### The map: 04_the_zone_map.md, carving and lookup -/

/-- The map with its two spans. -/
def carved : ZoneMap := { ZoneMap.empty with spans := [⟨0, 0, 16, 2⟩, ⟨0, 16, 16, 3⟩] }

/-- The map with the single entry A05 too. -/
def carvedOut : ZoneMap := { carved with singles := carved.singles.set 5 (some 9) }

theorem test_mapPoint :
    sentPayload (after (.mapPoint 1 [0, 5, 9]) (running.setMap carved)) = [0, 0, 5, 9, 2, 2, 1]
      ∧ (after (.mapPoint 1 [0, 5, 9]) (running.setMap carved)).map = carvedOut := by decide +kernel

theorem test_mapSpan :
    (after (.mapSpan 1 [0, 16, 16, 3]) (running.setMap { ZoneMap.empty with spans := [⟨0, 0, 16, 2⟩] })).map = carved
      ∧ sentPayload (after (.mapSpan 1 [0, 8, 4, 4]) (running.setMap carvedOut)) = [0x31, 0, 0, 16, 2]
      ∧ sentPayload (after (.mapSpan 1 [0, 12, 3, 4]) (running.setMap carvedOut)) = [0x34] := by decide +kernel

theorem test_unmapPoint :
    sentPayload (after (.unmapPoint 1 [0, 5]) (running.setMap carvedOut)) = [0, 0, 5, 9, 2, 2]
      ∧ sentPayload (after (.unmapPoint 1 [0, 6]) (running.setMap carvedOut)) = [0x32] := by decide +kernel

theorem test_unmapSpan :
    sentPayload (after (.unmapSpan 1 [0, 0, 16]) (running.setMap carvedOut)) = [0, 0, 0, 16, 2] := by decide +kernel

theorem test_mapQuery :
    sentPayload (after (.mapQuery 1 []) (running.setMap carvedOut)) =
      [0, 1, 2, 0, 5, 9, 0, 0, 16, 2, 0, 16, 16, 3] := by decide +kernel

/-! ### Zones: 06_zone_grades.md -/

/-- Every number below its range, H negative: ADJUSTED, and the grade OFF. -/
theorem test_zoneSetup :
    sentPayload (after (.zoneSetup 1 [5, 0, 1, 0x80, 0, 0xFF, 0xFF, 0, 0, 0, 0, 0, 0x80, 0, 0x40, 1, 9]) running) =
      [0x01, 5, 0, 1, 0xFE, 0x0C, 0, 10, 0, 0, 0, 0, 0, 0x80, 0, 0x40, 1, 8, 0] := by decide +kernel

/-- 11_frame_and_record_layouts.md: Zone On leaves zone 5 in WATCH. -/
theorem test_zoneOn :
    sentPayload (after (.zoneOn 0x33 [5])
      ((zone5 1320 0 .off .none).setZone 5 (ZoneRecord.start false zoneCfg))) = [0x00, 0x05, 0x03]
      ∧ (after (.zoneOn 0x33 [5])
          ((zone5 1320 0 .off .none).setZone 5 (ZoneRecord.start false zoneCfg))).port.wire.take 7 =
            [0xA5, 0x05, 0x69, 0x33, 0x00, 0x05, 0x03] := by decide +kernel

theorem test_zoneOff :
    (after (.zoneOff 1 [5]) (zone5 1520 1520 .alarm (.fall 3 false))).zone 5 = ZoneRecord.start false zoneCfg := by
  decide +kernel

theorem test_zoneQuery :
    (sentPayload (after (.zoneQuery 1 [5]) (zone5 1320 1320 .clear (.rise 45 false)))).take 19 =
      [0, 5, 2, 0x05, 0x28, 0x06, 0x40, 2, 0x01, 0x18, 1, 0, 45, 1, 0, 0, 0, 0xFF, 0] := by decide +kernel

/-- The expiry at 2105, and the one at 2570 with the target CLEAR. -/
theorem test_dwellExpiry :
    (after (.dwellExpiry 5) (zone5 1320 1320 .clear (.rise 1 true))).zone 5 = zoneAt 1320 .watch .none
      ∧ ((after (.dwellExpiry 5) (zone5 1240 1240 .alarm (.fall 1 true))).zone 5).grade = .clear := by decide +kernel

/-- The events at 2180 (a rise dwell is loaded) and 2240 (hysteresis keeps ALARM). -/
theorem test_evaluation :
    ((zone5 1520 1460 .watch .none).evaluate 5 .ordinary).zone 5 = zoneAt 1520 .watch (.rise 45 false)
      ∧ ((zone5 1490 1520 .alarm .none).evaluate 5 .ordinary).zone 5 = zoneAt 1490 .alarm .none := by decide +kernel

/-- The dwell counts and falls due in its last second; one whose expiry was not sent is taken before the next second. -/
theorem test_uptimeSecond :
    ((after .uptimeSecond (zone5 1320 1320 .clear (.rise 45 false))).zone 5).dwell = .rise 44 false
      ∧ ((after .uptimeSecond (zone5 1320 1320 .clear (.rise 1 false))).zone 5).dwell = .rise 1 true
      ∧ (after .uptimeSecond (zone5 1320 1320 .clear (.rise 1 true))).zone 5 = zoneAt 1320 .watch .none
      ∧ (after .uptimeSecond (running.setScan ⟨.continuous, 60, none, some 2, false, 300⟩)).scan.countdown = some 1 := by
  decide +kernel

/-! ### Leak channels: 07_leak_sense_channels.md, a trench going wet -/

theorem test_leakSetupEnable :
    sentPayload (after (.leakSetupEnable 1 [6, 1, 0, 10, 0, 20]) running) = [0x01, 6, 1, 0, 16, 0, 16, 1] := by
  decide +kernel

theorem test_leakSetupDisable :
    ((after (.leakSetupDisable 1 [6, 0, 0, 120, 0, 24]) (gate6 (trench 1850 .wet 0))).channel 6).state = .off
      ∧ (after (.leakSetupDisable 1 [6, 0, 0, 120, 0, 24]) (gate6 (trench 1850 .wet 0))).leak.discard = true := by
  decide +kernel

theorem test_leakRecalibrate :
    sentPayload (after (.leakRecalibrate 1 [2]) (running.setChannel 2 (trench 2211 .opened 0))) = [0, 2, 4, 1] := by
  decide +kernel

theorem test_leakQuery :
    sentPayload (after (.leakQuery 1 [6]) (gate6 (trench 1850 .dry 1))) =
      [0, 6, 1, 0, 120, 0, 24, 2, 1, 0x07, 0x3A, 0xFF, 0xFF, 0, 0, 0, 0, 0, 0, 0, 0, 0] := by decide +kernel

theorem test_roundStart :
    (after .roundStart (running.setChannel 6 (trench 1850 .dry 0))).leak.position = some 6 := by decide +kernel

/-- The rounds from 7000 to 7016, and from 7300 to 7301.5, as the channel judges them. -/
theorem test_trench_counts :
    (trench 1850 .dry 0).judged 1862 = { trench 1851 .dry 0 with last := some 1862 } := by decide +kernel

theorem test_gateClose :
    (after (.gateClose 1655) (gate6 (trench 1850 .dry 1))).channel 6 = { trench 1850 .wet 0 with last := some 1655 }
      ∧ (after (.gateClose 1803) (gate6 (trench 1850 .wet 1))).channel 6 =
          { trench 1850 .dry 0 with last := some 1803 } := by decide +kernel

/-! ### Events: 08_condensation_events.md -/

theorem test_eventList :
    sentPayload (after (.eventList 1 []) (oneRecord (record 104 3 .cleared))) =
      [0, 1, 0, 117, 0, 104, 3, 1, 3, 3, 0, 0, 0, 0, 0, 0, 0, 0] := by decide +kernel

theorem test_eventQuery :
    sentPayload (after (.eventQuery 1 [0, 104]) (oneRecord (record 104 3 .opened))) =
      [0, 3, 0, 104, 3, 1, 1, 0, 0, 0, 0, 0xFF, 0xFF, 0xFF, 0xFF, 0xFF, 0, 70, 0, 0, 0x80, 0, 0x80, 0, 0, 90, 0] := by
  decide +kernel

/-- The Ack at 5120: record 104 goes, zone 17 is given record 117. -/
theorem test_eventAck :
    sentPayload (after (.eventAck 1 [0, 104]) (fullList (some .water))) = [0, 0, 104, 3, 3, 4, 0, 117, 17] := by
  decide +kernel

/-- R128's example: the counter at 65535 with records 1 and 2. -/
theorem test_event_numbers :
    ((running.setEvents { EventList.empty 1 with
        places := ((EventList.empty 1).places.set 0 ⟨some (record 1 0 .opened), none⟩).set 1
          ⟨some (record 2 1 .opened), none⟩, order := [0, 1] }).eventGradeChange 9 .alarm).events.nextNumber = 4 := by
  decide +kernel

/-! ### Lines: 09_output_lines.md -/

theorem test_lineSetup :
    sentPayload (after (.lineSetup 1 [0, 2, 0, 0, 0x40, 0, 5, 1, 0]) running) =
      [0, 0, 2, 0, 0, 0x40, 0, 5, 1, 0, 0, 0, 0, 2, 1, 0, 0, 0, 0, 0] := by decide +kernel

/-- The Release at 7200, with the zone still WET, and the one at 7310. -/
theorem test_lineRelease :
    sentPayload (after (.lineRelease 1 [0])
      ((zone5 1520 1520 .wet .none).setOutLine 0 { lineIn .latch with latched := true, drive := .active })) = [0, 0, 1, 1, 1]
      ∧ sentPayload (after (.lineRelease 1 [0])
          ((zone5 1520 1520 .clear .none).setOutLine 0 { lineIn .latch with latched := true, drive := .active })) =
          [0, 0, 0, 0, 2] := by decide +kernel

theorem test_lineQuery :
    sentPayload (after (.lineQuery 1 [3]) running) =
      [0, 3, 0, 0, 0, 0, 0, 4, 1, 0, 0, 0, 0, 2, 1, 0, 0, 0, 0, 0] := by decide +kernel

/-- The frame of 6000: M 250 gives 63. -/
theorem test_dutyFrameStart :
    ((after .dutyFrameStart (running.setOutLine 2 { lineIn .proportional with computed := 63 })).outLine 2).applied = 63
      ∧ ((after .dutyFrameStart (running.setOutLine 2 { lineIn .proportional with computed := 63 })).outLine 2).drive =
          .active ∧ onTimeMs 63 = 247 ∧ onTimeMs 153 = 600 ∧ onTimeMs 1 = 3 := by decide +kernel

theorem test_dutyOnTimeEnd :
    ((after (.dutyOnTimeEnd 2)
      (running.setOutLine 2 { lineIn .proportional with applied := 63, drive := .active })).outLine 2).drive = .inactive
      ∧ ((after (.dutyOnTimeEnd 2)
          (running.setOutLine 2 { lineIn .proportional with applied := 255, drive := .active })).outLine 2).drive =
          .active := by decide +kernel

/-! ### Witnesses: for each statement with hypotheses, a state and operands that meet them, clause by clause -/

/-- With nothing waiting or executing and a slot free, any request begins at its arrival. -/
theorem begins_idle (s : State) (r : Request)
    (h : s.power = .running ∧ s.port.executing = none ∧ s.port.waiting = [] ∧ s.port.slotsHeld < 4) : s.begins r s :=
  ⟨h.1, h.2.1, .inl ⟨h.2.2.1, h.2.2.2, rfl⟩⟩

/-- The same where the request is the oldest that waits. -/
theorem begins_waiting (s : State) (r : Request) (rest : List Request)
    (h : s.power = .running ∧ s.port.executing = none ∧ s.port.waiting = r :: rest) :
    s.begins r (s.setPort { s.port with waiting := rest }) :=
  ⟨h.1, h.2.1, .inr ⟨rest, h.2.2, rfl⟩⟩

theorem running_begins (r : Request) : running.begins r running := begins_idle _ _ (by decide)

theorem running_line : running.lineSound := fun _ => .inr ⟨rfl, rfl, rfl⟩

/-- Four requests wait, the slots' full number. -/
def fourWaiting : State := running.setPort { running.port with waiting := List.replicate 4 ⟨0x01, 0, []⟩ }

theorem witness_begins : fourWaiting.begins ⟨0x01, 0, []⟩
    (fourWaiting.setPort { fourWaiting.port with waiting := List.replicate 3 ⟨0x01, 0, []⟩ }) :=
  begins_waiting _ _ _ (by decide)

theorem witness_StepRunsFrontCommand :
    ({ running with pending := [.powerOn, .uptimeSecond] } : State).pending = .powerOn :: [.uptimeSecond] := rfl

set_option maxRecDepth 20000 in
/-- The check in store at reset is not that of its contents (assumption 2). -/
theorem blank_invalid : Store.blank.check ≠ Store.blank.contents.check := by decide +kernel

theorem witness_PowerOnAndPowerLoss :
    (∀ tag, running.port.executing ≠ some (.keepSettings tag))
      ∧ (portWith (some (.keepSettings 7)) none).port.executing = some (.keepSettings 7)
      ∧ (portWith (some (.keepSettings 7)) none).storeSound
      ∧ (portWith (some (.keepSettings 7)) none).store.markedInvalid = false :=
  ⟨(fun tag h => by cases (show none = some (Execution.keepSettings tag) from h)), rfl,
    fun _ _ => blank_invalid, rfl⟩

set_option maxRecDepth 20000 in
theorem witness_SettingsLoadStartsEveryBlock :
    State.reset.power = .loading
      ∧ ¬ (State.reset.store.check = State.reset.store.contents.check ∧ State.reset.store.markedInvalid = false)
      ∧ (State.unloaded .loading ⟨Image.default, Image.default.check, false⟩ []).power = .loading
      ∧ (⟨Image.default, Image.default.check, false⟩ : Store).check = Image.default.check := by decide +kernel

/-- A part that executes Keep Settings while one request waits. -/
def writingWith (r : Request) : State :=
  running.setPort { running.port with executing := some (.keepSettings 255), waiting := [r] }

/-- A row of the table of requests. -/
theorem identify_row : (Instr.identify, (0x01 : Byte), fun _ : List Byte => true) ∈ Machine.requestRows := .head _

theorem witness_KeepSettingsTakesAndJudges :
    running.begins ⟨0x03, 0, []⟩ running ∧ running.lineSound
      ∧ (portWith (some (.keepSettings 255)) none).power = .running
      ∧ (portWith (some (.keepSettings 255)) none).port.executing = some (.keepSettings 255)
      ∧ (portWith (some (.keepSettings 255)) none).port.waiting = []
      ∧ (writingWith ⟨0x7E, 1, []⟩).power = .running
      ∧ (writingWith ⟨0x7E, 1, []⟩).port.executing = some (.keepSettings 255)
      ∧ (writingWith ⟨0x7E, 1, []⟩).port.waiting = [⟨0x7E, 1, []⟩] ∧ 0x7E ∉ requestKinds
      ∧ (writingWith ⟨0x01, 1, []⟩).port.waiting = [⟨0x01, 1, []⟩]
      ∧ (Instr.identify, (0x01 : Byte), fun _ : List Byte => true) ∈ Machine.requestRows
      ∧ ∀ s : State, ∃ u, exec (.identify 1 []) s = .next u :=
  ⟨running_begins _, running_line, rfl, rfl, rfl, rfl, rfl, rfl, by decide, rfl, identify_row, fun s => by
    simp only [exec, execIdentify, runRequest, whenAdmitted, finish]
    split <;> exact ⟨_, rfl⟩⟩

theorem witness_SettingsSurvivePowerCycle :
    running.begins ⟨0x03, 1, []⟩ running ∧ running.lineSound
      ∧ (∀ c, (running.channel c).enabled = false → (running.channel c).baseline = none) ∧ running.port.waiting = [] :=
  ⟨running_begins _, running_line, by decide +kernel, rfl⟩

theorem witness_WarmRestartRepliesThenResets :
    running.begins ⟨0x04, 1, []⟩ running
      ∧ (portWith (some (.warmRestart true)) none).power = .running
      ∧ (portWith (some (.warmRestart true)) none).port.executing = some (.warmRestart true)
      ∧ (portWith (some (.warmRestart true)) none).port.line = none
      ∧ (portWith (some (.warmRestart true)) none).scan.mode ≠ .continuous
      ∧ (portWith (some (.warmRestart true)) none).port.waiting = []
      ∧ ((portWith (some (.warmRestart true)) none).setScan ⟨.continuous, 5, some 6, some 1, true, 300⟩).scan.mode =
          .continuous :=
  ⟨running_begins _, rfl, rfl, rfl, by decide, rfl, rfl⟩

/-- A part whose four slots are held, by Keep Settings and three requests that wait, and n PORT_FULL replies wait behind
the one being sent. -/
def refusing (n : Nat) : State :=
  running.setPort
    { running.port with executing := some (.keepSettings 1), waiting := List.replicate 3 ⟨0x01, 0, []⟩,
                        line := some (frameOf .portFull), wire := lineBytes (some (frameOf .portFull)),
                        replies := List.replicate n (frameOf .portFull) }

/-- A part whose Warm Restart reset is due, with four requests that wait. -/
def resetDueFull : State :=
  running.setPort
    { running.port with executing := some (.warmRestart true), waiting := List.replicate 4 ⟨0x01, 0, []⟩ }

/-- A running part in whose receiver the first n bytes of a Summary frame stand. -/
def halfReceived (n : Nat) (s : State) : State := s.setPort { s.port with rx := (frameBytes 0x02 0x33 []).take n }

/-- Boundaries: a frame of which one byte more is wanting than comes, its last byte, five frames at once; one slot
held and none. -/
theorem witness_FrameArrivalTakesASlot :
    State.reset.power ≠ .running
      ∧ (receiveBytes (halfReceived 4 running).port.rx (((frameBytes 0x02 0x33 []).drop 4).take 1)).1 = []
      ∧ (receiveBytes (halfReceived 5 running).port.rx ((frameBytes 0x02 0x33 []).drop 5)).1 = [⟨0x02, 0x33, []⟩]
      ∧ (receiveBytes running.port.rx (List.replicate 5 (frameBytes 0x02 0x33 [])).flatten).1.length = 5
      ∧ ((portWith (some (.keepSettings 1)) none).power = .running ∧ (portWith (some (.keepSettings 1)) none).lineSound
          ∧ (portWith (some (.keepSettings 1)) none).port.slotsHeld < 4
          ∧ (portWith (some (.keepSettings 1)) none).port.executing ≠ none)
      ∧ (running.power = .running ∧ running.port.rx = [] ∧ running.lineSound ∧ running.port.slotsHeld < 4
          ∧ running.port.executing = none ∧ running.port.waiting = [])
      ∧ ((halfReceived 5 running).lineSound ∧ (halfReceived 5 running).port.slotsHeld < 4
          ∧ (halfReceived 5 running).port.executing = none ∧ (halfReceived 5 running).port.waiting = []) := by
  unfold State.lineSound; decide +kernel

/-- The same with three slots held and four: seven PORT_FULL replies behind the one being sent and eight; a Warm Restart reset due;
the longest payload. -/
theorem witness_FrameArrivalTakesASlot_full :
    ((refusing 7).setPort { (refusing 7).port with waiting := List.replicate 2 ⟨0x01, 0, []⟩ }).port.slotsHeld = 3
      ∧ ((refusing 7).power = .running ∧ (refusing 7).port.rx = [] ∧ (refusing 7).lineSound
          ∧ (refusing 7).port.resetDue = false ∧ 4 ≤ (refusing 7).port.slotsHeld ∧ (refusing 7).port.portFullWaiting < 8
          ∧ (refusing 7).port.executing ≠ none)
      ∧ ((refusing 8).power = .running ∧ (refusing 8).lineSound ∧ 4 ≤ (refusing 8).port.slotsHeld
          ∧ 8 ≤ (refusing 8).port.portFullWaiting ∧ (refusing 8).port.executing ≠ none)
      ∧ (resetDueFull.power = .running ∧ resetDueFull.lineSound ∧ resetDueFull.port.resetDue = true
          ∧ 4 ≤ resetDueFull.port.slotsHeld ∧ resetDueFull.port.portFullWaiting < 8
          ∧ resetDueFull.port.executing ≠ none)
      ∧ ((⟨0x3B, 1, List.replicate 238 0⟩ : Request).payload.length ≤ 238
          ∧ 0x3B ∉ requestKinds) := by
  unfold State.lineSound; decide +kernel

/-- An unknown kind and a Scan Setup with mode 1 each have their row. -/
theorem witness_isRow :
    Request.isRow ⟨0x3B, 1, []⟩ (.unknownKind 0x3B 1 [])
      ∧ Request.isRow ⟨0x18, 1, [1, 0, 60, 1, 44]⟩ (.scanSetupContinuous 1 [1, 0, 60, 1, 44]) :=
  ⟨.inl ⟨by decide, rfl⟩, .inr ⟨(.scanSetupContinuous, 0x18, fun p => p.length == 5 && u8 p 0 == 1), by simp [requestRows], rfl, by decide, rfl⟩⟩

theorem witness_ReceiverReadsFrameBack :
    ((List.replicate 238 (0xA5 : Byte)).length ≤ 238 ∧ ∀ b ∈ [(0x00 : Byte), 0xA4], b ≠ 0xA5)
      ∧ ((1 : Byte).toNat < 2 ∧ 240 < (241 : Byte).toNat)
      ∧ (2 ≤ (2 : Byte).toNat ∧ (2 : Byte).toNat ≤ 240 ∧ [(0x01 : Byte), 0x2A].length = (2 : Byte).toNat
          ∧ (0 : Byte) ++ (0 : Byte) ≠ crc16 [2, 0x01, 0x2A])
      ∧ ([(0x01 : Byte), 0x2A, 0]).length < (2 : Byte).toNat + 2
      ∧ ((240 : Byte).toNat ≤ 240 ∧ (List.replicate 241 (0xA5 : Byte)).length < (240 : Byte).toNat + 2) := by
  decide +kernel

/-- A part that sends a frame of a role while replies and notices wait. -/
def sending (role : FrameRole) (replies : List OutFrame) (urgent routine : List Source) : State :=
  running.setPort { running.port with line := some (frameOf role), wire := lineBytes (some (frameOf role)),
                                      replies := replies, urgent := urgent, routine := routine }

theorem witness_FrameSentFreesAndChooses :
    (sending (.report 3) [frameOf .reply] [.zone 0] [.zone 23]).port.line = some (frameOf (.report 3))
      ∧ (sending (.report 3) [frameOf .reply] [.zone 0] [.zone 23]).power = .running
      ∧ (sending (.report 3) [frameOf .reply] [.zone 0] [.zone 23]).port.resetDue = false
      ∧ (sending (.report 3) [frameOf .reply] [.zone 0] [.zone 23]).port.replies = [frameOf .reply]
      ∧ ((sending .reply [] [.zone 0] [.zone 23]).port.replies = []
          ∧ (sending .reply [] [.zone 0] [.zone 23]).port.urgent = [.zone 0])
      ∧ ((sending .reply [] [] [.zone 23]).port.urgent = [] ∧ (sending .reply [] [] [.zone 23]).port.routine = [.zone 23])
      ∧ (sending .reply [] [] []).port.routine = []
      ∧ (portWith (some (.warmRestart false)) (some (frameOf .restartReply))).port.line = some (frameOf .restartReply)
      ∧ (portWith (some (.warmRestart false)) (some (frameOf .restartReply))).port.resetDue = false
      ∧ (portWith (some (.warmRestart false)) (some (frameOf .restartReply))).port.executing =
          some (.warmRestart false)
      ∧ running.power = .running ∧ running.lineSound := by
  unfold State.lineSound; decide +kernel

theorem witness_UnknownKindAndBadLength :
    (0x00 ∉ requestKinds ∧ 0x3B ∉ requestKinds ∧ running.begins ⟨0x3B, 1, []⟩ running)
      ∧ ∀ row ∈ fixedRequests, running.begins ⟨row.2.1, 1, List.replicate (row.2.2 + 1) 0⟩ running
          ∧ (List.replicate (row.2.2 + 1) (0 : Byte)).length ≠ row.2.2 :=
  ⟨⟨by decide, by decide, running_begins _⟩, fun _ _ => ⟨running_begins _, by simp⟩⟩

/-- For each row of `badFieldRequests`, a payload just outside a range. -/
def badPayloads : List (List Byte) :=
  [[0, 0, 0, 0, 2], [0, 0, 3, 0, 0, 0, 0], [0, 32], [2, 0], [2], [2, 0, 4, 1], [3, 0, 5, 0, 30], [3, 0, 5, 0, 30],
   [3, 0, 5, 0, 30], [0, 0, 24], [0, 32, 2, 0], [2, 0], [0, 32, 2], List.replicate 15 0 ++ [2, 0], [24], [24], [24],
   [8, 1, 0, 16, 0, 8], [8, 0, 0, 16, 0, 8], [8], [8], [0, 0, 1, 0, 0, 0, 4, 0, 0], [4], [4], [0, 0], [0, 0]]

theorem witness_BadFieldChangesNothing :
    (badFieldRequests.zip badPayloads).length = badFieldRequests.length
      ∧ ((badFieldRequests.zip badPayloads).all fun x => decide (x.2.length = x.1.2.2.1) && x.1.2.2.2 x.2) = true := by
  decide +kernel

theorem witness_QueriesOnlyAnswer :
    running.begins ⟨0x01, 1, []⟩ running ∧ running.begins ⟨0x12, 1, [1, 31]⟩ running
      ∧ running.begins ⟨0x2B, 1, [23]⟩ running
      ∧ (oneRecord (record 255 3 .opened)).begins ⟨0x39, 1, [0, 255]⟩ (oneRecord (record 255 3 .opened))
      ∧ [(0 : Byte), 255].length = 2 ∧ u16 [0, 255] 0 ≠ 0
      ∧ ((oneRecord (record 255 3 .opened)).findNumber (u16 [0, 255] 0)).isSome = true
      ∧ (running.findNumber (u16 [0, 255] 0)).isSome = false :=
  ⟨running_begins _, running_begins _, running_begins _, begins_idle _ _ (by decide +kernel), rfl, by decide,
    by decide +kernel, by decide +kernel⟩

theorem witness_NoticeMaskFiltersTheQueue :
    (sending .reply [] [.zone 0] [.leak 7]).begins ⟨0x05, 1, [0, 1, 0, 1, 1]⟩ (sending .reply [] [.zone 0] [.leak 7]) :=
  ⟨rfl, rfl, .inl ⟨rfl, by decide, rfl⟩⟩

theorem witness_RaisingFollowsTheTable :
    ({ running.port with mask := { NoticeMask.default with zone := false } } : Port).mask.enables (.zone 0) = false
      ∧ (running.port.mask.enables (.zone 0) = true ∧ .zone 0 ∉ running.port.urgent ∧ .zone 0 ∉ running.port.routine)
      ∧ (.zone 0 ∉ (sending .reply [] [] [.zone 0]).port.urgent ∧ .zone 0 ∈ (sending .reply [] [] [.zone 0]).port.routine
          ∧ (sending .reply [] [] [.zone 0]).port.routine.Nodup)
      ∧ .zone 0 ∈ (sending .reply [] [.zone 0] []).port.urgent := by decide

theorem witness_DefineAndRetireProbe :
    ([0, 31, 2, 0x01, 0xF4, 0x00, 0x00].length = 7 ∧ u8 [0, 31, 2, 0x01, 0xF4, 0x00, 0x00] 0 = (0 : Trunk).val
        ∧ u8 [0, 31, 2, 0x01, 0xF4, 0x00, 0x00] 1 = (31 : Drop).val
        ∧ u8 [0, 31, 2, 0x01, 0xF4, 0x00, 0x00] 2 = Kind.surface.code.toNat
        ∧ s16 [0, 31, 2, 0x01, 0xF4, 0x00, 0x00] 3 = 500)
      ∧ running.begins ⟨0x10, 1, [0, 31, 2, 0x01, 0xF4, 0x00, 0x00]⟩ running
      ∧ running.begins ⟨0x11, 1, [1, 31]⟩ running ∧ (running.probe ⟨1, 31⟩).config = none
      ∧ ((running.setProbe ⟨1, 31⟩ probeA04).probe ⟨1, 31⟩).config ≠ none :=
  ⟨by decide, running_begins _, running_begins _, by decide +kernel, by decide +kernel⟩

theorem witness_AgeExpiryDropsDf :
    ((at_ 301).setProbe ⟨0, 4⟩ (airWith 0)).power = .running ∧ ((at_ 301).setProbe ⟨0, 4⟩ (airWith 0)).lineSound
      ∧ (((at_ 301).setProbe ⟨0, 4⟩ (airWith 0)).probe ⟨0, 4⟩).expiry = some 301
      ∧ 301 ≤ ((at_ 301).setProbe ⟨0, 4⟩ (airWith 0)).uptime
      ∧ (((at_ 300).setProbe ⟨0, 4⟩ (airWith 0)).probe ⟨0, 4⟩).expiry = some 301
      ∧ ((at_ 300).setProbe ⟨0, 4⟩ (airWith 0)).uptime < 301 :=
  ⟨rfl, fun _ => .inr ⟨rfl, rfl, rfl⟩, by decide +kernel, by decide +kernel, by decide +kernel, by decide +kernel⟩

/-- The reading of second 0 is 300 s old at 300: valid under 300, not under 299. -/
theorem witness_MaxAgeRejudgesEveryReading :
    (airWith 0).validAt 300 300 = true ∧ (airWith 0).validAt 299 300 = false ∧ (airWith 0).reading.isSome = true
      ∧ (∀ a, running.map.lookup a = some 5 → (running.probe a).validAt 300 0 = (running.probe a).validAt 30 0)
      ∧ ((zone5 0 0 .clear .none).map.lookup ⟨0, 4⟩ = some 5
          ∧ ((zone5 0 0 .clear .none).probe ⟨0, 4⟩).validAt 300 300 ≠
              ((zone5 0 0 .clear .none).probe ⟨0, 4⟩).validAt 299 300
          ∧ ((zone5 0 0 .clear .none).zone 5).enabled = true ∧ (running.zone 5).enabled = false) :=
  ⟨by decide, by decide, rfl, (fun a h => by
    have : running.map.lookup a = none := by
      obtain ⟨t, d⟩ := a
      revert t d
      decide +kernel
    rw [this] at h
    cases h), by decide +kernel⟩

theorem witness_TrunkRequests :
    (((onTrunk { Engine.start TrunkSettings.default with halted := true, failures := 32 }).engine 0).halted = true
        ∧ ((onTrunk { Engine.start TrunkSettings.default with halted := true, failures := 32 }).engine 0).waitList = []
        ∧ ((onTrunk { Engine.start TrunkSettings.default with halted := true, failures := 32 }).engine 0).inFlight = none)
      ∧ ((onTrunk (inFlight 0 .listening)).engine 0).halted = false
      ∧ ([1, 4, 3, 16] : List Byte).length = 4 ∧ u8 [1, 4, 3, 16] 0 = (1 : Trunk).val := by decide +kernel

theorem witness_GapEndsAndTransactionOpens :
    (((onTrunk (inFlight 31 .gap)).engine 0).link = .gap
        ∧ ((onTrunk (inFlight 31 .gap)).engine 0).inFlight = some (newItem 31 .scan))
      ∧ ((running.setEngine 1 { Engine.start TrunkSettings.default with link := .gap }).engine 1).link = .gap
      ∧ ((running.setEngine 1 { Engine.start TrunkSettings.default with link := .gap }).engine 1).waitList = []
      ∧ ((onTrunk { Engine.start TrunkSettings.default with link := .gap, waitList := [newItem 0 .scan] }).engine 0
          ).waitList = [newItem 0 .scan]
      ∧ ((onTrunk (inFlight 0 (.sending [0, 1]))).engine 0).link = .sending [0, 1]
      ∧ ((onTrunk (inFlight 0 (.strandedSending [0, 1]))).engine 0).link = .strandedSending [0, 1]
      ∧ (onTrunk (inFlight 31 .gap)).power = .running := by decide +kernel

/-- An answer of seven characters from A04, its check right. -/
def answerA04 (status : Byte) : List Byte :=
  [4, status, 0x21, 0x34, 0x27, 0x10, crc8 [4, status, 0x21, 0x34, 0x27, 0x10]]

/-- Trunk A listens for A04, whose kind is defined as given. -/
def listeningTo (k : Option Kind) : State :=
  match k with
  | some k => (onTrunk (inFlight 4 .listening)).setProbe ⟨0, 4⟩ (ProbeRecord.fresh ⟨k, 500, -1000⟩)
  | none => onTrunk (inFlight 4 .listening)

/-- Trunk A listens for A04, whose NOT_READY count is given, for point 0 of the order in slot 3; a SURVEY item and a
SCAN item wait. -/
def surveying (notReady : Nat) : State :=
  ((onTrunk { inFlight 4 .listening with
      inFlight := some { newItem 4 (.survey 3 0) with notReady := notReady },
      waitList := [newItem 5 (.survey 3 1), newItem 6 .scan] }).setSlot 3
    (.held { tag := 0x40, points := [⟨0, 4⟩, ⟨0, 5⟩], outcomes := [none, none], outstanding := 2 })).setProbe ⟨0, 4⟩
      (ProbeRecord.fresh ⟨.air, 500, -1000⟩)

/-- Trunk A, whose item was abandoned at Warm Restart, waits for its answer timeout. -/
def stranded : State := onTrunk { Engine.start TrunkSettings.default with link := .strandedListening }

/-- The temperature 8500 and the RH 10000 stand at the ends of what checks 5 and 6 take; NOT_READY is the fourth and the
fifth of its item; a wrong check gives BAD_CHECK. One point settles of two, and at a halt both, which completes the
order. -/
theorem witness_AnswerReceivedIsApplied :
    ((listeningTo (some .air)).power = .running ∧ ((listeningTo (some .air)).engine 0).link = .listening
        ∧ ((listeningTo (some .air)).engine 0).inFlight = some (newItem 4 .scan) ∧ (answerA04 0x05).length = 7)
      ∧ (judgeAnswer ((listeningTo (some .air)).kindAt ⟨0, 4⟩) 4 (answerA04 0x05) 0).outcome = .good
      ∧ (judgeAnswer ((listeningTo none).kindAt ⟨0, 4⟩) 4 (answerA04 0x07) 0).outcome = .tainted
      ∧ (judgeAnswer ((listeningTo (some .air)).kindAt ⟨0, 4⟩) 4 (answerA04 0x05) 0).reading =
          some ⟨8500, some 10000, false, false⟩
      ∧ (judgeAnswer ((listeningTo (some .surface)).kindAt ⟨0, 4⟩) 4 (answerA04 0x05) 0).outcome = .kindMismatch
      ∧ (judgeAnswer ((listeningTo (some .air)).kindAt ⟨0, 4⟩) 4 (answerA04 0x04) 0).outcome = .notReady
      ∧ (judgeAnswer ((listeningTo (some .air)).kindAt ⟨0, 4⟩) 4 [4, 5, 0x21, 0x34, 0x27, 0x10, 0] 0).outcome = .badCheck
      ∧ (listeningTo (some .air)).lineSound
      ∧ ((surveying 3).power = .running ∧ ((surveying 3).engine 0).link = .listening ∧ (surveying 3).lineSound
          ∧ ((surveying 3).engine 0).inFlight = some { newItem 4 (.survey 3 0) with notReady := 3 })
      ∧ ((surveying 4).power = .running ∧ ((surveying 4).engine 0).link = .listening
          ∧ ((surveying 4).engine 0).inFlight = some { newItem 4 (.survey 3 0) with notReady := 4 })
      ∧ (stranded.power = .running ∧ stranded.lineSound ∧ (stranded.engine 0).link ≠ .listening)
      ∧ settledPoints 3 ⟨.good, none⟩ [newItem 4 (.survey 3 0)] = [(0, ⟨.good, none⟩)]
      ∧ settledPoints 3 ⟨.trunkHalted, none⟩ ((surveying 3).engine 0).waitList = [(1, ⟨.trunkHalted, none⟩)] := by
  unfold State.lineSound; decide +kernel

theorem witness_AnswerJudgedInOrder :
    (judgeAnswer (some .air) 4 (answerA04 0x05) 9).reading.isSome = true := by decide +kernel

theorem witness_AnswerTimeoutRetriesEndsOrHalts :
    ((listeningTo (some .air)).power = .running ∧ ((listeningTo (some .air)).engine 0).link = .listening
        ∧ (listeningTo (some .air)).lineSound ∧ ([1, 2, 3, 4, 5, 6] : List Byte).length < 7)
      ∧ (newItem 4 .scan).attempts < ((listeningTo (some .air)).engine 0).attempt.retries
      ∧ ¬ ((listeningTo (some .air)).engine 0).attempt.haltThreshold ≤ ((listeningTo (some .air)).engine 0).failures + 1
      ∧ ((listeningTo (some .air)).probe ⟨0, 4⟩).config ≠ none ∧ ((listeningTo none).probe ⟨0, 4⟩).config = none
      ∧ ((onTrunk { inFlight 4 .listening with failures := 11 }).engine 0).attempt.haltThreshold ≤
          ((onTrunk { inFlight 4 .listening with failures := 11 }).engine 0).failures + 1
      ∧ ((onTrunk { inFlight 4 .listening with attempt := ⟨0, 12, 3⟩ }).engine 0).attempt.retries ≤
          (newItem 4 .scan).attempts
      ∧ (((surveying 0).setEngine 0 { (surveying 0).engine 0 with failures := 11 }).engine 0).waitList =
          [newItem 5 (.survey 3 1), newItem 6 .scan]
      ∧ (surveying 0).port.mask.trunk = true ∧ (surveying 0).port.mask.probe = true
      ∧ (stranded.power = .running ∧ stranded.lineSound ∧ (stranded.engine 0).link = .strandedListening)
      ∧ (running.lineSound ∧ (running.engine 0).link ≠ .listening ∧ (running.engine 0).link ≠ .strandedListening) := by
  unfold State.lineSound; decide +kernel

theorem default_inRange : TrunkSettings.default.inRange := by unfold TrunkSettings.inRange; decide

/-- A trunk at rest is sound. -/
theorem start_sound (halted : Bool) : ({ Engine.start TrunkSettings.default with halted := halted } : Engine).sound where
  oneScan := List.nodup_nil
  halted := fun _ => ⟨rfl, rfl⟩
  free := fun _ => ⟨rfl, fun _ => rfl⟩
  query := fun _ h => nomatch (show Link.ready = .sending _ from h)
  listening := fun h => nomatch (show Link.ready = .listening from h)
  stranded := fun _ => rfl
  settings := default_inRange
  attempt := default_inRange
  failures := Nat.zero_le _
  counting := fun _ => Nat.zero_lt_succ _
  items := fun _ h => nomatch h

theorem running_engines (t : Trunk) : (running.engine t).sound :=
  (show running.engine t = Engine.start TrunkSettings.default by revert t; decide) ▸ start_sound false

theorem witness_ScanSetupByMode :
    (∀ t, (running.engine t).sound)
      ∧ ([1, 0, 4, 0, 29] : List Byte).length = 5 ∧ u8 [1, 0, 4, 0, 29] 0 = 1 ∧ running.scan.mode ≠ .continuous
      ∧ running.begins ⟨0x18, 1, [1, 0, 4, 0, 29]⟩ running
      ∧ (running.setScan ⟨.continuous, 5, none, some 1, true, 30⟩).begins ⟨0x18, 1, [1, 0, 4, 0, 29]⟩
          (running.setScan ⟨.continuous, 5, none, some 1, true, 30⟩)
      ∧ (running.setScan ⟨.continuous, 5, none, some 1, true, 30⟩).scan.mode = .continuous
      ∧ u8 [2, 0x0E, 0x11, 0, 30] 0 = 2 ∧ u8 [0, 0x0E, 0x10, 0x1C, 0x21] 0 = 0 :=
  ⟨running_engines, rfl, rfl, by decide, running_begins _, begins_idle _ _ (by decide), rfl, rfl, rfl⟩

theorem witness_PeriodStartBeginsCycle :
    running.power = .running ∧ running.lineSound ∧ (∀ t, (running.engine t).sound)
      ∧ (running.setScan ⟨.continuous, 5, none, some 1, true, 30⟩).scan.due = true
      ∧ (running.setScan ⟨.continuous, 5, none, some 1, false, 30⟩).scan.due = false :=
  ⟨rfl, running_line, running_engines, rfl, rfl⟩

/-- An order with a tag, its one point unsettled. -/
def orderOf (tag : Byte) : SurveyOrder := ⟨tag, [⟨0, 0⟩], [none], 1⟩

/-- The points of the segments of a survey, in order (R33). -/
def pointsOf (segments : List (Byte × Byte × Byte)) : List Addr :=
  segments.flatMap fun g => allAddrs.filter fun a =>
    a.trunk.val == g.1.toNat && decide (g.2.1.toNat ≤ a.drop.val) && decide (a.drop.val < g.2.1.toNat + g.2.2.toNat)

theorem running_slots (k : SlotId) : running.slot k = .free := by revert k; decide

/-- The first group: [], a count of 0, of 9, and a length that is one too long. The second: 24 points and 25; a tag
held; no slot FREE; a slot FREE with every lower one held; both trunks running, and both HALTED. -/
theorem witness_SurveyAcceptedOrRefused :
    (u8 [0] 0 = 0 ∧ 8 < u8 [9] 0 ∧ 1 ≤ u8 [1, 0, 0, 1, 0] 0 ∧ ([1, 0, 0, 1, 0] : List Byte).length ≠ 1 + 3 * u8 [1, 0, 0, 1, 0] 0)
      ∧ (pointsOf [(0, 8, 24)]).length ≤ 24 ∧ 24 < (pointsOf [(0, 7, 25)]).length
      ∧ (32 < (8 : Byte).toNat + (25 : Byte).toNat ∧ ¬ 32 < (8 : Byte).toNat + (24 : Byte).toNat)
      ∧ (running.setSlot 3 (.held (orderOf 0x40))).slot 3 = .held (orderOf 0x40)
      ∧ ({ running with slots := Table.all 4 (.closing 1) } : State).slot 3 ≠ .free
      ∧ (∀ k o, running.slot k = .held o → o.tag ≠ 0x40) ∧ running.slot 0 = .free
      ∧ (∀ t, (running.engine t).sound) ∧ (∀ t, (running.engine t).halted = false)
      ∧ ∀ t, ({ running with engines := Table.all 2 { Engine.start TrunkSettings.default with halted := true } } : State
          ).engine t = { Engine.start TrunkSettings.default with halted := true } :=
  ⟨by decide, by decide +kernel, by decide +kernel, by decide, by decide +kernel, by decide +kernel,
    (fun k o h => by rw [running_slots k] at h; cases h), running_slots 0, running_engines, by decide, by decide⟩

theorem witness_SurveyCancelDropsTheOrder :
    (∀ k o, running.slot k = .held o → o.tag ≠ 0x40)
      ∧ (running.setSlot 3 (.held (orderOf 0x40))).slot 3 = .held (orderOf 0x40)
      ∧ (∀ j q, (running.setSlot 3 (.held (orderOf 0x40))).slot j = .held q → q.tag = 0x40 → j = 3) := by
  refine ⟨(fun k o h => by rw [running_slots k] at h; cases h), by decide +kernel, fun j q h _ => ?_⟩
  revert h
  revert j
  have free : ∀ j : SlotId, j ≠ 3 → (running.setSlot 3 (.held (orderOf 0x40))).slot j = .free := by decide +kernel
  intro j h
  by_cases hj : j = 3
  · exact hj
  · rw [free j hj] at h
    cases h

/-- A map with 32 single entries, all of trunk A. -/
def fullSingles : ZoneMap := { ZoneMap.empty with singles := Table.ofFn fun i => if i.val < 32 then some 0 else none }

theorem witness_MapAndUnmapPoint :
    (fullSingles.single ⟨1, 0⟩ = none ∧ 32 ≤ fullSingles.singlesHeld) ∧ fullSingles.single ⟨0, 31⟩ ≠ none
      ∧ running.map.singlesHeld < 32 ∧ running.map.single ⟨1, 31⟩ = none
      ∧ [trunkCode 1, byte 31, byte 23] = [1, 31, 23] := by decide +kernel

/-- A map of eight spans of two drops. -/
def eightSpans : ZoneMap :=
  { ZoneMap.empty with spans := [⟨0, 0, 2, 0⟩, ⟨0, 2, 2, 0⟩, ⟨0, 4, 2, 0⟩, ⟨0, 6, 2, 0⟩, ⟨0, 8, 2, 0⟩, ⟨0, 10, 2, 0⟩,
                                 ⟨0, 12, 2, 0⟩, ⟨0, 14, 2, 0⟩] }

theorem eightSpans_sound : eightSpans.sound := by
  unfold ZoneMap.sound Span.disjoint; decide +kernel

theorem witness_MapAndUnmapSpan :
    eightSpans.sound ∧ (¬ (3 ∈ [2, 4, 8, 16, 32]) ∧ ¬ 2 ∣ 1) ∧ (32 ∈ [2, 4, 8, 16, 32] ∧ 32 ∣ 0)
      ∧ ⟨0, 14, 2, 0⟩ ∈ eightSpans.spans ∧ (∀ old : ZoneId, ⟨0, 0, 32, old⟩ ∉ eightSpans.spans)
      ∧ ((∃ q ∈ eightSpans.spans, 0 < q.size) ∧ 0 < 2 ∧ eightSpans.lookup ⟨0, 15⟩ = some 0
          ∧ eightSpans.single ⟨0, 15⟩ = none ∧ eightSpans.lookup ⟨0, 16⟩ = none)
      ∧ (∃ q ∈ eightSpans.spans, q.meets 0 0 32 = true) ∧ (∀ q ∈ eightSpans.spans, q.meets 0 16 16 = false)
      ∧ eightSpans.spans.length = 8 ∧ (∀ q ∈ carved.spans, q.meets 1 0 2 = false) ∧ carved.spans.length < 8 := by
  refine ⟨eightSpans_sound, by decide, by decide, by decide, by decide +kernel, by decide +kernel, by decide, by decide,
    by decide, ?_⟩
  decide

theorem witness_MapChangeEvaluatesAlteredZones :
    ((zone5 0 0 .clear .none).definedAt ⟨0, 4⟩ = true
        ∧ ¬ ((zone5 0 0 .clear .none).map.lookup ⟨0, 4⟩ = some 5 ↔ ZoneMap.empty.lookup ⟨0, 4⟩ = some 5)
        ∧ ((zone5 0 0 .clear .none).zone 5).enabled = true)
      ∧ (∀ t d, running.definedAt ⟨t, d⟩ = true → running.map.lookup ⟨t, d⟩ = carved.lookup ⟨t, d⟩) := by
  decide +kernel

/-- A payload whose A and W are equal, and one whose A is one below W. -/
theorem witness_ZoneSetupClampsAndEvaluates :
    s16 [23, 0, 100, 0, 100] 1 ≤ s16 [23, 0, 100, 0, 100] 3 ∧ s16 [23, 0, 101, 0, 100] 3 < s16 [23, 0, 101, 0, 100] 1
      ∧ u8 [23, 0, 101, 0, 100, 0, 10, 0, 0, 0, 0, 0, 0x80, 0, 0, 1, 0] 0 = (23 : ZoneId).val
      ∧ [23, 0, 101, 0, 100, 0, 10, 0, 0, 0, 0, 0, 0x80, 0, 0, 1, 0].length = 17
      ∧ u8 [23, 0, 101, 0, 100, 0, 10, 0, 0, 0, 0, 0, 0x80, 0, 0, 1, 0] 15 ≤ 1 := by decide

theorem witness_ZoneOnGradesAtOnce :
    running.begins ⟨0x29, 1, [byte 23]⟩ running ∧ (running.zone 23).enabled = false ∧ (running.zone 23).grade = .off
      ∧ running.port.mask.zone = true ∧ ((zone5 0 0 .clear .none).zone 5).enabled = true :=
  ⟨running_begins _, by decide +kernel, by decide +kernel, rfl, by decide +kernel⟩

theorem witness_ZoneOffDropsEverything :
    (zone5 0 0 .alarm .none).begins ⟨0x2A, 1, [byte 5]⟩ (zone5 0 0 .alarm .none)
      ∧ ((zone5 0 0 .alarm .none).zone 5).enabled = true ∧ ((zone5 0 0 .alarm .none).zone 5).grade ≠ .off
      ∧ (running.zone 0).enabled = false
      ∧ [EventState.opened, .acked, .cleared].all (fun st =>
          (((oneRecord (record 7 5 st)).setZone 5 (zoneAt 0 .alarm .none)).findZone 5) == some (3, record 7 5 st)) = true :=
  ⟨begins_idle _ _ (by decide +kernel), by decide +kernel, by decide +kernel, by decide +kernel, by decide +kernel⟩

/-- Zone 5, its dwell due, whose member has just come in TAINTED, with the wet-element option on. -/
def wetAtExpiry : State :=
  (running.setMap ⟨ZoneMap.empty.singles.set 4 (some 5), []⟩).setProbe ⟨0, 4⟩
      { airWith 1500 with reading := some ⟨2250, some 5500, 2250, some 5500, false, true, 0⟩ }
    |>.setZone 5 { zoneAt 1500 .clear (.rise 1 true) with cfg := { zoneCfg with wetElement := true } }

/-- Zone 5, its dwell due, with no member. -/
def bareAtExpiry : State := running.setZone 5 (zoneAt 1500 .clear (.rise 1 true))

/-- Margins at A and W, where the target lies in the dwell's direction; and where it does not: equal to the grade, and
in the other direction. -/
theorem witness_DwellExpiryTakesTheTarget :
    ((zone5 1320 1320 .clear (.rise 1 false)).zone 5).dwell = .rise 1 false ∧ zoneCfg.a < zoneCfg.w ∧ 0 ≤ zoneCfg.h
      ∧ ([(1500, Grade.clear, Dwell.rise 1 true, 100), (1300, .clear, .rise 1 true, 300), (1299, .clear, .rise 1 true, 301),
          (1249, .watch, .rise 1 true, 351), (1449, .alarm, .rise 1 true, 151), (1249, .alarm, .fall 1 true, 351),
          (1250, .watch, .fall 1 true, 350), (1500, .watch, .fall 1 true, 100), (1300, .clear, .fall 1 true, 300)].all
            fun x =>
          ((zone5 x.1 x.1 x.2.1 x.2.2.1).zone 5).enabled && !(zone5 x.1 x.1 x.2.1 x.2.2.1).wetCondition 5
            && margin (((zone5 x.1 x.1 x.2.1 x.2.2.1).zoneSurface 5).map (·.value)) ((zone5 x.1 x.1 x.2.1 x.2.2.1).zoneDew 5)
              == some x.2.2.2
            && ((zone5 x.1 x.1 x.2.1 x.2.2.1).zone 5).dwell == x.2.2.1) = true
      ∧ (zone5 1249 1249 .alarm (.fall 1 true)).lineSound
      ∧ ((wetAtExpiry.zone 5).enabled = true ∧ wetAtExpiry.wetCondition 5 = true ∧ wetAtExpiry.lineSound
          ∧ (wetAtExpiry.zone 5).dwell = .rise 1 true)
      ∧ ((bareAtExpiry.zone 5).enabled = true ∧ bareAtExpiry.wetCondition 5 = false ∧ bareAtExpiry.lineSound
          ∧ margin ((bareAtExpiry.zoneSurface 5).map (·.value)) (bareAtExpiry.zoneDew 5) = none
          ∧ (bareAtExpiry.zone 5).dwell = .rise 1 true) := by
  unfold State.lineSound; decide +kernel

/-- W 300, A 100, H 50: every clause of the decision has margins, at W, W + 1, A, A + 1, A + H, A + H + 1, W + H and W
+ H + 1, with a dwell that runs in the direction, with none and with one that runs the other way, and with lengths of
0 and above. -/
theorem witness_GradeDecisionByTheRules :
    zoneCfg.a < zoneCfg.w ∧ 0 ≤ zoneCfg.h ∧ zoneCfg.riseDwell ≠ 0 ∧ zoneCfg.fallDwell ≠ 0
      ∧ ({ zoneCfg with riseDwell := 0, fallDwell := 0 } : ZoneConfig).riseDwell = 0
      ∧ (Dwell.rise 1 true = .rise 1 true ∧ ∀ k due, Dwell.none ≠ .rise k due ∧ Dwell.fall 9 false ≠ .rise k due)
      ∧ (Dwell.fall 3600 false = .fall 3600 false
          ∧ ∀ k due, Dwell.none ≠ .fall k due ∧ Dwell.rise 9 false ≠ .fall k due)
      ∧ zoneCfg.w < 301 ∧ 300 ≤ zoneCfg.w ∧ 100 ≤ zoneCfg.a ∧ zoneCfg.a < 101 ∧ 350 ≤ zoneCfg.w + zoneCfg.h
      ∧ zoneCfg.w + zoneCfg.h < 351 ∧ 150 ≤ zoneCfg.a + zoneCfg.h ∧ zoneCfg.a + zoneCfg.h < 151
      ∧ Grade.stale ≠ .off :=
  ⟨by decide, by decide, by decide, by decide, rfl, ⟨rfl, fun _ _ => ⟨Dwell.noConfusion, Dwell.noConfusion⟩⟩,
    ⟨rfl, fun _ _ => ⟨Dwell.noConfusion, Dwell.noConfusion⟩⟩, by decide, by decide, by decide, by decide, by decide,
    by decide, by decide, by decide, by decide⟩

theorem witness_EvaluationWritesOneZone :
    ((zone5 0 0 .clear .none).zone 5).enabled = true ∧ (running.zone 5).enabled = false := by decide +kernel

theorem witness_GradeChangeIsHandedOn :
    ((zone5 1500 1300 .stale .none).zone 5).enabled = true
      ∧ (((zone5 1500 1300 .stale .none).evaluate 5 .ordinary).zone 5).grade = .alarm
      ∧ (zone5 1500 1300 .stale .none).port.mask.zone = true
      ∧ ((lineIn .follow).cfg.mask.getLsbD 5 = true ∧ (running.outLine 0).cfg.mask.getLsbD 5 = false)
      ∧ ((((zone5 1320 1320 .watch .none).evaluate 5 .ordinary).zone 5).grade = .watch
          ∧ (((zone5 1320 1320 .watch .none).evaluate 5 .ordinary).zone 5).m = ((zone5 1320 1320 .watch .none).zone 5).m)
      ∧ ((((zone5 1321 1320 .watch .none).evaluate 5 .ordinary).zone 5).grade = .watch
          ∧ (((zone5 1321 1320 .watch .none).evaluate 5 .ordinary).zone 5).m ≠
              ((zone5 1321 1320 .watch .none).zone 5).m) := by
  decide +kernel

/-- The full list with its pending zone meets R126 to R128 and R133. -/
theorem fullList_sound (third : EventState) : (fullListOf third (some .water)).eventsSound where
  records := by
    have all : ∀ p, ∃ e, (fullListOf third (some .water)).recordAt p = some e ∧ e.clearedAt.isSome = (e.state == .cleared)
        ∧ e.cause.isSome = (e.state == .cleared) ∧ e.reEscalations ≤ 255 ∧ 1 ≤ e.number ∧ e.number ≤ 65535 := by
      intro p
      refine ⟨record (101 + p.val) (p.castLE (by decide)) (if p = 3 then third else .opened), ?_⟩
      revert p
      cases third <;> decide +kernel
    intro p e h
    obtain ⟨f, hf, h1, h2, h3, h4, h5⟩ := all p
    rw [hf] at h
    cases h
    exact ⟨by simp [h1], by simp [h2], h3, h4, h5⟩
  zones := by
    have z : ∀ p, ((fullListOf third (some .water)).recordAt p).map (·.zone.val) = some p.val := by cases third <;> decide +kernel
    intro p q e f he hf h
    have a := z p
    have b := z q
    rw [he] at a
    rw [hf] at b
    simp only [Option.map_some, Option.some.injEq] at a b
    exact Fin.ext (by rw [← a, ← b, h])
  numbers := by
    have z : ∀ p, ((fullListOf third (some .water)).recordAt p).map (·.number) = some (101 + p.val) := by cases third <;> decide +kernel
    intro p q e f he hf h
    have a := z p
    have b := z q
    rw [he] at a
    rw [hf] at b
    simp only [Option.map_some, Option.some.injEq] at a b
    exact Fin.ext (by omega)
  order := ⟨(by cases third <;> decide), by cases third <;> decide +kernel⟩
  counter := by cases third <;> decide
  flags := by cases third <;> decide +kernel

/-- A part with one record of zone 5 in each state; with the list full; and full, that of zone 3 ACKED, while zone 17
pends. -/
theorem witness_EventListFollowsTheGrade :
    (running.findZone 23 = none ∧ running.recordsHeld < 16)
      ∧ ([EventState.opened, .acked, .cleared].all fun st =>
          ((oneRecord (record 7 5 st)).findZone 5) == some (3, record 7 5 st)) = true
      ∧ (∀ y, (oneRecord (record 7 5 .acked)).pendingKind y = none)
      ∧ ((fullList none).findZone 23 = none ∧ (fullList none).recordsHeld = 16)
      ∧ ((zone5 1320 1320 .watch .none).evaluate 5 .ordinary).zone 5 = (zone5 1320 1320 .watch .none).zone 5
      ∧ ((zone5 1320 1320 .watch .none).zone 5).enabled = true
      ∧ ((fullListOf .acked (some .water)).findZone 3 = some (3, record 104 3 .acked)
          ∧ (fullListOf .acked (some .water)).eventsSound
          ∧ (fullListOf .acked (some .water)).pendingKind 17 = some .water
          ∧ ∀ x, x < 17 → (fullListOf .acked (some .water)).pendingKind x = none) :=
  ⟨by decide +kernel, by decide +kernel, by decide +kernel, by decide +kernel, by decide +kernel, by decide +kernel,
    by decide +kernel, fullList_sound .acked, by decide +kernel, by decide +kernel⟩

theorem witness_EventAckByState :
    u16 [0, 104] 0 ≠ 0 ∧ running.findNumber 104 = none
      ∧ (oneRecord (record 104 3 .opened)).findNumber 104 = some (3, record 104 3 .opened)
      ∧ (oneRecord (record 104 3 .acked)).findNumber 104 = some (3, record 104 3 .acked)
      ∧ (oneRecord (record 104 3 .cleared)).findNumber 104 = some (3, record 104 3 .cleared)
      ∧ (∀ z, (oneRecord (record 104 3 .cleared)).pendingKind z = none)
      ∧ (fullList (some .water)).findNumber 104 = some (3, record 104 3 .cleared)
      ∧ (fullList (some .water)).pendingKind 17 = some .water
      ∧ (∀ y, y < 17 → (fullList (some .water)).pendingKind y = none) ∧ (fullList (some .water)).eventsSound :=
  ⟨by decide +kernel, by decide +kernel, by decide +kernel, by decide +kernel, by decide +kernel, by decide +kernel,
    by decide +kernel, by decide +kernel, by decide +kernel, fullList_sound .cleared⟩

theorem witness_CountJudgedByState :
    (trench 1850 .dry 0).state ≠ .off
      ∧ (1730 + 120 ≤ 1850 ∧ 1850 < 1731 + 120) ∧ (1850 + 24 ≤ 1754 + 120 ∧ 1753 + 120 < 1850 + 24)
      ∧ ((1880 : Int) - 1850 ≤ (120 : Nat) / 4 ∧ ¬ (1881 : Int) - 1850 ≤ (120 : Nat) / 4) := by decide

theorem trench_sound (b streak : Nat) (h : streak ≤ 1) : (trench b .dry streak).sound ∧ (trench b .wet streak).sound :=
  ⟨⟨by simp [trench], by simp [trench], by simp [trench], ⟨h, by simp [trench]⟩, by simp [trench]⟩,
   ⟨by simp [trench], by simp [trench], by simp [trench], ⟨h, by simp [trench]⟩, by simp [trench]⟩⟩

/-- Zone 5 watches channel 6. -/
def watching6 (c : Channel) : State :=
  (gate6 c).setZone 5 { zoneAt 1320 .watch .none with cfg := { zoneCfg with leakMask := 0x40 } }

/-- The counts at the wet level and above it, and at the dry level and below it; a torn strip. -/
theorem witness_RoundsMeasureInOrder :
    (running.power = .running ∧ running.lineSound ∧ running.leak.position = none)
      ∧ ((watching6 (trench 1850 .dry 1)).leak.position = some 6 ∧ (watching6 (trench 1850 .dry 1)).leak.discard = false)
      ∧ (((watching6 (trench 1850 .dry 1)).channel 6).state = .dry
          ∧ (((watching6 (trench 1850 .dry 1)).channel 6).judged 1730).state = .wet)
      ∧ (((watching6 (trench 1850 .dry 1)).channel 6).judged 1731).state = .dry
      ∧ (((watching6 (trench 1850 .wet 1)).channel 6).state = .wet
          ∧ (((watching6 (trench 1850 .wet 1)).channel 6).judged 1754).state = .dry)
      ∧ (((watching6 (trench 1850 .wet 1)).channel 6).judged 1753).state = .wet
      ∧ (((watching6 (trench 1850 .wet 0)).channel 6).judged 4095).state = .opened
      ∧ ((watching6 (trench 1850 .wet 1)).zone 5).enabled = true
      ∧ ((watching6 (trench 1850 .wet 1)).zone 5).cfg.leakMask.getLsbD 6 = true
      ∧ (watching6 (trench 1850 .wet 1)).port.mask.leak = true := by
  unfold State.lineSound; decide +kernel

theorem witness_LeakRequestsResetTheChannel :
    ([7, 1, 0, 15, 0, 129] : List Byte).length = 6 ∧ u8 [7, 1, 0, 15, 0, 129] 0 = (7 : ChannelId).val
      ∧ u8 [7, 1, 0, 15, 0, 129] 1 = 1 ∧ u8 [0, 0, 4, 0, 0, 128] 1 = 0 ∧ running.port.mask.leak = true
      ∧ ((watching6 (trench 1850 .wet 0)).channel 6).state = .wet ∧ (running.channel 7).state = .off
      ∧ ((watching6 (trench 1850 .wet 0)).zone 5).enabled = true
      ∧ ((watching6 (trench 1850 .wet 0)).zone 5).cfg.leakMask.getLsbD 6 = true := by decide +kernel

theorem witness_LineRequestsRecompute :
    (let p : List Byte := [3, 3, 0, 0x80, 0, 1, 5, 1, 1]
     p.length = 9 ∧ u8 p 0 = (3 : LineId).val ∧ u8 p 1 = LineMode.proportional.code.toNat
      ∧ u32 p 2 = (0x800001 : BitVec 24).toNat ∧ u8 p 6 = Trigger.wet.code.toNat
      ∧ u8 p 7 = Polarity.activeLow.code.toNat ∧ u8 p 8 = 1)
      ∧ ((lineIn .proportional).cfg.mask.getLsbD (5 : ZoneId).val = true
          ∧ ((zone5 1320 1320 .watch .none).zone 5).grade = .watch ∧ ((zone5 1320 1320 .watch .none).zone 5).m = some 280
          ∧ zoneDuty zoneCfg.w zoneCfg.a 280 = 25)
      ∧ (∀ z : ZoneId, (running.outLine 0).cfg.mask.getLsbD z.val = false)
      ∧ (running.outLine 3).cfg.mode ≠ .proportional ∧ (running.outLine 3).cfg.mode ≠ .latch
      ∧ ((running.setOutLine 0 (lineIn .proportional)).outLine 0).cfg.mode = .proportional
      ∧ ((running.setOutLine 0 (lineIn .latch)).outLine 0).cfg.mode = .latch := by decide +kernel

theorem witness_DutyFrameDrivesProportionalLines :
    running.power = .running ∧ running.lineSound ∧ (lineIn .proportional).cfg.mode = .proportional
      ∧ ({ lineIn .proportional with drive := .active, applied := 254 } : LineRecord).applied < 255
      ∧ 255 ≤ ({ lineIn .proportional with drive := .active, applied := 255 } : LineRecord).applied := by
  unfold State.lineSound; decide

theorem running_zone (z : ZoneId) : running.zone z = ZoneRecord.start false ZoneConfig.default := by
  revert z; decide +kernel

theorem running_probe (a : Addr) : running.probe a = ProbeRecord.undefined := by
  obtain ⟨t, d⟩ := a
  revert t d
  decide +kernel

theorem running_noneDue : running.noneDue :=
  ⟨rfl, fun z ⟨n, h⟩ => by
    rw [running_zone z] at h
    exact h.elim Dwell.noConfusion Dwell.noConfusion, fun a ⟨x, h, _⟩ => by rw [running_probe a] at h; cases h⟩

/-- Nothing due, in a part without and with a countdown; a period start due; the dwell of zone 5 and no lower; the age of
A04 and no lower. -/
theorem witness_SecondCounts :
    (running.power = .running ∧ running.noneDue ∧ running.scan.countdown = none)
      ∧ ((running.setScan ⟨.continuous, 60, none, some 1, false, 300⟩).scan.countdown = some 1 ∧ 1 < 2)
      ∧ ((running.setScan ⟨.continuous, 60, none, some 1, true, 300⟩).scan.due = true
          ∧ (running.setScan ⟨.continuous, 60, none, some 1, true, 300⟩).lineSound)
      ∧ ((zone5 1320 1320 .clear (.rise 1 true)).dwellIsDue 5
          ∧ ∀ y, y < 5 → ((zone5 1320 1320 .clear (.rise 1 true)).zone y).dwell = .none)
      ∧ (((at_ 301).setProbe ⟨0, 4⟩ (airWith 0)).ageIsDue ⟨0, 4⟩
          ∧ (∀ z, (((at_ 301).setProbe ⟨0, 4⟩ (airWith 0)).zone z).dwell = .none)
          ∧ ∀ t d, (⟨t, d⟩ : Addr).idx < (⟨0, 4⟩ : Addr).idx →
              (((at_ 301).setProbe ⟨0, 4⟩ (airWith 0)).probe ⟨t, d⟩).expiry = none)
      ∧ State.reset.power = .loading ∧ (after (.powerLoss true) running).power = .off :=
  ⟨⟨rfl, running_noneDue, rfl⟩, by decide, ⟨rfl, running_line⟩, ⟨⟨1, .inl (by decide +kernel)⟩, by decide +kernel⟩,
    ⟨⟨301, by decide +kernel⟩, by decide +kernel, by decide +kernel⟩, rfl, by decide +kernel⟩

/-- At T' 2250, between the table's points 2000 and 2500, the interpolation is exact. -/
theorem witness_DewPointBounds :
    (-4000 : Int) ≤ -4000 ∧ (-4000 : Int) ≤ 8500 ∧ (10000 : Nat) ≤ 10000
      ∧ max (-2000) (min 5000 (2250 : Int)) = -2000 + 500 * (8 : Nat) + (250 : Nat)
      ∧ (500 : Int) ∣ (10 * 3160 - 10 * 2333) * (250 : Nat)
      ∧ ((8 : Nat) < 14 ∧ (250 : Nat) ≤ 500
          ∧ (27465 : Int) = 10 * 2333 + 10 * (3160 - 2333) * 250 / 500 ∧ (13732 : Int) = 27465 * 5000 / 10000
          ∧ (6 : Nat) < 14 ∧ (10 : Int) * 1226 ≤ 13732 ∧ (13732 : Int) < 10 * 1702)
      ∧ ((274 : Int) = 27465 * 100 / 10000 ∧ (274 : Int) < 1260)
      ∧ ((95800 : Int) + 10 * (12345 - 9580) * 500 / 500 = 123450 ∧ (123450 : Int) ≤ 123450 * 10000 / 10000) := by
  decide

theorem witness_DutyFallsWithMargin : (99 : Int) < 100 ∧ (-500 : Int) < 2000 ∧ 255 * (2000 - 1999) < (2000 : Int) - -500 := by
  decide

/-! The invariants of the StepKeeps statements meet in one running state, whose next step answers a next state. -/

theorem running_record (p : Place) : running.recordAt p = none := by revert p; decide +kernel

theorem running_zones : running.zonesSound := fun z => by
  rw [running_zone z]
  exact ⟨by decide, fun _ => ⟨rfl, rfl, rfl, rfl, rfl⟩, fun h => (h rfl).elim, by decide, rfl⟩

theorem running_events : running.eventsSound where
  records := fun p e h => by rw [running_record p] at h; cases h
  zones := fun p _ e _ h => by rw [running_record p] at h; cases h
  numbers := fun p _ e _ h => by rw [running_record p] at h; cases h
  order := ⟨List.nodup_nil, fun p => by rw [running_record p]; exact ⟨(fun h => nomatch h), fun h => Bool.noConfusion h⟩⟩
  counter := by decide
  flags := by decide +kernel

theorem running_port : running.noticesSound ∧ running.lineSound ∧ running.wireSound ∧ running.slotsSound :=
  ⟨⟨List.nodup_nil, fun _ h => nomatch h⟩, running_line, rfl, by unfold State.slotsSound; decide +kernel⟩

theorem running_trunks : running.trunksSound ∧ running.scanSound :=
  ⟨⟨running_engines, by unfold TrunkSettings.inRange; decide⟩,
    ⟨by decide, by decide, (fun n h => nomatch (show none = some n from h)), by decide,
      (fun n h => nomatch (show none = some n from h)), by decide, by decide⟩, by decide, by decide, by decide⟩

theorem running_probes : running.probesSound ∧ running.mapSound :=
  ⟨fun a => by rw [running_probe a]; exact rfl,
    by unfold State.mapSound ZoneMap.sound Span.disjoint; decide +kernel⟩

theorem running_leak : running.zonesSound ∧ running.leakSound := by
  refine ⟨running_zones, fun c => ?_, fun c => ?_, by decide +kernel, by decide +kernel⟩
  · have h : running.channel c = Channel.start false 120 24 none := by revert c; decide +kernel
    rw [h]
    exact ⟨⟨by decide, fun _ => rfl, by decide, by decide, by decide⟩,
      ⟨⟨by decide, by decide, by decide, by decide, by decide, fun b hb => nomatch (show none = some b from hb)⟩,
        by decide, fun n hn => nomatch (show none = some n from hn)⟩⟩
  · have h : running.store.contents.channels.get c = (false, 120, 24, none) := by revert c; decide +kernel
    rw [h]
    exact ⟨by decide, by decide, by decide, by decide, by decide, fun b hb => nomatch (show none = some b from hb)⟩

theorem running_alarms : running.zonesSound ∧ running.eventsSound ∧ running.alarmsRecorded :=
  ⟨running_zones, running_events, fun z h => by rw [running_zone z] at h; exact absurd h (by decide)⟩

theorem running_lines : running.linesSound := fun l => by
  have h : running.outLine l = LineRecord.start LineConfig.default .inactive := by revert l; decide +kernel
  rw [h]
  exact ⟨by decide, fun _ => ⟨rfl, rfl⟩, fun _ => rfl, by decide, by decide⟩

/-- The running part with a second to count. -/
def ticking : State := { running with pending := [.uptimeSecond] }

theorem ticking_steps : ∃ t, step ticking = .next t := ⟨after .uptimeSecond running, rfl⟩

theorem witness_StepKeepsPort :
    (ticking.noticesSound ∧ ticking.lineSound ∧ ticking.wireSound ∧ ticking.slotsSound ∧ ticking.storeSound)
      ∧ ∃ t, step ticking = .next t :=
  ⟨⟨running_port.1, running_port.2.1, running_port.2.2.1, running_port.2.2.2,
    fun tag h => by cases (show none = some (Execution.keepSettings tag) from h)⟩, ticking_steps⟩

theorem witness_StepKeepsTrunksAndScan :
    (ticking.trunksSound ∧ ticking.scanSound) ∧ ∃ t, step ticking = .next t := ⟨running_trunks, ticking_steps⟩

/-- An order of two points in slot 3: one item in flight and one that waits behind it. -/
theorem witness_ordersSound : (surveying 0).ordersSound := by
  have held : ∀ k : SlotId, k ≠ 3 → (surveying 0).slot k = .free ∧ (surveying 0).pointsOnTrunks k = [] := by decide +kernel
  have order : (surveying 0).slot 3 =
      .held { tag := 0x40, points := [⟨0, 4⟩, ⟨0, 5⟩], outcomes := [none, none], outstanding := 2 } := by decide +kernel
  have points : (surveying 0).pointsOnTrunks 3 = [0, 1] := by decide +kernel
  refine ⟨fun k => ?_, fun j k p q hj hk _ => ?_, fun t i k n q hi ho hq => ?_⟩
  · by_cases hk : k = 3
    · subst hk
      rw [order, points]
      refine ⟨by decide, by decide, rfl, by decide, by decide, by decide, fun n => ?_⟩
      match n with
      | 0 => simp
      | 1 => simp
      | n + 2 => simp
    · rw [(held k hk).1, (held k hk).2]; exact rfl
  · have only : ∀ k p, (surveying 0).slot k = .held p → k = 3 := fun k p h => by
      by_cases hk : k = 3
      · exact hk
      · rw [(held k hk).1] at h; cases h
    rw [only j p hj, only k q hk]
  · have hk : k = 3 := by
      by_cases hk : k = 3
      · exact hk
      · rw [(held k hk).1] at hq; cases hq
    subst hk
    rw [order] at hq
    cases hq
    have all : ∀ t, ∀ i ∈ ((surveying 0).engine t).inFlight.toList ++ ((surveying 0).engine t).waitList,
        i = { newItem 4 (.survey 3 0) with notReady := 0 } ∧ t = 0 ∨ i = newItem 5 (.survey 3 1) ∧ t = 0
          ∨ i = newItem 6 .scan := by decide +kernel
    rcases all t i hi with ⟨rfl, rfl⟩ | ⟨rfl, rfl⟩ | rfl
    · cases ho; rfl
    · cases ho; rfl
    · cases ho

theorem witness_StepKeepsProbesAndMap :
    (ticking.probesSound ∧ ticking.mapSound ∧ ticking.agesSound) ∧ ∃ t, step ticking = .next t :=
  ⟨⟨running_probes.1, running_probes.2, fun _ a => by
    have h : ticking.probe a = ProbeRecord.undefined := running_probe a
    refine ⟨fun r hr => ?_, fun x hx => ?_, fun r _ hr => ?_, fun hd => ?_⟩
    · rw [h] at hr; cases hr
    · rw [h] at hx; cases hx
    · rw [h] at hr; cases hr
    · rw [h] at hd; exact absurd rfl hd⟩, ticking_steps⟩

theorem default_zone_inRange : ZoneConfig.default.inRange :=
  ⟨by decide, by decide, by decide, by decide, by decide, by decide, (fun _ h => nomatch h), by decide⟩

theorem running_zones_inRange : running.zonesInRange := by
  refine ⟨fun z => ?_, fun z => ?_⟩
  · rw [running_zone z]
    exact ⟨default_zone_inRange, (fun _ h => nomatch h), (fun _ h => nomatch h), (fun _ h => nomatch h), trivial, by decide⟩
  · have h : running.store.contents.zones.get z = (false, ZoneConfig.default) := by revert z; decide +kernel
    rw [h]
    exact default_zone_inRange

theorem witness_StepKeepsZones :
    (ticking.probesSound ∧ ticking.zonesSound ∧ ticking.zonesInRange) ∧ ∃ t, step ticking = .next t :=
  ⟨⟨running_probes.1, running_zones, running_zones_inRange⟩, ticking_steps⟩

theorem witness_StepKeepsLeak :
    (ticking.zonesSound ∧ ticking.leakSound) ∧ ∃ t, step ticking = .next t := ⟨running_leak, ticking_steps⟩

theorem ticking_events : ticking.eventsSound where
  records := running_events.records
  zones := running_events.zones
  numbers := running_events.numbers
  order := running_events.order
  counter := running_events.counter
  flags := running_events.flags

theorem witness_StepKeepsEvents : ticking.eventsSound ∧ ∃ t, step ticking = .next t := ⟨ticking_events, ticking_steps⟩

theorem witness_StepKeepsAlarmsRecorded :
    (ticking.zonesSound ∧ ticking.eventsSound ∧ ticking.alarmsRecorded) ∧ ∃ t, step ticking = .next t :=
  ⟨⟨running_zones, ticking_events, running_alarms.2.2⟩, ticking_steps⟩

theorem witness_StepKeepsLines : ticking.linesSound ∧ ∃ t, step ticking = .next t := ⟨running_lines, ticking_steps⟩

end Sys2Proof.Tests
end

section
/-! What a step can do to the trunks, the Scan Timer, the survey orders and the stored image: everything else is a frame
(`State.keepsWork`), and a predicate that the few operations on them keep is kept by every step (`KeptByWork.step`). -/

namespace Sys2Proof.Machine

open Sys2Proof

/-! ### Operations that leave the trunks, the Scan Timer, the orders and the image alone -/

/-- t has the trunks, the Scan Timer, the order slots and the stored image of s. -/
structure State.keepsWork (s t : State) : Prop where
  engines  : t.engines = s.engines
  scan     : t.scan = s.scan
  slots    : t.slots = s.slots
  contents : t.store.contents = s.store.contents

theorem State.keepsWork.refl (s : State) : s.keepsWork s := ⟨rfl, rfl, rfl, rfl⟩

theorem State.keepsWork.trans {s t v : State} (h : s.keepsWork t) (h' : t.keepsWork v) : s.keepsWork v :=
  ⟨h'.engines.trans h.engines, h'.scan.trans h.scan, h'.slots.trans h.slots, h'.contents.trans h.contents⟩

theorem State.keepsWork.engine {s t : State} (h : s.keepsWork t) (u : Trunk) : t.engine u = s.engine u := by
  rw [State.engine, State.engine, h.engines]

theorem State.keepsWork.slot {s t : State} (h : s.keepsWork t) (k : SlotId) : t.slot k = s.slot k := by
  rw [State.slot, State.slot, h.slots]

theorem State.evaluationKeeps.keepsWork {s t : State} (h : s.evaluationKeeps t) : s.keepsWork t :=
  ⟨h.engines, h.scan, h.slots, by rw [h.store]⟩

theorem State.handedOn.keepsWork {s t : State} (h : s.handedOn t) : s.keepsWork t := h.keeps.keepsWork

theorem State.eventsOnly.keepsWork {s t : State} (h : s.eventsOnly t) : s.keepsWork t := h.handedOn.keepsWork

theorem State.linesOnly.keepsWork {s t : State} (h : s.linesOnly t) : s.keepsWork t := h.handedOn.keepsWork

theorem State.setPort_keepsWork (s : State) (p : Port) : s.keepsWork (s.setPort p) := ⟨rfl, rfl, rfl, rfl⟩

theorem State.setProbe_keepsWork (s : State) (a : Addr) (r : ProbeRecord) : s.keepsWork (s.setProbe a r) :=
  ⟨rfl, rfl, rfl, rfl⟩

theorem State.setZone_keepsWork (s : State) (z : ZoneId) (r : ZoneRecord) : s.keepsWork (s.setZone z r) :=
  ⟨rfl, rfl, rfl, rfl⟩

theorem State.setLeak_keepsWork (s : State) (l : LeakUnit) : s.keepsWork (s.setLeak l) := ⟨rfl, rfl, rfl, rfl⟩

theorem State.raise_keepsWork (s : State) (src : Source) (u : Urgency) : s.keepsWork (s.raise src u) :=
  s.setPort_keepsWork _

theorem State.arbitrate_keepsWork (s : State) : s.keepsWork s.arbitrate := by
  rw [s.arbitrate_eq]
  exact s.setPort_keepsWork _

theorem State.evaluateAt_keepsWork (s : State) (a : Addr) : s.keepsWork (s.evaluateAt a) :=
  (s.evaluateAt_keeps a).keepsWork

theorem State.arrive_keepsWork (s : State) (r : Request) : s.keepsWork (s.arrive r) := by
  unfold State.arrive State.refuseArrival
  repeat' split
  exacts [s.setPort_keepsWork _, s.setPort_keepsWork _, .refl s]

theorem State.applyOutcome_keepsWork (s : State) (a : Addr) (c : ProbeConfig) (res : AttemptResult)
    (outcome : ProbeOutcome) : s.keepsWork (s.applyOutcome a c res outcome) := by
  have hstored (o : ProbeOutcome) (raw : RawReading) :
      s.keepsWork ((s.storeReading a c o raw res.time).evaluateAt a) := by
    refine .trans ?_ (State.evaluateAt_keepsWork _ a)
    unfold State.storeReading
    dsimp only
    split
    exacts [(s.setProbe_keepsWork ..).trans (State.raise_keepsWork ..), s.setProbe_keepsWork ..]
  have hfailed (o : ProbeOutcome) : s.keepsWork ((s.failProbe a o res.kind).evaluateAt a) := by
    refine .trans ?_ (State.evaluateAt_keepsWork _ a)
    unfold State.failProbe
    dsimp only
    split
    exacts [(s.setProbe_keepsWork ..).trans (State.raise_keepsWork ..), s.setProbe_keepsWork ..]
  unfold State.applyOutcome
  cases outcome with
  | good => dsimp only; split; exacts [hstored .., .refl s]
  | tainted => dsimp only; split; exacts [hstored .., .refl s]
  | noAnswer => exact hfailed _
  | badCheck => exact hfailed _
  | kindMismatch => exact hfailed _
  | notReady => exact .refl s
  | notReadyLimit => exact .refl s
  | trunkHalted => exact .refl s

/-- What the Probe Table does with a final outcome touches no trunk, order or timer (R12). -/
theorem State.handToProbe_keepsWork (s : State) (a : Addr) (res : AttemptResult) (outcome : ProbeOutcome) :
    s.keepsWork (s.handToProbe a res outcome) := by
  unfold State.handToProbe
  split
  exacts [s.applyOutcome_keepsWork .., .refl s]

theorem State.expireAge_keepsWork (s : State) (a : Addr) : s.keepsWork (s.expireAge a) := by
  unfold State.expireAge
  split
  exacts [(s.setProbe_keepsWork ..).trans (State.evaluateAt_keepsWork ..), .refl s]

theorem State.expireDwell_keepsWork (s : State) (z : ZoneId) : s.keepsWork (s.expireDwell z) := by
  unfold State.expireDwell
  split
  exacts [(s.setZone_keepsWork ..).trans (State.evaluate_keeps ..).keepsWork, .refl s]

theorem State.changeMap_keepsWork (s : State) (m : ZoneMap) : s.keepsWork (s.changeMap m) := by
  have hset : s.keepsWork (s.setMap m) := ⟨rfl, rfl, rfl, rfl⟩
  exact hset.trans (State.evaluateAll_keeps _ _).keepsWork

theorem State.changeChannel_keepsWork (s : State) (c : ChannelId) (r : Channel) :
    s.keepsWork (s.changeChannel c r) := by
  have hset : s.keepsWork (s.setChannel c r) := ⟨rfl, rfl, rfl, rfl⟩
  have hraise : s.keepsWork ((s.setChannel c r).raiseLeak c (s.channel c).state r.state) := by
    unfold State.raiseLeak
    split
    exacts [hset.trans (State.raise_keepsWork ..), hset]
  have hcount : s.keepsWork
      (((s.setChannel c r).raiseLeak c (s.channel c).state r.state).countWetChange (s.channel c).state r.state) :=
    hraise.trans (State.setLeak_keepsWork _ _)
  unfold State.changeChannel
  dsimp only
  split
  · exact hset
  · split
    exacts [hcount.trans (State.evaluateAll_keeps _ _).keepsWork, hcount]

theorem State.resetChannel_keepsWork (s : State) (c : ChannelId) (r : Channel) :
    s.keepsWork (s.resetChannel c r) := by
  refine .trans ?_ (State.changeChannel_keepsWork _ c r)
  unfold State.discardGate
  split
  exacts [s.setLeak_keepsWork _, .refl s]

theorem State.closeGate_keepsWork (s : State) (cycles : Nat) : s.keepsWork (s.closeGate cycles) := by
  unfold State.closeGate
  split
  · exact .refl s
  · refine .trans ?_ (State.setLeak_keepsWork _ _)
    split
    exacts [.refl s, s.changeChannel_keepsWork ..]

theorem State.keepDone_keepsWork (s : State) (agrees : Bool) : s.keepsWork (s.keepDone agrees) := by
  unfold State.keepDone
  split
  · unfold State.endKeep
    cases agrees <;> exact ⟨rfl, rfl, rfl, rfl⟩
  · exact .refl s
  · exact .refl s

/-- Beside the Scan Timer a second counts nothing of the work. -/
theorem State.counted_keepsWork (s : State) : (s.setScan s.scan.tick).keepsWork
    { s with uptime := s.uptime + 1, scan := s.scan.tick, zones := s.zones.map ZoneRecord.tick } :=
  ⟨rfl, rfl, rfl, rfl⟩

theorem State.setUpLine_keepsWork (s : State) (l : LineId) (c : LineConfig) : s.keepsWork (s.setUpLine l c) := by
  have hset : s.keepsWork (s.setOutLine l ((s.outLine l).setUp c)) := ⟨rfl, rfl, rfl, rfl⟩
  exact hset.trans (State.recompute_linesOnly _ l).keepsWork

theorem State.releaseLine_keepsWork (s : State) (l : LineId) : s.keepsWork (s.releaseLine l) := by
  have hset : s.keepsWork (s.setOutLine l { s.outLine l with latched := false }) := ⟨rfl, rfl, rfl, rfl⟩
  exact hset.trans (State.recompute_linesOnly _ l).keepsWork

theorem State.turnOn_keepsWork (s : State) (z : ZoneId) : s.keepsWork (s.turnOn z) :=
  ((s.setZone_keepsWork z _).trans (State.setZone_keepsWork _ z _)).trans (State.handOn_handedOn _ z _).keepsWork

theorem State.turnOff_keepsWork (s : State) (z : ZoneId) : s.keepsWork (s.turnOff z) :=
  (s.setZone_keepsWork z _).trans (State.handOn_handedOn _ z _).keepsWork

theorem State.setUpZone_keepsWork (s : State) (z : ZoneId) (c : ZoneConfig) : s.keepsWork (s.setUpZone z c) :=
  (s.setZone_keepsWork z _).trans (State.evaluate_keeps _ z _).keepsWork

theorem State.mapSpan_keepsWork (s : State) (p : Span) : s.keepsWork (s.mapSpan p).1 := by
  unfold State.mapSpan
  repeat' split
  all_goals first | exact .refl s | exact s.changeMap_keepsWork _

theorem eventAckWork_keepsWork (p : List Byte) (s : State) : s.keepsWork (eventAckWork p s).1 := by
  unfold eventAckWork
  repeat' split
  all_goals
    first
    | exact .refl s
    | exact (s.setRecord_eventsOnly ..).keepsWork
    | exact (s.removeRecord_eventsOnly ..).keepsWork

/-! ### Predicates that every operation on them keeps -/

/-- A clamped number in a range that is not empty (00_scope 0.7). -/
theorem clampNat_eq {lo hi : Nat} (h : lo ≤ hi) (x : Nat) : clampNat lo hi x = max lo (min hi x) := by
  unfold clampNat
  split
  · omega
  · split <;> omega

/-- A clamped number stands in its range. -/
theorem clampNat_inRange {lo hi : Nat} (h : lo ≤ hi) (x : Nat) : lo ≤ clampNat lo hi x ∧ clampNat lo hi x ≤ hi := by
  rw [clampNat_eq h]
  omega

/-- The settings of a trunk after clamping stand in their ranges (R17). -/
theorem TrunkSettings.clamped_inRange (t : TrunkSettings) : t.clamped.inRange := by
  have hr := clampNat_inRange (show 0 ≤ 3 by decide) t.retries
  have hh := clampNat_inRange (show 4 ≤ 32 by decide) t.haltThreshold
  have hf := clampNat_inRange (show 1 ≤ 15 by decide) t.faultThreshold
  exact ⟨hr.2, hh.1, hh.2, hf.1, hf.2⟩

/-- The operations that change the trunks, the Scan Timer, the order slots or the stored image keep P, and P is of
nothing else. -/
structure KeptByWork (P : State → Prop) : Prop where
  frame      : ∀ {s t : State}, s.keepsWork t → P s → P t
  unloaded   : ∀ {s : State} (power : Power) (store : Store) (pending : List Instr),
    store.contents = s.store.contents → P s → P (State.unloaded power store pending)
  load       : ∀ {s : State}, P s → P s.load
  keep       : ∀ {s : State} (tag : Byte), P s → P (s.beginKeep tag)
  restarted  : ∀ {s : State}, P s → P s.restarted.resumeScan
  reported   : ∀ {s : State} (k : SlotId), P s → P (s.setSlot k (s.slot k).reported)
  gapEnded   : ∀ {s : State} (t : Trunk), P s → P (s.setEngine t (s.engine t).gapEnded)
  opened     : ∀ {s : State} (t : Trunk), P s → P (s.setEngine t (s.engine t).opened)
  runOut     : ∀ {s : State} (t : Trunk), (s.engine t).link = .strandedListening → P s →
    P (s.setEngine t { s.engine t with link := .gap })
  attempt    : ∀ {s : State} (t : Trunk) (i : Item) (res : AttemptResult), (s.engine t).link = .listening →
    (s.engine t).inFlight = some i → P s → P (s.endAttempt t i res)
  removeScan : ∀ {s : State} (t : Trunk) (d : Drop), P s → P (s.setEngine t ((s.engine t).removeScan d))
  restart    : ∀ {s : State} (t : Trunk), (s.engine t).halted = true → P s →
    P (s.setEngine t { s.engine t with halted := false, failures := 0 })
  settings   : ∀ {s : State} (t : Trunk) (c : TrunkSettings), c.inRange → P s →
    P (s.setEngine t { s.engine t with settings := c })
  scanMode   : ∀ {s : State} (mode : ScanMode) (period : Nat), 5 ≤ period → period ≤ 3600 → P s →
    P (s.setScanMode mode period)
  maxAge     : ∀ {s : State} (age : Nat), 30 ≤ age → age ≤ 7200 → P s → P (s.setScan { s.scan with maxAge := age })
  period     : ∀ {s : State}, s.scan.due = true → P s → P s.startPeriod
  tick       : ∀ {s : State}, P s → P (s.setScan s.scan.tick)
  survey     : ∀ {s : State} (tag : Byte) (p : List Byte) (k : SlotId) (points : List Addr),
    s.judgeSurvey tag p = .accepted k points → P s → P (s.acceptSurvey tag k points)
  cancel     : ∀ {s : State} (k : SlotId) (o : SurveyOrder), s.slot k = .held o → P s →
    P (s.cancelOrder k (o.outstanding - s.waitingOfOrder k))

/-- Every next state that an outcome answers meets P. -/
def leadsTo (P : State → Prop) (o : Host.Outcome State Fault Refusal) : Prop := ∀ t, o = .next t → P t

theorem leadsTo_next {P : State → Prop} {s : State} (h : P s) : leadsTo P (.next s) := by
  intro t ht
  cases ht
  exact h

namespace KeptByWork

variable {P : State → Prop} (K : KeptByWork P) {s : State}

include K

omit K in
/-- An operation that is kept after every element of a list is kept after all of them. -/
theorem foldl {α : Type} (f : State → α → State) (hf : ∀ s a, P s → P (f s a)) (xs : List α) (h : P s) :
    P (xs.foldl f s) := by
  induction xs generalizing s with
  | nil => exact h
  | cons x xs ih => exact ih (hf s x h)

theorem arbitrate (h : P s) : P s.arbitrate := K.frame s.arbitrate_keepsWork h

theorem leadsTo_finish (h : P s) : leadsTo P (finish s) := leadsTo_next (K.arbitrate h)

theorem leadsTo_fieldEvent (f : State → State) (hf : P (f s)) (h : P s) : leadsTo P (fieldEvent f s) := by
  unfold fieldEvent
  split
  exacts [K.leadsTo_finish hf, leadsTo_next h]

/-- A request row keeps P where its execution does. -/
theorem leadsTo_whenAdmitted (r : Request) (run : State → State) (hrun : ∀ s, P s → P (run s)) (h : P s) :
    leadsTo P (whenAdmitted r run s) := by
  obtain hn | ha | ⟨s0, hb, hr⟩ := whenAdmitted_cases r run s
  · rw [hn]
    exact leadsTo_next h
  · rw [ha]
    exact K.leadsTo_finish (K.frame (s.arrive_keepsWork r) h)
  · rw [hr]
    obtain ⟨-, -, ⟨-, -, rfl⟩ | ⟨rest, -, rfl⟩⟩ := hb
    exacts [K.leadsTo_finish (hrun _ h), K.leadsTo_finish (hrun _ (K.frame (s.setPort_keepsWork _) h))]

/-! #### The requests -/

theorem defineProbeWork (p : List Byte) (h : P s) : P (defineProbeWork p s).1 := by
  unfold Machine.defineProbeWork
  split
  · exact K.frame ((s.setProbe_keepsWork ..).trans (State.evaluateAt_keepsWork ..)) h
  · exact h

theorem retireProbeWork (p : List Byte) (h : P s) : P (retireProbeWork p s).1 := by
  unfold Machine.retireProbeWork
  split
  · exact h
  · split
    · exact K.frame ((State.setProbe_keepsWork ..).trans (State.evaluateAt_keepsWork ..)) (K.removeScan _ _ h)
    · exact h

theorem noticeMaskWork (p : List Byte) (h : P s) : P (noticeMaskWork p s).1 := by
  unfold Machine.noticeMaskWork
  split
  exacts [h, K.frame (s.setPort_keepsWork _) h]

theorem trunkRestartWork (p : List Byte) (h : P s) : P (trunkRestartWork p s).1 := by
  unfold Machine.trunkRestartWork
  split
  · exact h
  · split
    · next hh => exact K.frame (State.raise_keepsWork ..) (K.restart _ hh h)
    · exact h

theorem trunkSetupWork (p : List Byte) (h : P s) : P (trunkSetupWork p s).1 := by
  unfold Machine.trunkSetupWork
  split
  exacts [h, K.settings _ _ (TrunkSettings.clamped_inRange _) h]

/-- A new max reading age re-judges and evaluates, and changes of the Scan Timer only the age (R29, R52). -/
theorem changeMaxAge (age : Nat) (h1 : 30 ≤ age) (h2 : age ≤ 7200) (h : P s) : P (s.changeMaxAge age) :=
  have hjudged : (s.setScan { s.scan with maxAge := age }).keepsWork
      { s with scan := { s.scan with maxAge := age },
               probes := s.probes.map fun p => p.rejudged s.scan.maxAge age s.uptime } := ⟨rfl, rfl, rfl, rfl⟩
  K.frame (hjudged.trans (State.evaluateAll_keeps _ _).keepsWork) (K.maxAge age h1 h2 h)

theorem scanSetupWork (p : List Byte) (h : P s) : P (scanSetupWork p s).1 := by
  unfold Machine.scanSetupWork
  split
  · exact h
  · have hp := clampNat_inRange (show 5 ≤ 3600 by decide) (u16 p 1)
    have ha := clampNat_inRange (show 30 ≤ 7200 by decide) (u16 p 3)
    exact K.changeMaxAge _ ha.1 ha.2 (K.scanMode _ _ hp.1 hp.2 h)

theorem surveyCancelWork (p : List Byte) (h : P s) : P (surveyCancelWork p s).1 := by
  unfold Machine.surveyCancelWork
  split
  · exact h
  · split
    · next ho => exact K.cancel _ _ ho h
    all_goals exact h

theorem mapPointWork (p : List Byte) (h : P s) : P (mapPointWork p s).1 := by
  unfold Machine.mapPointWork
  repeat' split
  all_goals first | exact h | exact K.frame (s.changeMap_keepsWork _) h

theorem unmapPointWork (p : List Byte) (h : P s) : P (unmapPointWork p s).1 := by
  unfold Machine.unmapPointWork
  repeat' split
  all_goals first | exact h | exact K.frame (s.changeMap_keepsWork _) h

theorem mapSpanWork (p : List Byte) (h : P s) : P (mapSpanWork p s).1 := by
  unfold Machine.mapSpanWork
  split
  exacts [K.frame (s.mapSpan_keepsWork _) h, h]

theorem unmapSpanWork (p : List Byte) (h : P s) : P (unmapSpanWork p s).1 := by
  unfold Machine.unmapSpanWork
  repeat' split
  all_goals first | exact h | exact K.frame (s.changeMap_keepsWork _) h

theorem zoneSetupWork (p : List Byte) (h : P s) : P (zoneSetupWork p s).1 := by
  unfold Machine.zoneSetupWork
  split
  · dsimp only
    split
    exacts [h, K.frame (s.setUpZone_keepsWork ..) h]
  · exact h

theorem zoneOnWork (p : List Byte) (h : P s) : P (zoneOnWork p s).1 := by
  unfold Machine.zoneOnWork
  split
  · exact h
  · split
    exacts [h, K.frame (s.turnOn_keepsWork _) h]

theorem zoneOffWork (p : List Byte) (h : P s) : P (zoneOffWork p s).1 := by
  unfold Machine.zoneOffWork
  split
  · exact h
  · split
    exacts [K.frame (s.turnOff_keepsWork _) h, h]

theorem leakSetupWork (p : List Byte) (h : P s) : P (leakSetupWork p s).1 := by
  unfold Machine.leakSetupWork
  split
  exacts [K.frame (s.resetChannel_keepsWork ..) h, h]

theorem leakRecalibrateWork (p : List Byte) (h : P s) : P (leakRecalibrateWork p s).1 := by
  unfold Machine.leakRecalibrateWork
  split
  · exact h
  · split
    exacts [h, K.frame (s.resetChannel_keepsWork ..) h]

theorem lineSetupWork (p : List Byte) (h : P s) : P (lineSetupWork p s).1 := by
  unfold Machine.lineSetupWork
  split
  exacts [K.frame (s.setUpLine_keepsWork ..) h, h]

theorem lineReleaseWork (p : List Byte) (h : P s) : P (lineReleaseWork p s).1 := by
  unfold Machine.lineReleaseWork
  split
  · exact h
  · split
    exacts [K.frame (s.releaseLine_keepsWork _) h, h]

/-- The work of every request that is one step keeps P; ten of them only read. -/
theorem work : ∀ v ∈ requestServices, ∀ (p : List Byte) (s : State), P s → P (v.work p s).1 := by
  simp only [requestServices, List.forall_mem_cons]
  refine ⟨?identify, ?summary, ?noticeMask, ?defineProbe, ?retireProbe, ?probeQuery, ?trunkRestart, ?trunkSetup,
    ?scanSetup, ?surveyCancel, ?mapPoint, ?mapSpan, ?unmapPoint, ?unmapSpan, ?mapQuery, ?zoneSetup, ?zoneOn, ?zoneOff,
    ?zoneQuery, ?leakSetup, ?leakRecalibrate, ?leakQuery, ?lineSetup, ?lineRelease, ?lineQuery, ?eventList,
    ?eventQuery, ?eventAck, fun v hv => absurd hv List.not_mem_nil⟩
  case noticeMask => exact fun p s h => K.noticeMaskWork p h
  case defineProbe => exact fun p s h => K.defineProbeWork p h
  case retireProbe => exact fun p s h => K.retireProbeWork p h
  case trunkRestart => exact fun p s h => K.trunkRestartWork p h
  case trunkSetup => exact fun p s h => K.trunkSetupWork p h
  case scanSetup => exact fun p s h => K.scanSetupWork p h
  case surveyCancel => exact fun p s h => K.surveyCancelWork p h
  case mapPoint => exact fun p s h => K.mapPointWork p h
  case mapSpan => exact fun p s h => K.mapSpanWork p h
  case unmapPoint => exact fun p s h => K.unmapPointWork p h
  case unmapSpan => exact fun p s h => K.unmapSpanWork p h
  case zoneSetup => exact fun p s h => K.zoneSetupWork p h
  case zoneOn => exact fun p s h => K.zoneOnWork p h
  case zoneOff => exact fun p s h => K.zoneOffWork p h
  case leakSetup => exact fun p s h => K.leakSetupWork p h
  case leakRecalibrate => exact fun p s h => K.leakRecalibrateWork p h
  case lineSetup => exact fun p s h => K.lineSetupWork p h
  case lineRelease => exact fun p s h => K.lineReleaseWork p h
  case eventAck => exact fun p s h => K.frame (eventAckWork_keepsWork p s) h
  all_goals exact fun p s h => h

theorem completeReply (kind tag : Byte) (r : Reply) (h : P s) : P (s.completeReply kind tag r) :=
  K.frame (s.setPort_keepsWork _) h

theorem run {v : Service} (hv : v ∈ requestServices) (tag : Byte) (p : List Byte) (h : P s) : P (v.run tag p s) := by
  unfold Service.run
  split
  exacts [K.completeReply _ _ _ (K.work v hv p s h), K.completeReply _ _ _ h]

theorem leadsTo_runRequest (v : Service) (hv : v ∈ requestServices) (tag : Byte) (p : List Byte) (h : P s) :
    leadsTo P (runRequest v tag p s) :=
  K.leadsTo_whenAdmitted _ _ (fun _ h => K.run hv tag p h) h

theorem runKeepSettings (tag : Byte) (p : List Byte) (h : P s) : P (s.runKeepSettings tag p) := by
  unfold State.runKeepSettings
  split
  exacts [K.keep tag h, K.completeReply _ _ _ h]

theorem runWarmRestart (tag : Byte) (p : List Byte) (h : P s) : P (s.runWarmRestart tag p) := by
  unfold State.runWarmRestart
  split
  exacts [K.frame (.trans (s.setPort_keepsWork _) (State.setPort_keepsWork _ _)) h, K.completeReply _ _ _ h]

theorem runSurvey (tag : Byte) (p : List Byte) (h : P s) : P (s.runSurvey tag p) := by
  unfold State.runSurvey
  split
  · exact K.completeReply _ _ _ h
  · next hj => exact K.survey tag p _ _ hj h

/-- Whatever request is executed keeps P. -/
theorem execute (r : Request) (h : P s) : P (s.execute r) := by
  unfold State.execute
  split
  · exact K.runKeepSettings _ _ h
  · split
    · exact K.runWarmRestart _ _ h
    · split
      · exact K.runSurvey _ _ h
      · split
        · next hv => exact K.run (List.mem_of_find?_eq_some hv) _ _ h
        · exact K.completeReply _ _ _ h

theorem startNext (h : P s) : P s.startNext := by
  unfold State.startNext
  split
  · exact K.arbitrate (K.execute _ (K.frame (s.setPort_keepsWork _) h))
  · exact h
  · exact h

theorem serveWaiting (h : P s) : P s.serveWaiting := by
  have hup : ∀ n (s : State), P s → P (State.serveUpTo n s) := by
    intro n
    induction n with
    | zero => exact fun _ h => h
    | succ n ih => exact fun s h => ih _ (K.startNext h)
  exact hup _ s h

theorem leadsTo_servingEvent (f : State → State) (hf : P (f s)) (h : P s) : leadsTo P (servingEvent f s) := by
  unfold servingEvent
  split
  exacts [leadsTo_next (K.serveWaiting (K.arbitrate hf)), leadsTo_next h]

/-! #### The other commands -/

theorem receive (bytes : List Byte) (h : P s) : P (s.receive bytes) :=
  KeptByWork.foldl State.arriveOne
    (fun s r h => K.serveWaiting (K.arbitrate (K.frame (s.arrive_keepsWork r) h))) _
    (K.frame (s.setPort_keepsWork _) h)

theorem sentFrame (h : P s) : P s.sentFrame := by
  unfold State.sentFrame
  split
  · next f _ =>
    have hp := K.frame (s.setPort_keepsWork { s.port with line := none, wire := [] }) h
    unfold State.afterFrame
    cases f.role with
    | report k => exact K.reported k hp
    | restartReply => exact K.frame (State.setPort_keepsWork ..) hp
    | reply => exact hp
    | portFull => exact hp
    | notice _ => exact hp
  · exact h

theorem receiveAnswer (t : Trunk) (b : List Byte) (h : P s) : P (s.receiveAnswer t b) := by
  unfold State.receiveAnswer
  split
  · next hl =>
    split
    · next hi => exact K.attempt t _ _ hl.1 hi h
    · exact h
  · exact h

theorem timeoutAnswer (t : Trunk) (b : List Byte) (h : P s) : P (s.timeoutAnswer t b) := by
  unfold State.timeoutAnswer
  split
  · split
    · next hl =>
      split
      · next hi => exact K.attempt t _ _ hl hi h
      · exact h
    · next hl => exact K.runOut t hl h
    all_goals exact h
  · exact h

theorem startDuePeriod (h : P s) : P s.startDuePeriod := by
  unfold State.startDuePeriod
  split
  · next hd => exact K.period hd h
  · exact h

/-- A second of uptime: what is due is taken, then the Scan Timer ticks. -/
theorem secondPassed (h : P s) : P s.secondPassed := by
  have hdwells : P ((List.finRange 24).foldl State.takeDueDwell s.startDuePeriod) := by
    refine KeptByWork.foldl _ (fun s z h => ?_) _ (K.startDuePeriod h)
    unfold State.takeDueDwell
    split
    exacts [K.arbitrate (K.frame (s.expireDwell_keepsWork z) h), h]
  have hdue : P s.takeDue := by
    refine KeptByWork.foldl _ (fun s a h => ?_) _ hdwells
    unfold State.takeDueAge
    split
    exacts [K.arbitrate (K.frame (s.expireAge_keepsWork a) h), h]
  exact K.frame s.takeDue.counted_keepsWork (K.tick hdue)

theorem resetIfDue (h : P s) : P s.resetIfDue := by
  unfold State.resetIfDue
  split
  exacts [K.restarted h, h]

/-- Every command keeps P. -/
theorem exec (c : Instr) (h : P s) : leadsTo P (exec c s) := by
  have hreq (v : Service) (tag : Byte) (p : List Byte) (hv : v ∈ requestServices) := K.leadsTo_runRequest v hv tag p h
  have hframe (f : State → State) (hf : s.keepsWork (f s)) : leadsTo P (fieldEvent f s) :=
    K.leadsTo_fieldEvent f (K.frame hf h) h
  cases c with
  | powerOn =>
    show leadsTo P (execPowerOn s)
    exact leadsTo_next (K.unloaded .loading s.store s.pending rfl h)
  | settingsLoad =>
    show leadsTo P (execSettingsLoad s)
    unfold execSettingsLoad
    split
    exacts [K.leadsTo_finish (K.load h), leadsTo_next h]
  | frameArrival bytes =>
    show leadsTo P (execFrameArrival bytes s)
    unfold execFrameArrival
    split
    exacts [leadsTo_next (K.receive bytes h), leadsTo_next h]
  | frameGapTimeout => exact hframe (fun s => s.setPort { s.port with rx := [] }) (s.setPort_keepsWork _)
  | frameSent => exact K.leadsTo_fieldEvent State.sentFrame (K.sentFrame h) h
  | unknownKind kind tag p =>
    show leadsTo P (execUnknownKind kind tag p s)
    unfold execUnknownKind
    split
    exacts [leadsTo_next h, K.leadsTo_whenAdmitted _ _ (fun _ h => K.completeReply _ _ _ h) h]
  | identify tag p => exact hreq identifyService tag p (by simp [requestServices])
  | summary tag p => exact hreq summaryService tag p (by simp [requestServices])
  | keepSettings tag p => exact K.leadsTo_whenAdmitted _ _ (fun _ h => K.runKeepSettings tag p h) h
  | keepSettingsDone agrees => exact K.leadsTo_servingEvent _ (K.frame (s.keepDone_keepsWork agrees) h) h
  | warmRestart tag p => exact K.leadsTo_whenAdmitted _ _ (fun _ h => K.runWarmRestart tag p h) h
  | warmRestartReset => exact K.leadsTo_servingEvent _ (K.resetIfDue h) h
  | noticeMask tag p => exact hreq noticeMaskService tag p (by simp [requestServices])
  | defineProbe tag p => exact hreq defineProbeService tag p (by simp [requestServices])
  | retireProbe tag p => exact hreq retireProbeService tag p (by simp [requestServices])
  | probeQuery tag p => exact hreq probeQueryService tag p (by simp [requestServices])
  | trunkRestart tag p => exact hreq trunkRestartService tag p (by simp [requestServices])
  | trunkSetup tag p => exact hreq trunkSetupService tag p (by simp [requestServices])
  | scanSetupContinuous tag p =>
    show leadsTo P (execScanSetupContinuous tag p s)
    unfold execScanSetupContinuous
    split
    exacts [leadsTo_next h, hreq scanSetupService tag p (by simp [requestServices])]
  | scanSetupSingle tag p =>
    show leadsTo P (execScanSetupSingle tag p s)
    unfold execScanSetupSingle
    split
    exacts [leadsTo_next h, hreq scanSetupService tag p (by simp [requestServices])]
  | scanSetupStopped tag p =>
    show leadsTo P (execScanSetupStopped tag p s)
    unfold execScanSetupStopped
    split
    exacts [leadsTo_next h, hreq scanSetupService tag p (by simp [requestServices])]
  | periodStart => exact K.leadsTo_fieldEvent State.startDuePeriod (K.startDuePeriod h) h
  | survey tag p => exact K.leadsTo_whenAdmitted _ _ (fun _ h => K.runSurvey tag p h) h
  | surveyCancel tag p => exact hreq surveyCancelService tag p (by simp [requestServices])
  | mapPoint tag p => exact hreq mapPointService tag p (by simp [requestServices])
  | mapSpan tag p => exact hreq mapSpanService tag p (by simp [requestServices])
  | unmapPoint tag p => exact hreq unmapPointService tag p (by simp [requestServices])
  | unmapSpan tag p => exact hreq unmapSpanService tag p (by simp [requestServices])
  | mapQuery tag p => exact hreq mapQueryService tag p (by simp [requestServices])
  | zoneSetup tag p => exact hreq zoneSetupService tag p (by simp [requestServices])
  | zoneOn tag p => exact hreq zoneOnService tag p (by simp [requestServices])
  | zoneOff tag p => exact hreq zoneOffService tag p (by simp [requestServices])
  | zoneQuery tag p => exact hreq zoneQueryService tag p (by simp [requestServices])
  | leakSetupEnable tag p =>
    show leadsTo P (execLeakSetupEnable tag p s)
    unfold execLeakSetupEnable
    split
    exacts [leadsTo_next h, hreq leakSetupService tag p (by simp [requestServices])]
  | leakSetupDisable tag p =>
    show leadsTo P (execLeakSetupDisable tag p s)
    unfold execLeakSetupDisable
    split
    exacts [leadsTo_next h, hreq leakSetupService tag p (by simp [requestServices])]
  | leakRecalibrate tag p => exact hreq leakRecalibrateService tag p (by simp [requestServices])
  | leakQuery tag p => exact hreq leakQueryService tag p (by simp [requestServices])
  | lineSetup tag p => exact hreq lineSetupService tag p (by simp [requestServices])
  | lineRelease tag p => exact hreq lineReleaseService tag p (by simp [requestServices])
  | lineQuery tag p => exact hreq lineQueryService tag p (by simp [requestServices])
  | eventList tag p => exact hreq eventListService tag p (by simp [requestServices])
  | eventQuery tag p => exact hreq eventQueryService tag p (by simp [requestServices])
  | eventAck tag p => exact hreq eventAckService tag p (by simp [requestServices])
  | gapExpiry t => exact K.leadsTo_fieldEvent (fun s => s.setEngine t (s.engine t).gapEnded) (K.gapEnded t h) h
  | transactionOpen t => exact K.leadsTo_fieldEvent (fun s => s.setEngine t (s.engine t).opened) (K.opened t h) h
  | answerReceived t b => exact K.leadsTo_fieldEvent (fun s => s.receiveAnswer t b) (K.receiveAnswer t b h) h
  | answerTimeout t b => exact K.leadsTo_fieldEvent (fun s => s.timeoutAnswer t b) (K.timeoutAnswer t b h) h
  | ageExpiry a => exact hframe (fun s => s.expireAge a) (s.expireAge_keepsWork a)
  | dwellExpiry z => exact hframe (fun s => s.expireDwell z) (s.expireDwell_keepsWork z)
  | dutyFrameStart =>
    exact hframe (fun s => { s with lines := s.lines.map LineRecord.frameStarted }) ⟨rfl, rfl, rfl, rfl⟩
  | dutyOnTimeEnd l => exact hframe (fun s => s.setOutLine l (s.outLine l).onTimeEnded) ⟨rfl, rfl, rfl, rfl⟩
  | roundStart =>
    refine hframe (fun s => if s.leak.position.isSome then s else s.startRound) ?_
    split
    exacts [.refl s, s.setLeak_keepsWork _]
  | gateClose cycles => exact hframe (fun s => s.closeGate cycles) (s.closeGate_keepsWork cycles)
  | powerLoss ended =>
    refine leadsTo_next (K.unloaded _ _ _ ?_ h)
    unfold State.storeAtLoss
    split
    · split <;> rfl
    · rfl
    · rfl
  | uptimeSecond =>
    show leadsTo P (execUptimeSecond s)
    unfold execUptimeSecond
    split
    exacts [leadsTo_next h, leadsTo_next (K.frame (s := s) ⟨rfl, rfl, rfl, rfl⟩ h), leadsTo_next (K.secondPassed h)]

/-- Every step keeps P. -/
theorem step {t : State} (h : P s) (ht : step s = .next t) : P t := by
  unfold Machine.step at ht
  split at ht
  · cases ht
    exact h
  · next c rest _ =>
    have hp : P { s with pending := rest } := K.frame (s := s) ⟨rfl, rfl, rfl, rfl⟩ h
    exact K.exec c hp t ht

end KeptByWork

end Sys2Proof.Machine
end

section
/-! One Trunk Engine: what its operations do to its items, and that each of them keeps it sound (R7 to R14, R17,
R21). -/

namespace Sys2Proof.Machine

open Sys2Proof

/-! ### The items of an engine -/

/-- The items of a trunk: the one in flight, then those that wait, head first (R7). -/
def Engine.items (e : Engine) : List Item := e.inFlight.toList ++ e.waitList

theorem Engine.free_iff (e : Engine) : e.free = true ↔ e.inFlight = none ∧ e.link = .ready := by
  simp [Engine.free]

/-- A free engine that takes its head item holds the same items as before (R8). -/
@[simp] theorem Engine.items_takeHead (e : Engine) : e.takeHead.items = e.items := by
  unfold Engine.takeHead
  split
  · next h =>
    have hf : e.inFlight = none := (e.free_iff.mp (by simp_all)).1
    split
    · rfl
    · next i rest hw => simp [Engine.items, Engine.startAttempt, hf, hw]
  · rfl

@[simp] theorem Engine.items_append (e : Engine) (i : Item) : (e.append i).items = e.items ++ [i] := by
  rw [Engine.append, Engine.items_takeHead]
  simp [Engine.items]

@[simp] theorem Engine.items_gapEnded (e : Engine) : e.gapEnded.items = e.items := by
  unfold Engine.gapEnded
  split
  · split
    · next i hi => simp [Engine.items, Engine.startAttempt, hi]
    · next hi => rw [Engine.items_takeHead]; rfl
  · rfl

@[simp] theorem Engine.items_opened (e : Engine) : e.opened.items = e.items := by
  unfold Engine.opened
  split <;> rfl

/-- What a free engine does when it takes its head item, and what else it may be (R8, R14). -/
theorem Engine.takeHead_cases (e : Engine) :
    (e.takeHead = e ∧ (e.free = false ∨ e.halted = true ∨ e.waitList = []))
      ∨ ∃ i rest, e.free = true ∧ e.halted = false ∧ e.waitList = i :: rest
          ∧ e.takeHead = { e with waitList := rest, inFlight := some i, attempt := e.settings,
                                  link := .sending (probeQueryBytes i.drop) } := by
  unfold Engine.takeHead
  split
  · next h =>
    obtain ⟨hf, hh⟩ : e.free = true ∧ e.halted = false := by simpa using h
    split
    · next hw => exact .inl ⟨rfl, .inr (.inr hw)⟩
    · next i rest hw => exact .inr ⟨i, rest, hf, hh, hw, rfl⟩
  · next h =>
    refine .inl ⟨rfl, ?_⟩
    by_cases hf : e.free = true
    · exact .inr (.inl (by simpa [hf] using h))
    · exact .inl (by simpa using hf)

/-! ### The SCAN items that wait -/

theorem Engine.holdsScan_iff (e : Engine) (d : Drop) : e.holdsScan d = true ↔ d ∈ scanDrops e.waitList := by
  simp [Engine.holdsScan, scanDrops, Item.isScanFor, and_assoc, and_left_comm]

theorem scanDrops_append (xs ys : List Item) : scanDrops (xs ++ ys) = scanDrops xs ++ scanDrops ys := by
  simp [scanDrops]

/-- The SCAN drops of part of a list are among those of the whole, in order. -/
theorem scanDrops_sublist {xs ys : List Item} (h : xs.Sublist ys) : (scanDrops xs).Sublist (scanDrops ys) :=
  (h.filter _).map _

/-- One more item keeps the SCAN drops distinct, if it is no second SCAN item of its drop (R9). -/
theorem nodup_scanDrops_append {xs : List Item} {i : Item} (h : (scanDrops xs).Nodup)
    (hi : i.origin = .scan → i.drop ∉ scanDrops xs) : (scanDrops (xs ++ [i])).Nodup := by
  rw [scanDrops_append]
  by_cases ho : i.origin = .scan
  · simp only [scanDrops, List.filter_cons, ho, beq_self_eq_true, if_true, List.filter_nil, List.map_cons, List.map_nil]
    exact List.nodup_append.mpr ⟨h, List.nodup_singleton _, fun a ha b hb hab => by
      rw [List.mem_singleton] at hb
      exact hi ho (hb ▸ hab ▸ ha)⟩
  · simpa [scanDrops, ho] using h

/-! ### A sound engine stays sound -/

theorem Engine.start_sound {c : TrunkSettings} (h : c.inRange) : (Engine.start c).sound where
  oneScan := List.nodup_nil
  halted := fun h => nomatch h
  free := fun _ => ⟨rfl, fun _ => rfl⟩
  query := fun _ h => nomatch h
  listening := fun h => nomatch h
  stranded := fun _ => rfl
  settings := h
  attempt := h
  failures := Nat.zero_le _
  counting := fun _ => by simp [Engine.start]
  items := fun i hi => by simp [Engine.start] at hi

/-- Everything that soundness asks but that a free engine has nothing waiting: what an item that has just joined the
list, or a gap that has just run out, leaves for the taking of the head item (R8). -/
structure Engine.soundButFree (e : Engine) : Prop where
  oneScan   : (scanDrops e.waitList).Nodup
  halted    : e.halted = true → e.waitList = [] ∧ e.inFlight = none
  ready     : e.link = .ready → e.inFlight = none
  query     : ∀ q, e.link = .sending q → ∃ i, e.inFlight = some i ∧ q = probeQueryBytes i.drop
  listening : e.link = .listening → e.inFlight.isSome = true
  stranded  : (e.link = .strandedListening ∨ ∃ q, e.link = .strandedSending q) → e.inFlight = none
  settings  : e.settings.inRange
  attempt   : e.attempt.inRange
  failures  : e.failures ≤ 32
  counting  : e.halted = false → e.failures < 32
  items     : ∀ i ∈ e.items, i.attempts ≤ 3 ∧ i.notReady ≤ 4

theorem Engine.sound.butFree {e : Engine} (h : e.sound) : e.soundButFree :=
  ⟨h.oneScan, h.halted, fun hl => (h.free hl).1, h.query, h.listening, h.stranded, h.settings, h.attempt, h.failures,
    h.counting, h.items⟩

/-- The taking of the head item makes it whole (R8). -/
theorem Engine.soundButFree.takeHead {e : Engine} (h : e.soundButFree) : e.takeHead.sound := by
  obtain ⟨he, hn⟩ | ⟨i, rest, hf, hh, hw, he⟩ := e.takeHead_cases
  · rw [he]
    refine ⟨h.oneScan, h.halted, fun hl => ⟨h.ready hl, fun hh => ?_⟩, h.query, h.listening, h.stranded, h.settings,
      h.attempt, h.failures, h.counting, h.items⟩
    obtain hn | hn | hn := hn
    · rw [e.free_iff.mpr ⟨h.ready hl, hl⟩] at hn
      cases hn
    · rw [hh] at hn
      cases hn
    · exact hn
  · have hsub : rest.Sublist e.waitList := hw ▸ List.sublist_cons_self i rest
    have hitems := h.items
    rw [← e.items_takeHead, he] at hitems
    rw [he]
    exact {
      oneScan := h.oneScan.sublist (scanDrops_sublist hsub)
      halted := fun hh' => absurd (hh.symm.trans hh') Bool.false_ne_true
      free := fun hl => nomatch hl
      query := fun q hq => ⟨i, rfl, by cases hq; rfl⟩
      listening := fun _ => rfl
      stranded := fun hl => by simp at hl
      settings := h.settings
      attempt := h.settings
      failures := h.failures
      counting := h.counting
      items := hitems }

/-- An item that joins the list of a trunk that is not HALTED (R8, R9). -/
theorem Engine.sound.append {e : Engine} (h : e.sound) (hh : e.halted = false) {i : Item}
    (hscan : i.origin = .scan → i.drop ∉ scanDrops e.waitList) (hi : i.attempts ≤ 3 ∧ i.notReady ≤ 4) :
    (e.append i).sound := by
  have hb := h.butFree
  refine Engine.soundButFree.takeHead { hb with
    oneScan := nodup_scanDrops_append h.oneScan hscan
    halted := fun hh' => absurd (hh.symm.trans hh') Bool.false_ne_true
    items := fun j hj => ?_ }
  have hj' : j ∈ e.items ++ [i] := by simpa [Engine.items] using hj
  obtain hj | hj := List.mem_append.mp hj'
  · exact h.items j hj
  · rw [List.mem_singleton.mp hj]
    exact hi

theorem Engine.sound.offerScan {e : Engine} (h : e.sound) (d : Drop) : (e.offerScan d).sound := by
  unfold Engine.offerScan
  split
  · exact h
  · next hc =>
    obtain ⟨hh, hs⟩ : e.halted = false ∧ e.holdsScan d = false := by simpa using hc
    refine h.append hh (fun _ hd => ?_) ⟨Nat.zero_le _, Nat.zero_le _⟩
    rw [← e.holdsScan_iff, show (newItem d .scan).drop = d from rfl, hs] at hd
    cases hd

/-- Items leave the wait list (R9, R28, R38, R44). -/
theorem Engine.sound.filtered {e : Engine} (h : e.sound) (keep : Item → Bool) :
    ({ e with waitList := e.waitList.filter keep } : Engine).sound where
  oneScan := h.oneScan.sublist (scanDrops_sublist List.filter_sublist)
  halted := fun hh => by simp [(h.halted hh).1, (h.halted hh).2]
  free := fun hl => ⟨(h.free hl).1, fun hh => by simp [(h.free hl).2 hh]⟩
  query := h.query
  listening := h.listening
  stranded := h.stranded
  settings := h.settings
  attempt := h.attempt
  failures := h.failures
  counting := h.counting
  items := fun i hi => h.items i (by
    obtain hi | hi := List.mem_append.mp hi
    exacts [List.mem_append_left _ hi, List.mem_append_right _ (List.mem_of_mem_filter hi)])

theorem Engine.sound.gapEnded {e : Engine} (h : e.sound) : e.gapEnded.sound := by
  unfold Engine.gapEnded
  split
  · next hl =>
    split
    · next i hi =>
      have hh : e.halted ≠ true := fun hh => by simp [(h.halted hh).2] at hi
      have hitems := h.items
      rw [hi] at hitems
      exact {
        oneScan := h.oneScan
        halted := fun hh' => absurd hh' hh
        free := fun hl => nomatch hl
        query := fun q hq => ⟨i, rfl, by cases hq; rfl⟩
        listening := fun _ => rfl
        stranded := fun hl => by simp [Engine.startAttempt] at hl
        settings := h.settings
        attempt := h.settings
        failures := h.failures
        counting := h.counting
        items := hitems }
    · next hi =>
      exact Engine.soundButFree.takeHead { h.butFree with
        ready := fun _ => hi
        query := fun q hq => nomatch hq
        listening := fun hl => nomatch hl
        stranded := fun _ => hi }
  · exact h

theorem Engine.sound.opened {e : Engine} (h : e.sound) : e.opened.sound := by
  unfold Engine.opened
  split
  · next q hl =>
    obtain ⟨i, hi, -⟩ := h.query q hl
    exact { h with
      free := fun hl => nomatch hl
      query := fun q hq => nomatch hq
      listening := fun _ => by simp [hi]
      stranded := fun hl => by simp at hl }
  · next q hl =>
    have hi := h.stranded (.inr ⟨q, hl⟩)
    exact { h with
      free := fun hl => nomatch hl
      query := fun q hq => nomatch hq
      listening := fun hl => nomatch hl
      stranded := fun _ => hi }
  all_goals exact h

/-- The gap runs: nothing is asked of the item in flight (R4). -/
theorem Engine.sound.gap {e : Engine} (h : e.sound) : ({ e with link := .gap } : Engine).sound :=
  { h with
    free := fun hl => nomatch hl
    query := fun q hq => nomatch hq
    listening := fun hl => nomatch hl
    stranded := fun hl => by simp at hl }

/-- A HALTED trunk goes to IDLE, its list empty as it was (R16). -/
theorem Engine.sound.restart {e : Engine} (h : e.sound) (hh : e.halted = true) :
    ({ e with halted := false, failures := 0 } : Engine).sound :=
  { h with
    halted := fun hh => nomatch hh
    free := fun hl => ⟨(h.free hl).1, fun _ => (h.halted hh).1⟩
    failures := Nat.zero_le _
    counting := fun _ => by simp }

theorem Engine.sound.settle {e : Engine} (h : e.sound) {c : TrunkSettings} (hc : c.inRange) :
    ({ e with settings := c } : Engine).sound :=
  { h with settings := hc }

/-- A trunk at Warm Restart keeps no item (R21). -/
theorem Engine.sound.restarted {e : Engine} (h : e.sound) : e.restarted.sound :=
  { Engine.start_sound h.settings with
    free := fun _ => ⟨rfl, fun _ => rfl⟩
    query := fun q hq => by
      revert hq
      show e.link.abandoned = .sending q → _
      cases e.link <;> simp [Link.abandoned]
    listening := fun hl => by
      revert hl
      show e.link.abandoned = .listening → _
      cases e.link <;> simp [Link.abandoned]
    stranded := fun _ => rfl }

/-! ### The end of an attempt -/

/-- The engine after an attempt of the item in flight has ended: HALTED, or with the item retried, back at the tail, or
gone (R4, R10 to R14). -/
def Engine.attemptEnded (e : Engine) (i : Item) (res : AttemptResult) (defined : Bool) : Engine :=
  let e := e.transactionEnded res defined
  if e.mustHalt res defined then e.itemLeft.halt
  else
    match res.outcome with
    | .noAnswer =>
      if i.attempts < e.attempt.retries then
        { e with inFlight := some { i with attempts := i.attempts + 1, latest := some res } }
      else e.itemLeft
    | .badCheck =>
      if i.attempts < e.attempt.retries then
        { e with inFlight := some { i with attempts := i.attempts + 1, latest := some res } }
      else e.itemLeft
    | .notReady =>
      if i.notReady < 4 then e.requeue { i with notReady := i.notReady + 1, latest := some res } else e.itemLeft
    | .good => e.itemLeft
    | .tainted => e.itemLeft
    | .kindMismatch => e.itemLeft
    | .notReadyLimit => e
    | .trunkHalted => e

/-- A sound engine that listens is not HALTED (R14). -/
theorem Engine.sound.not_halted {e : Engine} (h : e.sound) {i : Item} (hi : e.inFlight = some i) :
    e.halted = false := by
  by_contra hh
  simp [(h.halted (by simpa using hh)).2] at hi

/-- An engine whose item has left it in the gap. -/
theorem Engine.sound.itemLeft {e : Engine} (h : e.sound) (hl : e.link = .gap) : e.itemLeft.sound :=
  { h with
    halted := fun hh => ⟨(h.halted hh).1, rfl⟩
    free := fun hl' => absurd (hl.symm.trans hl') (by simp)
    query := fun q hq => absurd (hl.symm.trans hq) (by simp)
    listening := fun hl' => absurd (hl.symm.trans hl') (by simp)
    stranded := fun _ => rfl
    items := fun i hi => h.items i (List.mem_append_right _ (by simpa [Engine.itemLeft] using hi)) }

theorem Engine.sound.requeue {e : Engine} (h : e.sound) (hl : e.link = .gap) (hh : e.halted = false) {i : Item}
    (hi : i.attempts ≤ 3 ∧ i.notReady ≤ 4) : (e.requeue i).sound := by
  have hleft := h.itemLeft hl
  unfold Engine.requeue
  split
  · exact hleft
  · next hc =>
    refine { hleft with
      oneScan := nodup_scanDrops_append h.oneScan fun ho hd => hc ?_
      halted := fun hh' => absurd (hh.symm.trans hh') Bool.false_ne_true
      free := fun hl' => absurd (hl.symm.trans hl') (by simp)
      items := fun j hj => ?_ }
    · simp [ho, e.holdsScan_iff, hd]
    · have hj' : j ∈ e.waitList ∨ j = i := by simpa [Engine.itemLeft] using hj
      obtain hj | rfl := hj'
      exacts [h.items j (List.mem_append_right _ hj), hi]

/-- A trunk that halts keeps no item (R14). -/
theorem Engine.sound.haltedAt {e : Engine} (h : e.sound) {n : Nat} (hn : n ≤ 32) :
    ({ e with link := .gap, failures := n, inFlight := none, waitList := [], halted := true } : Engine).sound where
  oneScan := List.nodup_nil
  halted := fun _ => ⟨rfl, rfl⟩
  free := fun hl => nomatch hl
  query := fun q hq => nomatch hq
  listening := fun hl => nomatch hl
  stranded := fun _ => rfl
  settings := h.settings
  attempt := h.attempt
  failures := hn
  counting := fun hh => nomatch hh
  items := fun i hi => by simp at hi

/-- The count after an attempt stays below the halt threshold in force, where the trunk does not halt (R13, R14). -/
theorem countAttempt_lt {e : Engine} (h : e.sound) (hf : e.failures < 32) {res : AttemptResult} {defined : Bool}
    (hm : (e.transactionEnded res defined).mustHalt res defined = false) :
    countAttempt e.failures res.outcome defined < 32 := by
  obtain ⟨-, -, hhalt, -, -⟩ := h.attempt
  have hm' : res.outcome.failedAttempt = true → defined = true →
      countAttempt e.failures res.outcome defined < e.attempt.haltThreshold := by
    intro h1 h2
    simpa [Engine.mustHalt, Engine.transactionEnded, h1, h2] using hm
  unfold countAttempt at hm' ⊢
  split
  · next hfail =>
    split
    · next hd =>
      have hlt := hm' hfail hd
      rw [if_pos hfail, if_pos hd] at hlt
      omega
    · exact hf
  · omega

theorem countAttempt_le (n : Nat) (outcome : ProbeOutcome) (defined : Bool) :
    countAttempt n outcome defined ≤ n + 1 := by
  unfold countAttempt
  split
  · split <;> omega
  · omega

/-- The end of an attempt keeps a sound engine sound (R10 to R14). -/
theorem Engine.sound.attemptEnded {e : Engine} (h : e.sound) {i : Item} (hi : e.inFlight = some i)
    (res : AttemptResult) (defined : Bool) : (e.attemptEnded i res defined).sound := by
  have hh := h.not_halted hi
  have hf := h.counting hh
  have hitem : i.attempts ≤ 3 ∧ i.notReady ≤ 4 := h.items i (by simp [hi])
  have hcount := countAttempt_le e.failures res.outcome defined
  unfold Engine.attemptEnded
  dsimp only
  split
  · exact h.haltedAt (n := countAttempt e.failures res.outcome defined) (by omega)
  · next hm =>
    have hlt := countAttempt_lt h hf (by simpa using hm)
    have hended : (e.transactionEnded res defined).sound :=
      { h.gap with failures := by exact hlt.le, counting := fun _ => hlt }
    have hretry (ha : i.attempts < (e.transactionEnded res defined).attempt.retries) :
        ({ e.transactionEnded res defined with
            inFlight := some { i with attempts := i.attempts + 1, latest := some res } } : Engine).sound := by
      obtain ⟨hr, -⟩ := hended.attempt
      refine { hended with
        halted := fun hh' => absurd (hh.symm.trans hh') Bool.false_ne_true
        free := fun hl => nomatch hl
        query := fun q hq => nomatch hq
        listening := fun _ => rfl
        stranded := fun hl => by simp [Engine.transactionEnded] at hl
        items := fun j hj => ?_ }
      obtain rfl | hj : j = { i with attempts := i.attempts + 1, latest := some res } ∨ j ∈ e.waitList := by
        simpa [Engine.transactionEnded] using hj
      · exact ⟨by dsimp only; omega, hitem.2⟩
      · exact h.items j (List.mem_append_right _ hj)
    have hleft := hended.itemLeft rfl
    split
    · split
      exacts [hretry ‹_›, hleft]
    · split
      exacts [hretry ‹_›, hleft]
    · split
      · next hn => exact hended.requeue rfl hh ⟨hitem.1, by dsimp only; omega⟩
      · exact hleft
    · exact hleft
    · exact hleft
    · exact hleft
    · exact hended
    · exact hended

end Sys2Proof.Machine
end

section
/-! Cycles, settling and the end of an attempt at the level of the part: what each touches, and the engines, order slots
and frames it leaves (R12, R14, R24, R35, R36). -/

namespace Sys2Proof.Machine

open Sys2Proof

theorem State.engine_setEngine (s : State) (t u : Trunk) (e : Engine) :
    (s.setEngine t e).engine u = if u = t then e else s.engine u := Table.get_set ..

theorem State.slot_setSlot (s : State) (j k : SlotId) (o : OrderSlot) :
    (s.setSlot k o).slot j = if j = k then o else s.slot j := Table.get_set ..

/-! ### Scan cycles (R24) -/

/-- t differs from s only in the engines. -/
def State.enginesOnly (s t : State) : Prop := ∃ es, t = { s with engines := es }

theorem State.enginesOnly.refl (s : State) : s.enginesOnly s := ⟨s.engines, rfl⟩

theorem State.enginesOnly.trans {s t v : State} (h : s.enginesOnly t) (h' : t.enginesOnly v) : s.enginesOnly v := by
  obtain ⟨es, rfl⟩ := h
  obtain ⟨es', rfl⟩ := h'
  exact ⟨es', rfl⟩

theorem State.offerScanAt_enginesOnly (s : State) (a : Addr) : s.enginesOnly (s.offerScanAt a) := by
  unfold State.offerScanAt
  split
  exacts [⟨_, rfl⟩, .refl s]

/-- A cycle start touches only the engines. -/
theorem State.scanCycle_enginesOnly (s : State) : s.enginesOnly s.scanCycle := by
  have hfold : ∀ (xs : List Addr) (s : State), s.enginesOnly (xs.foldl State.offerScanAt s) := by
    intro xs
    induction xs with
    | nil => exact .refl
    | cons a xs ih => exact fun s => (s.offerScanAt_enginesOnly a).trans (ih _)
  exact hfold _ s

/-- One engine after items have been offered for a list of addresses: those of its trunk with a defined probe. -/
theorem State.engine_foldl_offerScanAt (xs : List Addr) (s : State) (u : Trunk) :
    (xs.foldl State.offerScanAt s).engine u =
      ((xs.filter fun a => a.trunk = u && s.definedAt a).map (·.drop)).foldl Engine.offerScan (s.engine u) := by
  induction xs generalizing s with
  | nil => rfl
  | cons a xs ih =>
    have hdef : (s.offerScanAt a).definedAt = s.definedAt := by
      obtain ⟨es, h⟩ := s.offerScanAt_enginesOnly a
      rw [h]
      rfl
    rw [List.foldl_cons, ih, hdef]
    by_cases hd : s.definedAt a = true
    · have hoff : s.offerScanAt a = s.setEngine a.trunk ((s.engine a.trunk).offerScan a.drop) := if_pos hd
      rw [hoff, State.engine_setEngine]
      by_cases hu : u = a.trunk
      · simp [hu, hd]
      · simp [hu, Ne.symm hu]
    · have hoff : s.offerScanAt a = s := if_neg hd
      simp [hoff, hd]

/-- The addresses of one trunk with a defined probe, ascending. -/
theorem State.definedDrops_eq (s : State) (u : Trunk) :
    (allAddrs.filter fun a => a.trunk = u && s.definedAt a).map (·.drop) = s.definedDrops u := by
  have hall : allAddrs = ((List.finRange 32).map fun d => ⟨0, d⟩) ++ (List.finRange 32).map fun d => ⟨1, d⟩ := by
    simp [allAddrs, List.finRange_succ]
  have hsame (t : Trunk) :
      (((List.finRange 32).map (Addr.mk t)).filter fun a => a.trunk = t && s.definedAt a).map (·.drop)
        = s.definedDrops t := by
    rw [List.filter_map, List.map_map]
    simp [State.definedDrops, Function.comp_def]
  have hother {t : Trunk} (ht : t ≠ u) :
      ((List.finRange 32).map (Addr.mk t)).filter (fun a => a.trunk = u && s.definedAt a) = [] := by
    simp [List.filter_map, Function.comp_def, ht]
  rw [hall, List.filter_append, List.map_append]
  obtain rfl | rfl := (by decide : ∀ u : Trunk, u = 0 ∨ u = 1) u
  · rw [hsame, hother (by decide), List.map_nil, List.append_nil]
  · rw [hsame, hother (by decide), List.map_nil, List.nil_append]

/-- One engine after a cycle start: its defined drops offered in ascending order (R24). -/
theorem State.engine_scanCycle (s : State) (u : Trunk) :
    s.scanCycle.engine u = (s.definedDrops u).foldl Engine.offerScan (s.engine u) := by
  rw [State.scanCycle, State.engine_foldl_offerScanAt, State.definedDrops_eq]

/-- A period start touches only the Scan Timer and the engines (R23). -/
theorem State.startPeriod_eq (s : State) :
    ∃ es, s.startPeriod = { s with scan := s.scan.periodStarted, engines := es } := by
  obtain ⟨es, h⟩ := (s.setScan s.scan.periodStarted).scanCycle_enginesOnly
  exact ⟨es, h⟩

theorem State.engine_startPeriod (s : State) (u : Trunk) :
    s.startPeriod.engine u = (s.definedDrops u).foldl Engine.offerScan (s.engine u) :=
  (s.setScan s.scan.periodStarted).engine_scanCycle u

/-- The period start of a reset or the load touches only the Scan Timer and the engines (R30, R31). -/
theorem State.resumeScan_eq (s : State) :
    ∃ es, s.resumeScan =
      { s with scan := if s.scan.mode = .continuous then s.scan.periodStarted else s.scan, engines := es } := by
  unfold State.resumeScan
  split
  exacts [s.startPeriod_eq, ⟨s.engines, rfl⟩]

theorem State.engine_resumeScan (s : State) (u : Trunk) :
    s.resumeScan.engine u =
      if s.scan.mode = .continuous then (s.definedDrops u).foldl Engine.offerScan (s.engine u) else s.engine u := by
  unfold State.resumeScan
  split
  exacts [s.engine_startPeriod u, rfl]

/-! ### Settling (R14, R35, R36) -/

/-- t differs from s only in the order slots and in reply-class frames that have joined those waiting. -/
def State.ordersOnly (s t : State) : Prop :=
  ∃ ks fs, t = { s with slots := ks, port := { s.port with replies := s.port.replies ++ fs } }

theorem State.ordersOnly.refl (s : State) : s.ordersOnly s := ⟨s.slots, [], by rw [List.append_nil]⟩

theorem State.ordersOnly.trans {s t v : State} (h : s.ordersOnly t) (h' : t.ordersOnly v) : s.ordersOnly v := by
  obtain ⟨ks, fs, rfl⟩ := h
  obtain ⟨ks', fs', rfl⟩ := h'
  exact ⟨ks', fs ++ fs', by simp only [List.append_assoc]⟩

theorem State.ordersOnly.engine {s t : State} (h : s.ordersOnly t) (u : Trunk) : t.engine u = s.engine u := by
  obtain ⟨ks, fs, rfl⟩ := h
  rfl

theorem State.setSlot_ordersOnly (s : State) (k : SlotId) (o : OrderSlot) : s.ordersOnly (s.setSlot k o) :=
  ⟨s.slots.set k o, [], by rw [List.append_nil]; rfl⟩

theorem State.queueFrame_ordersOnly (s : State) (f : OutFrame) : s.ordersOnly (s.queueFrame f) := ⟨s.slots, [f], rfl⟩

theorem State.settlePoint_ordersOnly (s : State) (k : SlotId) (n : Nat) (x : PointOutcome) :
    s.ordersOnly (s.settlePoint k n x) := by
  unfold State.settlePoint State.holdOrder
  repeat' split
  exacts [(s.setSlot_ordersOnly ..).trans (State.queueFrame_ordersOnly ..), s.setSlot_ordersOnly ..,
    s.setSlot_ordersOnly .., .refl s, .refl s]

/-- The order slots after a point has settled (R35, R36, R39). -/
theorem State.slot_settlePoint (s : State) (j k : SlotId) (n : Nat) (x : PointOutcome) :
    (s.settlePoint k n x).slot j = if j = k then (s.slot k).settled n x else s.slot j := by
  have hsame : s.slot j = if j = k then s.slot k else s.slot j := by
    split
    · next h => rw [h]
    · rfl
  unfold State.settlePoint
  split
  · next q hq =>
    have hsettled : (s.slot k).settled n x = if q.outstanding ≤ 1 then .reporting else .held (q.settle n x) := by
      rw [hq]
      rfl
    rw [hsettled]
    unfold State.holdOrder
    by_cases hle : q.outstanding ≤ 1
    · rw [if_pos (show (q.settle n x).outstanding = 0 by show q.outstanding - 1 = 0; omega), if_pos hle]
      exact s.slot_setSlot ..
    · rw [if_neg (show ¬ (q.settle n x).outstanding = 0 by show ¬ q.outstanding - 1 = 0; omega), if_neg hle]
      exact s.slot_setSlot ..
  · next m hm =>
    rw [s.slot_setSlot, hm]
    rfl
  · next hk =>
    rw [hk] at hsame ⊢
    exact hsame
  · next hk =>
    rw [hk] at hsame ⊢
    exact hsame

theorem State.settleHalted_ordersOnly (s : State) (i : Item) : s.ordersOnly (s.settleHalted i) := by
  unfold State.settleHalted
  split
  exacts [s.settlePoint_ordersOnly .., .refl s]

theorem State.settleAllHalted_ordersOnly (s : State) (items : List Item) : s.ordersOnly (s.settleAllHalted items) := by
  unfold State.settleAllHalted
  induction items generalizing s with
  | nil => exact .refl s
  | cons i items ih => exact (s.settleHalted_ordersOnly i).trans (ih _)

/-! ### The end of an item and of an attempt (R10 to R14) -/

/-- What the Survey Unit is handed when an item ends (R12, R35). -/
def State.settleItem (s : State) (i : Item) (x : PointOutcome) : State :=
  match i.origin with
  | .scan => s
  | .survey k point => s.settlePoint k point x

theorem State.settleItem_ordersOnly (s : State) (i : Item) (x : PointOutcome) : s.ordersOnly (s.settleItem i x) := by
  unfold State.settleItem
  split
  exacts [.refl s, s.settlePoint_ordersOnly ..]

/-- An item that ends is handed to the Probe Table, then to the Survey Unit (R12). -/
theorem State.handOut_eq (s : State) (t : Trunk) (i : Item) (res : AttemptResult) (outcome : ProbeOutcome) :
    s.handOut t i res outcome = (s.handToProbe ⟨t, i.drop⟩ res outcome).settleItem i ⟨outcome, some res⟩ := by
  unfold State.handOut State.settleItem
  rfl

theorem State.settleHalted_eq (s : State) (i : Item) : s.settleHalted i = s.settleItem i ⟨.trunkHalted, none⟩ := by
  unfold State.settleHalted State.settleItem
  cases i.origin <;> rfl

theorem State.engine_finalise (s : State) (t u : Trunk) (i : Item) (res : AttemptResult) (outcome : ProbeOutcome) :
    (s.finalise t i res outcome).engine u = if u = t then (s.engine t).itemLeft else s.engine u := by
  rw [State.finalise, State.handOut_eq, (State.settleItem_ordersOnly ..).engine,
    (State.handToProbe_keepsWork ..).engine, State.engine_setEngine]

theorem State.engine_haltTrunk (s : State) (t u : Trunk) (i : Item) (res : AttemptResult) :
    (s.haltTrunk t i res).engine u = if u = t then (s.engine t).itemLeft.halt else s.engine u := by
  unfold State.haltTrunk
  dsimp only
  rw [(State.raise_keepsWork ..).engine, (State.settleAllHalted_ordersOnly ..).engine, State.engine_setEngine]
  split
  · rw [State.engine_finalise, if_pos rfl]
  · next h => rw [State.engine_finalise, if_neg h]

/-- The engines after an attempt has ended: its own as `Engine.attemptEnded` says, the other as it was. -/
theorem State.engine_endAttempt (s : State) (t u : Trunk) (i : Item) (res : AttemptResult) :
    (s.endAttempt t i res).engine u =
      if u = t then (s.engine t).attemptEnded i res (s.definedAt ⟨t, i.drop⟩) else s.engine u := by
  have hset (v : Trunk) (e : Engine) : (s.setEngine t e).engine v = if v = t then e else s.engine v :=
    s.engine_setEngine ..
  unfold State.endAttempt Engine.attemptEnded
  dsimp only
  split
  · rw [State.engine_haltTrunk]
    split
    · rw [hset, if_pos rfl]
    · next h => rw [hset, if_neg h]
  · have hfinal (o : ProbeOutcome) (e : Engine) :
        ((s.setEngine t e).finalise t i res o).engine u = if u = t then e.itemLeft else s.engine u := by
      rw [State.engine_finalise, hset, hset, if_pos rfl]
      split <;> simp_all
    have hretry (e : Engine) : ((s.setEngine t e).retryOrEnd t i res).engine u =
        if u = t then
          (if i.attempts < e.attempt.retries then
            { e with inFlight := some { i with attempts := i.attempts + 1, latest := some res } } else e.itemLeft)
        else s.engine u := by
      unfold State.retryOrEnd
      rw [State.engine_setEngine_same]
      split
      · rw [State.engine_setEngine, hset]
        split <;> simp_all
      · exact hfinal _ e
    have hrequeue (e : Engine) : ((s.setEngine t e).requeueOrEnd t i res).engine u =
        if u = t then
          (if i.notReady < 4 then e.requeue { i with notReady := i.notReady + 1, latest := some res } else e.itemLeft)
        else s.engine u := by
      unfold State.requeueOrEnd
      rw [State.engine_setEngine_same]
      split
      · rw [State.engine_setEngine, hset]
        split <;> simp_all
      · exact hfinal _ e
    unfold State.disposeItem
    cases res.outcome with
    | noAnswer => exact hretry _
    | badCheck => exact hretry _
    | notReady => exact hrequeue _
    | good => exact hfinal _ _
    | tainted => exact hfinal _ _
    | kindMismatch => exact hfinal _ _
    | notReadyLimit => exact hset u _
    | trunkHalted => exact hset u _

/-! ### What the end of an attempt leaves alone -/

/-- The blocks that the end of an item never touches. -/
structure State.itemKeeps (s t : State) : Prop where
  pending   : t.pending = s.pending
  power     : t.power = s.power
  uptime    : t.uptime = s.uptime
  defaulted : t.defaulted = s.defaulted
  store     : t.store = s.store
  scan      : t.scan = s.scan
  map       : t.map = s.map
  mask      : t.port.mask = s.port.mask
  channels  : t.leak.channels = s.leak.channels

theorem State.itemKeeps.refl (s : State) : s.itemKeeps s := ⟨rfl, rfl, rfl, rfl, rfl, rfl, rfl, rfl, rfl⟩

theorem State.itemKeeps.trans {s t v : State} (h : s.itemKeeps t) (h' : t.itemKeeps v) : s.itemKeeps v where
  pending := h'.pending.trans h.pending
  power := h'.power.trans h.power
  uptime := h'.uptime.trans h.uptime
  defaulted := h'.defaulted.trans h.defaulted
  store := h'.store.trans h.store
  scan := h'.scan.trans h.scan
  map := h'.map.trans h.map
  mask := h'.mask.trans h.mask
  channels := h'.channels.trans h.channels

theorem State.evaluationKeeps.itemKeeps {s t : State} (h : s.evaluationKeeps t) : s.itemKeeps t :=
  ⟨h.pending, h.power, h.uptime, h.defaulted, h.store, h.scan, h.map, by rw [h.port], by rw [h.leak]⟩

theorem State.ordersOnly.itemKeeps {s t : State} (h : s.ordersOnly t) : s.itemKeeps t := by
  obtain ⟨ks, fs, rfl⟩ := h
  exact ⟨rfl, rfl, rfl, rfl, rfl, rfl, rfl, rfl, rfl⟩

theorem State.setEngine_itemKeeps (s : State) (t : Trunk) (e : Engine) : s.itemKeeps (s.setEngine t e) :=
  ⟨rfl, rfl, rfl, rfl, rfl, rfl, rfl, rfl, rfl⟩

theorem State.setProbe_itemKeeps (s : State) (a : Addr) (r : ProbeRecord) : s.itemKeeps (s.setProbe a r) :=
  ⟨rfl, rfl, rfl, rfl, rfl, rfl, rfl, rfl, rfl⟩

theorem State.raise_itemKeeps (s : State) (src : Source) (u : Urgency) : s.itemKeeps (s.raise src u) :=
  ⟨rfl, rfl, rfl, rfl, rfl, rfl, rfl, Port.raise_mask .., rfl⟩

theorem State.handToProbe_itemKeeps (s : State) (a : Addr) (res : AttemptResult) (outcome : ProbeOutcome) :
    s.itemKeeps (s.handToProbe a res outcome) := by
  have hstored (c : ProbeConfig) (o : ProbeOutcome) (raw : RawReading) :
      s.itemKeeps ((s.storeReading a c o raw res.time).evaluateAt a) := by
    refine .trans ?_ (State.evaluateAt_keeps _ a).itemKeeps
    unfold State.storeReading
    dsimp only
    split
    exacts [(s.setProbe_itemKeeps ..).trans (State.raise_itemKeeps ..), s.setProbe_itemKeeps ..]
  have hfailed (o : ProbeOutcome) : s.itemKeeps ((s.failProbe a o res.kind).evaluateAt a) := by
    refine .trans ?_ (State.evaluateAt_keeps _ a).itemKeeps
    unfold State.failProbe
    dsimp only
    split
    exacts [(s.setProbe_itemKeeps ..).trans (State.raise_itemKeeps ..), s.setProbe_itemKeeps ..]
  unfold State.handToProbe State.applyOutcome
  repeat' split
  all_goals first | exact .refl s | exact hstored .. | exact hfailed _

theorem State.finalise_itemKeeps (s : State) (t : Trunk) (i : Item) (res : AttemptResult) (outcome : ProbeOutcome) :
    s.itemKeeps (s.finalise t i res outcome) := by
  rw [State.finalise, State.handOut_eq]
  exact ((s.setEngine_itemKeeps ..).trans (State.handToProbe_itemKeeps ..)).trans
    (State.settleItem_ordersOnly ..).itemKeeps

theorem State.haltTrunk_itemKeeps (s : State) (t : Trunk) (i : Item) (res : AttemptResult) :
    s.itemKeeps (s.haltTrunk t i res) :=
  (((s.finalise_itemKeeps t i res res.outcome).trans (State.setEngine_itemKeeps ..)).trans
    (State.settleAllHalted_ordersOnly ..).itemKeeps).trans (State.raise_itemKeeps ..)

theorem State.endAttempt_itemKeeps (s : State) (t : Trunk) (i : Item) (res : AttemptResult) :
    s.itemKeeps (s.endAttempt t i res) := by
  unfold State.endAttempt
  dsimp only
  refine .trans (s.setEngine_itemKeeps t ((s.engine t).transactionEnded res (s.definedAt ⟨t, i.drop⟩))) ?_
  split
  · exact State.haltTrunk_itemKeeps ..
  · unfold State.disposeItem State.retryOrEnd State.requeueOrEnd
    repeat' split
    all_goals
      first
      | exact .refl _
      | exact State.setEngine_itemKeeps ..
      | exact State.finalise_itemKeeps ..

/-! ### Survey orders that are accepted (R34) -/

/-- An item that is offered touches one engine, or settles its point. -/
theorem State.offerSurvey_itemKeeps (s : State) (t : Trunk) (i : Item) : s.itemKeeps (s.offerSurvey t i) := by
  unfold State.offerSurvey
  split
  exacts [(s.settleHalted_ordersOnly i).itemKeeps, s.setEngine_itemKeeps ..]

theorem State.offerPoints_itemKeeps (s : State) (k : SlotId) (points : List Addr) :
    s.itemKeeps (s.offerPoints k points) := by
  unfold State.offerPoints
  generalize points.zipIdx = xs
  induction xs generalizing s with
  | nil => exact .refl s
  | cons x xs ih => exact (s.offerSurvey_itemKeeps ..).trans (ih _)

theorem State.acceptSurvey_itemKeeps (s : State) (tag : Byte) (k : SlotId) (points : List Addr) :
    s.itemKeeps (s.acceptSurvey tag k points) :=
  ((s.setSlot_ordersOnly ..).trans (State.queueFrame_ordersOnly ..)).itemKeeps.trans (State.offerPoints_itemKeeps ..)

end Sys2Proof.Machine
end

section
/-! Every step keeps the trunks sound, and every step keeps the Scan Timer sound, in store too (R14, R17, R22). -/

namespace Sys2Proof.Machine

open Sys2Proof

/-! ### The trunks -/

theorem Engine.sound.cycled {e : Engine} (h : e.sound) (ds : List Drop) : (ds.foldl Engine.offerScan e).sound := by
  induction ds generalizing e with
  | nil => exact h
  | cons d ds ih => exact ih (h.offerScan d)

/-- One engine is replaced by a sound one. -/
theorem State.trunksSound.setEngine {s : State} (h : s.trunksSound) {t : Trunk} {e : Engine} (he : e.sound) :
    (s.setEngine t e).trunksSound := by
  refine ⟨fun u => ?_, h.2⟩
  rw [State.engine_setEngine]
  split
  exacts [he, h.1 u]

/-- Soundness is of the engines and the stored trunk settings. -/
theorem State.trunksSound.of_engines {s t : State} (h : s.trunksSound) (he : ∀ u, (t.engine u).sound)
    (hs : t.store.contents = s.store.contents) : t.trunksSound :=
  ⟨he, fun u => hs ▸ h.2 u⟩

theorem TrunkSettings.default_inRange : TrunkSettings.default.inRange := by
  simp [TrunkSettings.inRange, TrunkSettings.default]

theorem State.trunksSound.toLoad {s : State} (h : s.trunksSound) (u : Trunk) :
    (s.store.toLoad.trunks.get u).inRange := by
  unfold Store.toLoad
  split
  · exact h.2 u
  · rw [Image.default, Table.get_all]
    exact TrunkSettings.default_inRange

/-- The load starts every trunk from its settings, and in CONTINUOUS a cycle (R20, R30). -/
theorem State.engine_load (s : State) (u : Trunk) :
    s.load.engine u =
      if s.store.toLoad.scanMode = .continuous then
        (State.definedDrops ({ s with defaulted := !s.store.valid }.startedFrom s.store.toLoad) u).foldl
          Engine.offerScan (Engine.start (s.store.toLoad.trunks.get u))
      else Engine.start (s.store.toLoad.trunks.get u) := by
  have hstart : (State.startRound ({ s with defaulted := !s.store.valid }.startedFrom s.store.toLoad)).engine u
      = Engine.start (s.store.toLoad.trunks.get u) := Table.get_map ..
  rw [State.load, State.engine_resumeScan, hstart]
  rfl

theorem State.load_store (s : State) : s.load.store = s.store := by
  obtain ⟨es, h⟩ :=
    State.resumeScan_eq (State.startRound ({ s with defaulted := !s.store.valid }.startedFrom s.store.toLoad))
  rw [State.load, h]
  rfl

/-- Warm Restart starts every trunk afresh, and in CONTINUOUS a cycle (R21, R31). -/
theorem State.engine_restarted (s : State) (u : Trunk) :
    s.restarted.resumeScan.engine u =
      if s.scan.mode = .continuous then
        (s.restarted.definedDrops u).foldl Engine.offerScan (s.engine u).restarted
      else (s.engine u).restarted := by
  have hstart : s.restarted.engine u = (s.engine u).restarted := Table.get_map ..
  rw [State.engine_resumeScan, hstart]
  rfl

theorem State.restarted_store (s : State) : s.restarted.resumeScan.store = s.store := by
  obtain ⟨es, h⟩ := s.restarted.resumeScan_eq
  rw [h]
  rfl

/-- A Scan Setup mode touches only the Scan Timer and the engines (R26 to R28). -/
theorem State.setScanMode_eq (s : State) (mode : ScanMode) (period : Nat) :
    ∃ t es, s.setScanMode mode period = { s with scan := t, engines := es } := by
  cases mode with
  | continuous =>
    show ∃ t es, s.scanContinuous period = { s with scan := t, engines := es }
    unfold State.scanContinuous
    split
    · exact ⟨_, s.engines, rfl⟩
    · obtain ⟨es, h⟩ := (s.setScan (s.scan.setTo .continuous period)).startPeriod_eq
      exact ⟨_, es, h⟩
  | single =>
    obtain ⟨es, h⟩ := (s.setScan (s.scan.setTo .stopped period)).scanCycle_enginesOnly
    exact ⟨_, es, h⟩
  | stopped => exact ⟨_, _, rfl⟩

/-- One engine after a Scan Setup mode: as it was, with a cycle offered, or without its SCAN items (R26 to R28). -/
theorem State.engine_setScanMode (s : State) (mode : ScanMode) (period : Nat) (u : Trunk) :
    (s.setScanMode mode period).engine u = s.engine u
      ∨ (s.setScanMode mode period).engine u = (s.definedDrops u).foldl Engine.offerScan (s.engine u)
      ∨ (s.setScanMode mode period).engine u = (s.engine u).removeAllScan := by
  cases mode with
  | continuous =>
    show (s.scanContinuous period).engine u = _ ∨ (s.scanContinuous period).engine u = _
      ∨ (s.scanContinuous period).engine u = _
    unfold State.scanContinuous
    split
    · exact .inl rfl
    · exact .inr (.inl ((s.setScan (s.scan.setTo .continuous period)).engine_startPeriod u))
  | single => exact .inr (.inl ((s.setScan (s.scan.setTo .stopped period)).engine_scanCycle u))
  | stopped => exact .inr (.inr (Table.get_map ..))

theorem State.trunksSound.offerSurvey {s : State} (h : s.trunksSound) (t : Trunk) {i : Item}
    (ho : i.origin ≠ .scan) (hi : i.attempts ≤ 3 ∧ i.notReady ≤ 4) : (s.offerSurvey t i).trunksSound := by
  unfold State.offerSurvey
  split
  · have hs := s.settleHalted_ordersOnly i
    refine h.of_engines (fun u => ?_) (by rw [hs.itemKeeps.store])
    rw [hs.engine]
    exact h.1 u
  · next hh => exact h.setEngine ((h.1 t).append (by simpa using hh) (fun hscan => absurd hscan ho) hi)

theorem State.trunksSound.acceptSurvey {s : State} (h : s.trunksSound) (tag : Byte) (k : SlotId) (points : List Addr) :
    (s.acceptSurvey tag k points).trunksSound := by
  have hfold : ∀ (xs : List (Addr × Nat)) (s : State), s.trunksSound →
      (xs.foldl (fun s x => s.offerSurvey x.1.trunk (newItem x.1.drop (.survey k x.2))) s).trunksSound := by
    intro xs
    induction xs with
    | nil => exact fun _ h => h
    | cons x xs ih =>
      exact fun s h => ih _ (h.offerSurvey _ (by simp [newItem]) ⟨Nat.zero_le _, Nat.zero_le _⟩)
  exact hfold _ _ h

/-- Everything that changes a trunk keeps the trunks sound. -/
theorem trunksSound_keptByWork : KeptByWork State.trunksSound where
  frame := fun hk h => h.of_engines (fun u => hk.engine u ▸ h.1 u) hk.contents
  unloaded := fun {s} power store pending hc h => by
    refine h.of_engines (fun u => ?_) hc
    rw [show (State.unloaded power store pending).engine u = Engine.start TrunkSettings.default from Table.get_all ..]
    exact Engine.start_sound TrunkSettings.default_inRange
  load := fun {s} h => by
    refine h.of_engines (fun u => ?_) (by rw [s.load_store])
    rw [s.engine_load]
    have hstart := Engine.start_sound (h.toLoad u)
    split
    exacts [hstart.cycled _, hstart]
  keep := fun {s} tag h => by
    refine ⟨h.1, fun u => ?_⟩
    rw [show (s.beginKeep tag).store.contents.trunks.get u = (s.engine u).settings from Table.get_map ..]
    exact (h.1 u).settings
  restarted := fun {s} h => by
    refine h.of_engines (fun u => ?_) (by rw [s.restarted_store])
    rw [s.engine_restarted]
    split
    exacts [(h.1 u).restarted.cycled _, (h.1 u).restarted]
  reported := fun _ h => h
  gapEnded := fun t h => h.setEngine (h.1 t).gapEnded
  opened := fun t h => h.setEngine (h.1 t).opened
  runOut := fun t _ h => h.setEngine (h.1 t).gap
  attempt := fun {s} t i res _ hi h => by
    refine h.of_engines (fun u => ?_) (by rw [(s.endAttempt_itemKeeps t i res).store])
    rw [s.engine_endAttempt]
    split
    exacts [(h.1 t).attemptEnded hi _ _, h.1 u]
  removeScan := fun t d h => h.setEngine ((h.1 t).filtered _)
  restart := fun t hh h => h.setEngine ((h.1 t).restart hh)
  settings := fun t c hc h => h.setEngine ((h.1 t).settle hc)
  scanMode := fun {s} mode period _ _ h => by
    refine h.of_engines (fun u => ?_) ?_
    · obtain he | he | he := s.engine_setScanMode mode period u
      all_goals rw [he]
      exacts [h.1 u, (h.1 u).cycled _, (h.1 u).filtered _]
    · obtain ⟨t, es, he⟩ := s.setScanMode_eq mode period
      rw [he]
  maxAge := fun _ _ _ h => h
  period := fun {s} _ h => by
    obtain ⟨es, he⟩ := s.startPeriod_eq
    refine h.of_engines (fun u => ?_) (by rw [he])
    rw [s.engine_startPeriod]
    exact (h.1 u).cycled _
  tick := fun h => h
  survey := fun tag _ k points _ h => h.acceptSurvey tag k points
  cancel := fun {s} k o _ h => by
    refine h.of_engines (fun u => ?_) rfl
    rw [show (s.cancelOrder k _).engine u = (s.engine u).removeOrder k from Table.get_map ..]
    exact (h.1 u).filtered _

/-! ### The Scan Timer -/

/-- A period start in CONTINUOUS (R23). -/
theorem ScanTimer.sound.periodStarted {t : ScanTimer} (h : t.sound) (hm : t.mode = .continuous) :
    t.periodStarted.sound := by
  have hnext : 5 ≤ t.next.getD t.active ∧ t.next.getD t.active ≤ 3600 := by
    cases hn : t.next with
    | none => exact h.active
    | some n => exact (h.next n hn).2
  exact {
    mode := h.mode
    active := hnext
    next := fun n hn => nomatch hn
    running := by simp [ScanTimer.periodStarted, hm]
    countdown := fun n hn => by
      have hn' : t.next.getD t.active = n := by simpa [ScanTimer.periodStarted] using hn
      omega
    maxAge := h.maxAge
    due := fun hd => nomatch hd }

/-- The timer at rest in STOPPED: no countdown, no next period. -/
theorem ScanTimer.stopped_sound {active maxAge : Nat} (ha : 5 ≤ active ∧ active ≤ 3600)
    (hm : 30 ≤ maxAge ∧ maxAge ≤ 7200) :
    ({ mode := .stopped, active := active, next := none, countdown := none, due := false, maxAge := maxAge } :
      ScanTimer).sound where
  mode := by simp
  active := ha
  next := fun n hn => nomatch hn
  running := by simp
  countdown := fun n hn => nomatch hn
  maxAge := hm
  due := fun hd => nomatch hd

/-- The timer in CONTINUOUS with its countdown just loaded. -/
theorem ScanTimer.started_sound {active maxAge : Nat} (ha : 5 ≤ active ∧ active ≤ 3600)
    (hm : 30 ≤ maxAge ∧ maxAge ≤ 7200) :
    ({ mode := .continuous, active := active, next := none, countdown := some active, due := false,
       maxAge := maxAge } : ScanTimer).sound where
  mode := by simp
  active := ha
  next := fun n hn => nomatch hn
  running := by simp
  countdown := fun n hn => by
    cases hn
    omega
  maxAge := hm
  due := fun hd => nomatch hd

theorem ScanTimer.sound.heldNext {t : ScanTimer} (h : t.sound) (hm : t.mode = .continuous) {period : Nat}
    (hp : 5 ≤ period ∧ period ≤ 3600) : (t.heldNext period).sound :=
  { h with
    next := fun n hn => by
      have hn' : ¬ period = t.active ∧ period = n := by simpa [ScanTimer.heldNext] using hn
      obtain ⟨-, rfl⟩ := hn'
      exact ⟨hm, hp⟩ }

/-- A second keeps the countdown in its range (R22, assumption 19). -/
theorem ScanTimer.sound.tick {t : ScanTimer} (h : t.sound) : t.tick.sound := by
  unfold ScanTimer.tick
  split
  · exact h
  · next n hn =>
    have hr := h.countdown n hn
    split
    · exact { h with due := fun _ => by rw [hn, show n = 1 by omega] }
    · refine { h with running := ?_, countdown := fun m hm => ?_, due := fun hd => ?_ }
      · exact ⟨fun _ => h.running.mp (by simp [hn]), fun _ => rfl⟩
      · cases hm
        omega
      · have hone := h.due hd
        rw [hn] at hone
        cases hone
        omega

/-- The mode, period and max reading age of an image that the load may take stand in their ranges. -/
theorem State.scanSound.toLoad {s : State} (h : s.scanSound) :
    s.store.toLoad.scanMode ≠ .single ∧ (5 ≤ s.store.toLoad.period ∧ s.store.toLoad.period ≤ 3600)
      ∧ 30 ≤ s.store.toLoad.maxAge ∧ s.store.toLoad.maxAge ≤ 7200 := by
  unfold Store.toLoad
  split
  exacts [h.2, by simp [Image.default]]

/-- The Scan Timer that an image starts (R30). -/
theorem State.startedFrom_scan (s : State) (i : Image) :
    (s.startedFrom i).startRound.resumeScan.scan =
      { mode := i.scanMode, active := i.period, next := none,
        countdown := if i.scanMode = .continuous then some i.period else none, due := false, maxAge := i.maxAge } := by
  have hscan : (s.startedFrom i).startRound.scan =
      { mode := i.scanMode, active := i.period, next := none, countdown := none, due := false, maxAge := i.maxAge } :=
    rfl
  obtain ⟨es, h⟩ := (s.startedFrom i).startRound.resumeScan_eq
  rw [h, hscan]
  dsimp only
  split <;> rfl

/-- The Scan Timer after the load (R30). -/
theorem State.load_scan (s : State) :
    s.load.scan =
      { mode := s.store.toLoad.scanMode, active := s.store.toLoad.period, next := none,
        countdown := if s.store.toLoad.scanMode = .continuous then some s.store.toLoad.period else none,
        due := false, maxAge := s.store.toLoad.maxAge } :=
  State.startedFrom_scan _ _

/-- The Scan Timer after Warm Restart (R31). -/
theorem State.restarted_scan (s : State) :
    s.restarted.resumeScan.scan = if s.scan.mode = .continuous then s.scan.periodStarted else s.scan := by
  obtain ⟨es, h⟩ := s.restarted.resumeScan_eq
  rw [h]
  rfl

/-- The Scan Timer after a Scan Setup mode (R26 to R28). -/
theorem State.setScanMode_scan (s : State) (mode : ScanMode) (period : Nat) :
    (s.setScanMode mode period).scan =
      match mode with
      | .continuous =>
        if s.scan.mode = .continuous then s.scan.heldNext period
        else (s.scan.setTo .continuous period).periodStarted
      | .single => s.scan.setTo .stopped period
      | .stopped => s.scan.setTo .stopped period := by
  cases mode with
  | continuous =>
    show (s.scanContinuous period).scan = _
    unfold State.scanContinuous
    split
    · rfl
    · obtain ⟨es, h⟩ := (s.setScan (s.scan.setTo .continuous period)).startPeriod_eq
      exact congrArg State.scan h
  | single =>
    obtain ⟨es, h⟩ := (s.setScan (s.scan.setTo .stopped period)).scanCycle_enginesOnly
    exact congrArg State.scan h
  | stopped => rfl

/-- Soundness is of the timer and of what the store holds of it. -/
theorem State.scanSound.of_scan {s t : State} (h : s.scanSound) (ht : t.scan.sound)
    (hs : t.store.contents = s.store.contents) : t.scanSound :=
  ⟨ht, hs ▸ h.2⟩

/-- Everything that changes the Scan Timer keeps it sound. -/
theorem scanSound_keptByWork : KeptByWork State.scanSound where
  frame := fun hk h => h.of_scan (hk.scan ▸ h.1) hk.contents
  unloaded := fun power store pending hc h =>
    h.of_scan (ScanTimer.stopped_sound (by decide) (by decide)) hc
  load := fun {s} h => by
    refine h.of_scan ?_ (by rw [s.load_store])
    obtain ⟨hmode, hperiod, hage⟩ := h.toLoad
    rw [s.load_scan]
    cases hm : s.store.toLoad.scanMode with
    | stopped => exact ScanTimer.stopped_sound hperiod hage
    | continuous => exact ScanTimer.started_sound hperiod hage
    | single => exact absurd hm hmode
  keep := fun {s} tag h => by
    refine ⟨h.1, ?_, ?_, h.1.maxAge⟩
    · show (if s.scan.mode = .continuous then ScanMode.continuous else .stopped) ≠ .single
      split <;> simp
    · show 5 ≤ s.scan.next.getD s.scan.active ∧ s.scan.next.getD s.scan.active ≤ 3600
      cases hn : s.scan.next with
      | none => exact h.1.active
      | some n => exact (h.1.next n hn).2
  restarted := fun {s} h => by
    refine h.of_scan ?_ (by rw [s.restarted_store])
    rw [s.restarted_scan]
    split
    exacts [h.1.periodStarted ‹_›, h.1]
  reported := fun _ h => h
  gapEnded := fun _ h => h
  opened := fun _ h => h
  runOut := fun _ _ h => h
  attempt := fun {s} t i res _ _ h => by
    have hk := s.endAttempt_itemKeeps t i res
    exact h.of_scan (hk.scan ▸ h.1) (by rw [hk.store])
  removeScan := fun _ _ h => h
  restart := fun _ _ h => h
  settings := fun _ _ _ h => h
  scanMode := fun {s} mode period hp hp' h => by
    obtain ⟨t, es, he⟩ := s.setScanMode_eq mode period
    refine h.of_scan ?_ (by rw [he])
    rw [s.setScanMode_scan]
    cases mode with
    | continuous =>
      dsimp only
      split
      exacts [h.1.heldNext ‹_› ⟨hp, hp'⟩, ScanTimer.started_sound ⟨hp, hp'⟩ h.1.maxAge]
    | single => exact ScanTimer.stopped_sound ⟨hp, hp'⟩ h.1.maxAge
    | stopped => exact ScanTimer.stopped_sound ⟨hp, hp'⟩ h.1.maxAge
  maxAge := fun age ha ha' h => h.of_scan { h.1 with maxAge := ⟨ha, ha'⟩ } rfl
  period := fun {s} hd h => by
    obtain ⟨es, he⟩ := s.startPeriod_eq
    have hm : s.scan.mode = .continuous := h.1.running.mp (by rw [h.1.due hd]; rfl)
    rw [he]
    exact h.of_scan (h.1.periodStarted hm) rfl
  tick := fun h => h.of_scan h.1.tick rfl
  survey := fun {s} tag _ k points _ h => by
    have hk := s.acceptSurvey_itemKeeps tag k points
    exact h.of_scan (hk.scan ▸ h.1) (by rw [hk.store])
  cancel := fun _ _ _ h => h

end Sys2Proof.Machine
end

section
/-! Every step keeps the survey orders sound (R32, R34, R35, R38, R39). The points that the items on the trunks stand
for are taken as one list, of which only the members matter: items that move on a trunk leave it alone. -/

namespace Sys2Proof.Machine

open Sys2Proof

/-! ### The points on the trunks -/

/-- The point of a survey order that an item stands for: its order's slot, its point index and its address (R7). -/
structure SurveyPoint where
  slot  : SlotId
  index : Nat
  addr  : Addr

/-- The point of an item on a trunk; a SCAN item stands for none. -/
def Item.surveyPoint (t : Trunk) (i : Item) : Option SurveyPoint :=
  match i.origin with
  | .scan => none
  | .survey k n => some ⟨k, n, ⟨t, i.drop⟩⟩

def surveyPoints (t : Trunk) (items : List Item) : List SurveyPoint := items.filterMap (Item.surveyPoint t)

/-- The points of the items on both trunks. -/
def State.surveyPoints (s : State) : List SurveyPoint :=
  Machine.surveyPoints 0 (s.engine 0).items ++ Machine.surveyPoints 1 (s.engine 1).items

/-- The indices of the points of one slot's order. -/
def indicesOf (k : SlotId) (ps : List SurveyPoint) : List Nat :=
  ps.filterMap fun p => if p.slot = k then some p.index else none

theorem indicesOf_append (k : SlotId) (ps qs : List SurveyPoint) :
    indicesOf k (ps ++ qs) = indicesOf k ps ++ indicesOf k qs := List.filterMap_append

theorem indicesOf_cons (k : SlotId) (p : SurveyPoint) (ps : List SurveyPoint) :
    indicesOf k (p :: ps) = if p.slot = k then p.index :: indicesOf k ps else indicesOf k ps := by
  by_cases h : p.slot = k <;> simp [indicesOf, h]

/-- The model's point indices of a slot are those of the points on the trunks. -/
theorem State.pointsOnTrunks_eq (s : State) (k : SlotId) : s.pointsOnTrunks k = indicesOf k s.surveyPoints := by
  have hitems : ((List.finRange 2).flatMap fun t => (s.engine t).inFlight.toList ++ (s.engine t).waitList)
      = (s.engine 0).items ++ (s.engine 1).items := by
    simp [List.finRange_succ, Engine.items]
  rw [State.pointsOnTrunks, hitems, State.surveyPoints, indicesOf_append, List.filterMap_append]
  unfold indicesOf Machine.surveyPoints
  rw [List.filterMap_filterMap, List.filterMap_filterMap]
  congr 1
  all_goals
    refine List.filterMap_congr fun i _ => ?_
    unfold Item.surveyPoint
    cases i.origin <;> rfl

theorem mem_surveyPoints {t : Trunk} {items : List Item} {p : SurveyPoint} :
    p ∈ Machine.surveyPoints t items ↔
      ∃ i ∈ items, i.origin = .survey p.slot p.index ∧ p.addr = ⟨t, i.drop⟩ := by
  obtain ⟨k, n, a⟩ := p
  simp only [Machine.surveyPoints, List.mem_filterMap]
  refine exists_congr fun i => and_congr_right fun _ => ?_
  unfold Item.surveyPoint
  cases i.origin with
  | scan => simp
  | survey j m => simp [eq_comm, and_assoc]

theorem State.mem_surveyPoints (s : State) {p : SurveyPoint} :
    p ∈ s.surveyPoints ↔ p ∈ Machine.surveyPoints p.addr.trunk (s.engine p.addr.trunk).items := by
  have hother {t : Trunk} (hp : p ∈ Machine.surveyPoints t (s.engine t).items) : p.addr.trunk = t := by
    obtain ⟨i, -, -, ha⟩ := Machine.mem_surveyPoints.mp hp
    rw [ha]
  constructor
  · intro h
    obtain h | h := List.mem_append.mp h
    all_goals exact hother h ▸ h
  · intro h
    obtain ht | ht := (by decide : ∀ u : Trunk, u = 0 ∨ u = 1) p.addr.trunk
    all_goals rw [ht] at h
    exacts [List.mem_append_left _ h, List.mem_append_right _ h]

/-- The points of both trunks, one trunk's first. -/
theorem State.surveyPoints_perm (s : State) (t : Trunk) :
    s.surveyPoints.Perm
      (Machine.surveyPoints t (s.engine t).items ++ Machine.surveyPoints (t + 1) (s.engine (t + 1)).items) := by
  obtain rfl | rfl := (by decide : ∀ u : Trunk, u = 0 ∨ u = 1) t
  exacts [.refl _, List.perm_append_comm]

/-- Points that leave one engine leave the trunks. -/
theorem State.surveyPoints_left (s : State) (t : Trunk) (e : Engine) {xs : List SurveyPoint}
    (h : (Machine.surveyPoints t (s.engine t).items).Perm (xs ++ Machine.surveyPoints t e.items)) :
    s.surveyPoints.Perm (xs ++ (s.setEngine t e).surveyPoints) := by
  have hne : t + 1 ≠ t := (by decide : ∀ u : Trunk, u + 1 ≠ u) t
  have hset := (s.setEngine t e).surveyPoints_perm t
  rw [State.engine_setEngine_same, State.engine_setEngine_of_ne s e hne] at hset
  refine (s.surveyPoints_perm t).trans (((h.append_right _).trans ?_).trans (hset.symm.append_left xs))
  rw [List.append_assoc]

/-- Points that join one engine join the trunks. -/
theorem State.surveyPoints_joined (s : State) (t : Trunk) (e : Engine) {xs : List SurveyPoint}
    (h : (Machine.surveyPoints t e.items).Perm (xs ++ Machine.surveyPoints t (s.engine t).items)) :
    (s.setEngine t e).surveyPoints.Perm (xs ++ s.surveyPoints) := by
  have hback : (s.setEngine t e).setEngine t (s.engine t) = s := by
    have hset : (s.engines.set t e).set t (s.engines.get t) = s.engines := by
      refine Table.ext_get fun j => ?_
      rw [Table.get_set, Table.get_set]
      split
      · next hj => rw [hj]
      · rfl
    show ({ s with engines := (s.engines.set t e).set t (s.engines.get t) } : State) = s
    rw [hset]
  have hleft := (s.setEngine t e).surveyPoints_left t (s.engine t) (xs := xs) (by rwa [State.engine_setEngine_same])
  rwa [hback] at hleft

theorem State.surveyPoints_congr {s t : State}
    (h : ∀ u, Machine.surveyPoints u (t.engine u).items = Machine.surveyPoints u (s.engine u).items) :
    t.surveyPoints = s.surveyPoints := by
  rw [State.surveyPoints, State.surveyPoints, h 0, h 1]

/-! ### Order slots against the points on the trunks -/

/-- The orders in the slots agree with a list of points: those on the trunks, and in the course of a step also those
that are about to be offered or settled. -/
structure OrdersHold (slot : SlotId → OrderSlot) (ps : List SurveyPoint) : Prop where
  each   : ∀ k, (slot k).sound (indicesOf k ps)
  tags   : ∀ j k p q, slot j = .held p → slot k = .held q → p.tag = q.tag → j = k
  placed : ∀ p ∈ ps, ∀ q, slot p.slot = .held q → q.points[p.index]? = some p.addr

theorem State.ordersSound_iff (s : State) : s.ordersSound ↔ OrdersHold s.slot s.surveyPoints := by
  have hplaced : (∀ t i k n q, i ∈ (s.engine t).inFlight.toList ++ (s.engine t).waitList → i.origin = .survey k n →
        s.slot k = .held q → q.points[n]? = some ⟨t, i.drop⟩) ↔
      ∀ p ∈ s.surveyPoints, ∀ q, s.slot p.slot = .held q → q.points[p.index]? = some p.addr := by
    constructor
    · rintro h p hp q hq
      obtain ⟨i, hi, ho, ha⟩ := Machine.mem_surveyPoints.mp (s.mem_surveyPoints.mp hp)
      rw [ha]
      exact h _ i _ _ q hi ho hq
    · intro h t i k n q hi ho hq
      exact h ⟨k, n, ⟨t, i.drop⟩⟩ (s.mem_surveyPoints.mpr (Machine.mem_surveyPoints.mpr ⟨i, hi, ho, rfl⟩)) q hq
  unfold State.ordersSound
  rw [hplaced]
  simp only [s.pointsOnTrunks_eq]
  exact ⟨fun ⟨h1, h2, h3⟩ => ⟨h1, h2, h3⟩, fun h => ⟨h.each, h.tags, h.placed⟩⟩

theorem OrderSlot.sound.perm {o : OrderSlot} {xs ys : List Nat} (h : o.sound xs) (hp : xs.Perm ys) : o.sound ys := by
  cases o with
  | free =>
    cases (show xs = [] from h)
    exact hp.symm.eq_nil
  | reporting =>
    cases (show xs = [] from h)
    exact hp.symm.eq_nil
  | closing n =>
    obtain ⟨h1, h2, h3⟩ := h
    exact ⟨h1, h2, hp.length_eq ▸ h3⟩
  | held q =>
    obtain ⟨h1, h2, h3, h4, h5, h6, h7⟩ := h
    exact ⟨h1, h2, h3, h4, h5, hp.nodup_iff.mp h6, fun n => hp.symm.mem_iff.trans (h7 n)⟩

theorem OrdersHold.perm {slot : SlotId → OrderSlot} {ps qs : List SurveyPoint} (h : OrdersHold slot ps)
    (hp : ps.Perm qs) : OrdersHold slot qs :=
  ⟨fun k => (h.each k).perm (hp.filterMap _), h.tags, fun p hm => h.placed p (hp.mem_iff.mpr hm)⟩

/-- Points may leave where each slot still agrees with those left, and every order held is one held before. -/
theorem OrdersHold.of_slots {slot slot' : SlotId → OrderSlot} {ps ps' : List SurveyPoint} (h : OrdersHold slot ps)
    (hsub : ps' ⊆ ps) (heach : ∀ k, (slot' k).sound (indicesOf k ps'))
    (hheld : ∀ k q, slot' k = .held q → ∃ p, slot k = .held p ∧ p.tag = q.tag ∧ p.points = q.points) :
    OrdersHold slot' ps' where
  each := heach
  tags := fun j k p q hp hq ht => by
    obtain ⟨p', hp', htp, -⟩ := hheld j p hp
    obtain ⟨q', hq', htq, -⟩ := hheld k q hq
    exact h.tags j k p' q' hp' hq' (htp.trans (ht.trans htq.symm))
  placed := fun p hp q hq => by
    obtain ⟨q', hq', -, hpts⟩ := hheld p.slot q hq
    exact hpts ▸ h.placed p (hsub hp) q' hq'

/-- With no item on the trunks and no order held, every slot is sound. -/
theorem ordersHold_nil {slot : SlotId → OrderSlot} (h : ∀ k, slot k = .free ∨ slot k = .reporting) :
    OrdersHold slot [] where
  each := fun k => by
    obtain hk | hk := h k
    all_goals
      rw [hk]
      rfl
  tags := fun j k p q hp => by
    obtain hj | hj := h j
    all_goals
      rw [hj] at hp
      cases hp
  placed := fun p hp => by cases hp

/-! ### Settling a point (R35, R36, R39) -/

/-- A list of distinct indices that are those of the unsettled points has as many members as points are unsettled. -/
theorem length_eq_unsettled {l : List Nat} {xs : List (Option PointOutcome)} (hn : l.Nodup)
    (hm : ∀ n, n ∈ l ↔ xs[n]? = some none) : l.length = (xs.filter (·.isNone)).length := by
  have hrange : ∀ xs : List (Option PointOutcome),
      ((List.range xs.length).filter fun n => decide (xs[n]? = some none)).length = (xs.filter (·.isNone)).length := by
    intro xs
    induction xs using List.reverseRecOn with
    | nil => rfl
    | append_singleton xs x ih =>
      have hinit : (List.range xs.length).filter (fun n => decide ((xs ++ [x])[n]? = some none))
          = (List.range xs.length).filter fun n => decide (xs[n]? = some none) :=
        List.filter_congr fun n hn => by rw [List.getElem?_append_left (List.mem_range.mp hn)]
      rw [List.length_append, List.length_singleton, List.range_succ, List.filter_append, List.filter_append, hinit,
        List.length_append, List.length_append, ih]
      cases x <;> simp
  rw [← hrange xs]
  refine (List.Perm.length_eq ?_)
  refine (List.perm_ext_iff_of_nodup hn (List.nodup_range.filter _)).mpr fun n => ?_
  rw [hm n, List.mem_filter, List.mem_range, decide_eq_true_iff]
  refine ⟨fun h => ⟨?_, h⟩, fun h => h.2⟩
  obtain ⟨hlt, -⟩ := List.getElem?_eq_some_iff.mp h
  exact hlt

/-- A slot after one of its points has settled agrees with the points that are left (R35, R36, R39). -/
theorem OrderSlot.sound.settled {o : OrderSlot} {n : Nat} {l : List Nat} (h : o.sound (n :: l)) (x : PointOutcome) :
    (o.settled n x).sound l := by
  cases o with
  | free => cases h
  | reporting => cases h
  | closing m =>
    obtain ⟨h1, h2, h3⟩ := h
    rw [List.length_cons] at h3
    unfold OrderSlot.settled
    dsimp only
    split
    · exact List.length_eq_zero_iff.mp (by omega)
    · exact ⟨by omega, by omega, by omega⟩
  | held q =>
    obtain ⟨h1, h2, h3, h4, h5, h6, h7⟩ := h
    have hcount := length_eq_unsettled h6 h7
    obtain ⟨hnl, hnodup⟩ := List.nodup_cons.mp h6
    have hmem : ∀ m, m ∈ l ↔ (q.outcomes.set n (some x))[m]? = some none := by
      intro m
      by_cases hmn : m = n
      · subst hmn
        simp [List.getElem?_set, hnl]
      · rw [List.getElem?_set_ne (Ne.symm hmn), ← h7 m, List.mem_cons]
        simp [hmn]
    have hleft := length_eq_unsettled hnodup hmem
    rw [List.length_cons, ← h5] at hcount
    unfold OrderSlot.settled
    dsimp only
    split
    · exact List.length_eq_zero_iff.mp (by omega)
    · exact ⟨h1, h2, by rw [List.length_set]; exact h3, by dsimp only; omega, by dsimp only; omega, hnodup, hmem⟩

/-- An order that is held after a point has settled was held before, with its tag and its points. -/
theorem OrderSlot.held_of_settled {o : OrderSlot} {n : Nat} {x : PointOutcome} {q : SurveyOrder}
    (h : o.settled n x = .held q) : ∃ p, o = .held p ∧ p.tag = q.tag ∧ p.points = q.points := by
  unfold OrderSlot.settled at h
  split at h
  · cases h
  · cases h
  · split at h <;> cases h
  · next p =>
    split at h
    · cases h
    · cases h
      exact ⟨p, rfl, rfl, rfl⟩

/-- The point settles at the head of the list. -/
theorem OrdersHold.settlePoint {s : State} {k : SlotId} {n : Nat} {a : Addr} {ps : List SurveyPoint}
    (h : OrdersHold s.slot (⟨k, n, a⟩ :: ps)) (x : PointOutcome) : OrdersHold (s.settlePoint k n x).slot ps := by
  refine h.of_slots (List.subset_cons_self _ _) (fun j => ?_) (fun j q hq => ?_)
  · have hj := h.each j
    rw [indicesOf_cons] at hj
    rw [State.slot_settlePoint]
    split
    · next hjk =>
      subst hjk
      rw [if_pos rfl] at hj
      exact hj.settled x
    · next hjk =>
      rwa [if_neg (Ne.symm hjk)] at hj
  · rw [State.slot_settlePoint] at hq
    split at hq
    · next hjk => exact hjk ▸ OrderSlot.held_of_settled hq
    · exact ⟨q, hq, rfl, rfl⟩

/-- An item at the head of the list settles; a SCAN item stands for no point. -/
theorem OrdersHold.settleItem {s : State} {t : Trunk} {i : Item} {ps : List SurveyPoint}
    (h : OrdersHold s.slot ((i.surveyPoint t).toList ++ ps)) (x : PointOutcome) :
    OrdersHold (s.settleItem i x).slot ps := by
  unfold State.settleItem
  unfold Item.surveyPoint at h
  cases hi : i.origin with
  | scan => simpa [hi] using h
  | survey k n =>
    rw [hi] at h
    exact h.settlePoint x

/-! ### The end of an attempt (R10 to R14) -/

theorem State.ordersOnly.surveyPoints {s t : State} (h : s.ordersOnly t) : t.surveyPoints = s.surveyPoints :=
  State.surveyPoints_congr fun u => by rw [h.engine u]

theorem State.keepsWork.surveyPoints {s t : State} (h : s.keepsWork t) : t.surveyPoints = s.surveyPoints :=
  State.surveyPoints_congr fun u => by rw [h.engine u]

theorem State.keepsWork.ordersSound {s t : State} (hk : s.keepsWork t) (h : s.ordersSound) : t.ordersSound := by
  rw [State.ordersSound_iff] at h ⊢
  rw [hk.surveyPoints, show t.slot = s.slot from funext hk.slot]
  exact h

/-- One engine is replaced by one with the same points on it. -/
theorem State.ordersSound.setEngine {s : State} (h : s.ordersSound) {t : Trunk} {e : Engine}
    (hp : (Machine.surveyPoints t e.items).Perm (Machine.surveyPoints t (s.engine t).items)) :
    (s.setEngine t e).ordersSound := by
  rw [State.ordersSound_iff] at h ⊢
  exact h.perm (s.surveyPoints_joined t e (xs := []) hp).symm

theorem State.ordersSound.finalise {s : State} (h : s.ordersSound) {t : Trunk} {i : Item}
    (hi : (s.engine t).inFlight = some i) (res : AttemptResult) (outcome : ProbeOutcome) :
    (s.finalise t i res outcome).ordersSound := by
  have hleft :
      s.surveyPoints.Perm ((i.surveyPoint t).toList ++ (s.setEngine t (s.engine t).itemLeft).surveyPoints) := by
    refine s.surveyPoints_left t _ ?_
    simp only [Engine.items, hi, Engine.itemLeft, Machine.surveyPoints, Option.toList_some, List.singleton_append,
      Option.toList_none, List.nil_append]
    cases hpt : i.surveyPoint t <;> simp [hpt]
  have hprobe := (s.setEngine t (s.engine t).itemLeft).handToProbe_keepsWork ⟨t, i.drop⟩ res outcome
  rw [State.ordersSound_iff] at h
  rw [State.finalise, State.handOut_eq, State.ordersSound_iff, (State.settleItem_ordersOnly ..).surveyPoints,
    hprobe.surveyPoints]
  refine OrdersHold.settleItem (t := t) ?_ _
  rw [show State.slot (State.handToProbe ..) = s.slot from funext hprobe.slot]
  exact h.perm hleft

/-- The items that wait at a halt settle one after another (R14). -/
theorem OrdersHold.settleAllHalted {s : State} {t : Trunk} (items : List Item) {ps : List SurveyPoint}
    (h : OrdersHold s.slot (Machine.surveyPoints t items ++ ps)) : OrdersHold (s.settleAllHalted items).slot ps := by
  induction items generalizing s with
  | nil => exact h
  | cons i items ih =>
    have hcons : Machine.surveyPoints t (i :: items) = (i.surveyPoint t).toList ++ Machine.surveyPoints t items := by
      cases hpt : i.surveyPoint t <;> simp [Machine.surveyPoints, hpt]
    rw [hcons, List.append_assoc] at h
    have hsettled := h.settleItem ⟨.trunkHalted, none⟩
    rw [← State.settleHalted_eq] at hsettled
    exact ih hsettled

theorem State.ordersSound.haltTrunk {s : State} (h : s.ordersSound) {t : Trunk} {i : Item}
    (hi : (s.engine t).inFlight = some i) (res : AttemptResult) : (s.haltTrunk t i res).ordersSound := by
  refine (State.raise_keepsWork ..).ordersSound ?_
  have hfinal := h.finalise hi res res.outcome
  have hnone : ((s.finalise t i res res.outcome).engine t).inFlight = none := by
    rw [State.engine_finalise, if_pos rfl]
    rfl
  generalize s.finalise t i res res.outcome = s1 at hfinal hnone
  rw [State.ordersSound_iff] at hfinal ⊢
  rw [(State.settleAllHalted_ordersOnly ..).surveyPoints]
  refine OrdersHold.settleAllHalted (t := t) _ (hfinal.perm (s1.surveyPoints_left t _ ?_))
  simp [Engine.items, Engine.halt, hnone, Machine.surveyPoints]

/-- The engine of an item whose counts or latest result have changed has the same points on it. -/
theorem surveyPoints_retried (t : Trunk) (e : Engine) {i j : Item} (hi : e.inFlight = some i)
    (hd : j.drop = i.drop) (ho : j.origin = i.origin) :
    Machine.surveyPoints t ({ e with inFlight := some j } : Engine).items = Machine.surveyPoints t e.items := by
  have hij : j.surveyPoint t = i.surveyPoint t := by
    unfold Item.surveyPoint
    rw [hd, ho]
  simp [Engine.items, Machine.surveyPoints, List.filterMap_cons, hi, hij]

/-- An item that goes back to the tail is still on its trunk, and a SCAN item that is dropped stands for no point. -/
theorem surveyPoints_requeue (t : Trunk) (e : Engine) {i j : Item} (hi : e.inFlight = some i)
    (hd : j.drop = i.drop) (ho : j.origin = i.origin) :
    (Machine.surveyPoints t (e.requeue j).items).Perm (Machine.surveyPoints t e.items) := by
  have hij : j.surveyPoint t = i.surveyPoint t := by
    unfold Item.surveyPoint
    rw [hd, ho]
  unfold Engine.requeue
  split
  · next hc =>
    have hscan : i.surveyPoint t = none := by
      have hs : i.origin = .scan := by simp_all
      simp [Item.surveyPoint, hs]
    simp [Engine.items, Engine.itemLeft, Machine.surveyPoints, hi, hscan]
  · simp only [Engine.items, Engine.itemLeft, Machine.surveyPoints, hi, Option.toList_some, Option.toList_none,
      List.nil_append, List.filterMap_append, List.filterMap_cons, List.filterMap_nil, hij]
    exact List.perm_append_comm

/-- The end of an attempt keeps the orders sound (R10 to R14, R35, R39). -/
theorem State.ordersSound.endAttempt {s : State} (h : s.ordersSound) {t : Trunk} {i : Item}
    (hi : (s.engine t).inFlight = some i) (res : AttemptResult) : (s.endAttempt t i res).ordersSound := by
  unfold State.endAttempt
  dsimp only
  have hended := h.setEngine (t := t) (e := (s.engine t).transactionEnded res (s.definedAt ⟨t, i.drop⟩)) (.refl _)
  have hin : ((s.setEngine t ((s.engine t).transactionEnded res (s.definedAt ⟨t, i.drop⟩))).engine t).inFlight
      = some i := by
    rw [State.engine_setEngine_same]
    exact hi
  generalize s.setEngine t ((s.engine t).transactionEnded res (s.definedAt ⟨t, i.drop⟩)) = s1 at hended hin
  have hretry : (s1.retryOrEnd t i res).ordersSound := by
    unfold State.retryOrEnd
    split
    · refine hended.setEngine ?_
      exact .of_eq
        (surveyPoints_retried t _ (j := { i with attempts := i.attempts + 1, latest := some res }) hin rfl rfl)
    · exact hended.finalise hin res _
  have hrequeue : (s1.requeueOrEnd t i res).ordersSound := by
    unfold State.requeueOrEnd
    split
    · exact hended.setEngine (surveyPoints_requeue t _ hin rfl rfl)
    · exact hended.finalise hin res _
  split
  · exact hended.haltTrunk hin res
  · unfold State.disposeItem
    cases res.outcome with
    | noAnswer => exact hretry
    | badCheck => exact hretry
    | notReady => exact hrequeue
    | good => exact hended.finalise hin res _
    | tainted => exact hended.finalise hin res _
    | kindMismatch => exact hended.finalise hin res _
    | notReadyLimit => exact hended
    | trunkHalted => exact hended

/-! ### SCAN items stand for no point (R9, R24, R28, R44) -/

@[simp] theorem surveyPoints_offerScan (t : Trunk) (e : Engine) (d : Drop) :
    Machine.surveyPoints t (e.offerScan d).items = Machine.surveyPoints t e.items := by
  unfold Engine.offerScan
  split
  · rfl
  · rw [Engine.items_append, Machine.surveyPoints, List.filterMap_append]
    simp [Machine.surveyPoints, Item.surveyPoint, newItem]

theorem surveyPoints_cycled (t : Trunk) (ds : List Drop) (e : Engine) :
    Machine.surveyPoints t (ds.foldl Engine.offerScan e).items = Machine.surveyPoints t e.items := by
  induction ds generalizing e with
  | nil => rfl
  | cons d ds ih => rw [List.foldl_cons, ih, surveyPoints_offerScan]

/-- Only SCAN items leave the wait list. -/
theorem surveyPoints_filtered (t : Trunk) (e : Engine) (keep : Item → Bool)
    (h : ∀ i, keep i = false → i.origin = .scan) :
    Machine.surveyPoints t ({ e with waitList := e.waitList.filter keep } : Engine).items
      = Machine.surveyPoints t e.items := by
  have hlist (xs : List Item) :
      (xs.filter keep).filterMap (Item.surveyPoint t) = xs.filterMap (Item.surveyPoint t) := by
    rw [List.filterMap_filter]
    refine List.filterMap_congr fun i _ => ?_
    cases hk : keep i with
    | true => rfl
    | false => simp [Item.surveyPoint, h i hk]
  rw [Engine.items, Engine.items, Machine.surveyPoints, Machine.surveyPoints, List.filterMap_append,
    List.filterMap_append, hlist]

/-! ### An order that is accepted (R34) -/

/-- The points of a segment that the part has are as many as its count, and no segment is empty (R33). -/
theorem segmentPoints_length {trunk first count : Nat} {xs : List Addr}
    (h : segmentPoints trunk first count = some xs) :
    1 ≤ xs.length := by
  unfold segmentPoints at h
  split at h
  · cases h
  · next hc =>
    obtain ⟨n, rfl⟩ : ∃ n, count = n + 1 := ⟨count - 1, by omega⟩
    rw [List.range_succ_eq_map, List.mapM_cons] at h
    simp only [Option.bind_eq_bind, Option.bind_eq_some_iff] at h
    obtain ⟨a, -, rest, -, hx⟩ := h
    cases hx
    simp

theorem segmentsPoints_length {n : Nat} {p : List Byte} {xs : List Addr} (hn : n ≠ 0)
    (h : segmentsPoints n p = some xs) : 1 ≤ xs.length := by
  cases n with
  | zero => exact absurd rfl hn
  | succ n =>
    unfold segmentsPoints at h
    split at h
    · next hx _ =>
      cases h
      have := segmentPoints_length hx
      rw [List.length_append]
      omega
    · cases h

/-- What the checks of a Survey request leave: 1..24 points, a tag that no order held has, a FREE slot (R33). -/
theorem State.judgeSurvey_accepted {s : State} {tag : Byte} {p : List Byte} {k : SlotId} {points : List Addr}
    (h : s.judgeSurvey tag p = .accepted k points) :
    (1 ≤ points.length ∧ points.length ≤ 24) ∧ (∀ j, (s.slot j).tag ≠ some tag) ∧ s.slot k = .free := by
  unfold State.judgeSurvey at h
  split at h
  · cases h
  split at h
  · cases h
  next hseg =>
  split at h
  · cases h
  split at h
  · cases h
  next xs hxs =>
  split at h
  · cases h
  next hmax =>
  split at h
  · cases h
  next htag =>
  split at h
  · cases h
  next j hfree =>
  cases h
  refine ⟨⟨segmentsPoints_length (fun h0 => hseg (.inl h0)) hxs, by omega⟩, fun j hj => htag ?_, ?_⟩
  · unfold State.slotOfTag
    rw [List.find?_isSome]
    exact ⟨j, List.mem_finRange j, by simp [hj]⟩
  · simpa using List.find?_some hfree

/-- The points that an order is about to offer: each of its addresses with its index. -/
def offeredPoints (k : SlotId) (xs : List (Addr × Nat)) : List SurveyPoint := xs.map fun x => ⟨k, x.2, x.1⟩

theorem indicesOf_offeredPoints (j k : SlotId) (xs : List (Addr × Nat)) :
    indicesOf j (offeredPoints k xs) = if k = j then xs.map (·.2) else [] := by
  by_cases h : k = j <;> simp [indicesOf, offeredPoints, h, List.filterMap_map]

/-- A new order in a FREE slot is sound with all its points still to be offered (R34). -/
theorem newOrder_sound {points : List Addr} (tag : Byte) (h : 1 ≤ points.length ∧ points.length ≤ 24) :
    (OrderSlot.held (newOrder tag points)).sound (points.zipIdx.map (·.2)) := by
  have hidx : points.zipIdx.map (·.2) = List.range points.length := by
    rw [List.range_eq_range']
    exact List.zipIdx_map_snd 0 points
  rw [hidx]
  refine ⟨h.1, h.2, by simp [newOrder], h.1, by simp [newOrder], List.nodup_range, fun n => ?_⟩
  simp only [List.mem_range, newOrder, List.getElem?_map]
  constructor
  · intro hn
    rw [List.getElem?_eq_getElem hn]
    rfl
  · intro hn
    by_contra hge
    rw [List.getElem?_eq_none (by omega)] at hn
    cases hn

theorem OrdersHold.newOrder {s : State} {ps : List SurveyPoint} (h : OrdersHold s.slot ps) {k : SlotId} {tag : Byte}
    {points : List Addr} (hlen : 1 ≤ points.length ∧ points.length ≤ 24) (htag : ∀ j, (s.slot j).tag ≠ some tag)
    (hfree : s.slot k = .free) :
    OrdersHold (s.setSlot k (.held (newOrder tag points))).slot (offeredPoints k points.zipIdx ++ ps) where
  each := fun j => by
    rw [indicesOf_append, indicesOf_offeredPoints, State.slot_setSlot]
    by_cases hjk : j = k
    · subst hjk
      have hnone : indicesOf j ps = [] := by
        have hj := h.each j
        rwa [hfree] at hj
      rw [if_pos rfl, if_pos rfl, hnone, List.append_nil]
      exact newOrder_sound tag hlen
    · rw [if_neg hjk, if_neg (Ne.symm hjk)]
      exact h.each j
  tags := fun i j p q hp hq ht => by
    have hold (m : SlotId) (o : SurveyOrder) (hm : s.slot m = .held o) : o.tag ≠ tag := by
      intro ho
      refine htag m ?_
      rw [hm]
      exact congrArg some ho
    rw [State.slot_setSlot] at hp hq
    split at hp
    · next hi =>
      split at hq
      · next hj => rw [hi, hj]
      · cases hp
        exact absurd ht.symm (hold j q hq)
    · split at hq
      · cases hq
        exact absurd ht (hold i p hp)
      · exact h.tags i j p q hp hq ht
  placed := fun p hp q hq => by
    rw [State.slot_setSlot] at hq
    obtain hp | hp := List.mem_append.mp hp
    · obtain ⟨x, hx, rfl⟩ := List.mem_map.mp hp
      rw [if_pos rfl] at hq
      cases hq
      exact (List.mem_zipIdx_iff_getElem?.mp hx)
    · split at hq
      · next hpk =>
        have hj := h.each k
        rw [hfree] at hj
        have hmem : p.index ∈ indicesOf k ps :=
          List.mem_filterMap.mpr ⟨p, hp, by rw [if_pos hpk]⟩
        rw [show indicesOf k ps = [] from hj] at hmem
        cases hmem
      · exact h.placed p hp q hq

/-- The points of an accepted order are offered one after another: each joins its trunk, or settles at once where that
is HALTED (R15, R34). -/
theorem OrdersHold.offerPoints {k : SlotId} (xs : List (Addr × Nat)) {s : State}
    (h : OrdersHold s.slot (offeredPoints k xs ++ s.surveyPoints)) :
    (xs.foldl (fun s x => s.offerSurvey x.1.trunk (newItem x.1.drop (.survey k x.2))) s).ordersSound := by
  induction xs generalizing s with
  | nil => exact s.ordersSound_iff.mpr h
  | cons x xs ih =>
    obtain ⟨⟨t, d⟩, n⟩ := x
    refine ih ?_
    unfold State.offerSurvey
    dsimp only
    split
    · rw [(State.settleHalted_ordersOnly ..).surveyPoints]
      exact h.settlePoint _
    · have hjoined := s.surveyPoints_joined t ((s.engine t).append (newItem d (.survey k n)))
        (xs := [⟨k, n, ⟨t, d⟩⟩]) (by
          rw [Engine.items_append, Machine.surveyPoints, List.filterMap_append]
          exact List.perm_append_comm)
      refine h.perm ?_
      refine .trans ?_ (hjoined.symm.append_left (offeredPoints k xs))
      exact List.perm_middle.symm

theorem State.ordersSound.acceptSurvey {s : State} (h : s.ordersSound) {tag : Byte} {p : List Byte} {k : SlotId}
    {points : List Addr} (hj : s.judgeSurvey tag p = .accepted k points) :
    (s.acceptSurvey tag k points).ordersSound := by
  obtain ⟨hlen, htag, hfree⟩ := State.judgeSurvey_accepted hj
  exact OrdersHold.offerPoints _ ((s.ordersSound_iff.mp h).newOrder hlen htag hfree)

/-! ### An order that is cancelled (R38) -/

/-- The items of an order that wait on a trunk, and those of it that are left: at most the one in flight. -/
theorem indicesOf_removeOrder_same (t : Trunk) (e : Engine) (k : SlotId) :
    (indicesOf k (Machine.surveyPoints t e.items)).length
        = e.waitingOfOrder k + (indicesOf k (Machine.surveyPoints t (e.removeOrder k).items)).length
      ∧ (indicesOf k (Machine.surveyPoints t (e.removeOrder k).items)).length ≤ 1 := by
  have hwaiting (xs : List Item) :
      (indicesOf k (Machine.surveyPoints t xs)).length = (xs.filter fun i => i.isOfSlot k).length
        ∧ indicesOf k (Machine.surveyPoints t (xs.filter fun i => !i.isOfSlot k)) = [] := by
    induction xs with
    | nil => exact ⟨rfl, rfl⟩
    | cons i xs ih =>
      cases ho : i.origin with
      | scan =>
        have hp : i.surveyPoint t = none := by simp [Item.surveyPoint, ho]
        have hs : i.isOfSlot k = false := by simp [Item.isOfSlot, ho]
        simpa [Machine.surveyPoints, List.filterMap_cons, hp, hs] using ih
      | survey j n =>
        have hp : i.surveyPoint t = some ⟨j, n, ⟨t, i.drop⟩⟩ := by simp [Item.surveyPoint, ho]
        have hs : i.isOfSlot k = (j == k) := by simp [Item.isOfSlot, ho]
        by_cases hjk : j = k
        · simpa [Machine.surveyPoints, List.filterMap_cons, indicesOf, hp, hs, hjk] using ih
        · simpa [Machine.surveyPoints, List.filterMap_cons, indicesOf, hp, hs, hjk] using ih
  have hone : (indicesOf k (Machine.surveyPoints t e.inFlight.toList)).length ≤ 1 := by
    refine (List.length_filterMap_le ..).trans ((List.length_filterMap_le ..).trans ?_)
    cases e.inFlight <;> simp
  have hsplit (ys : List Item) : indicesOf k (Machine.surveyPoints t (e.inFlight.toList ++ ys))
      = indicesOf k (Machine.surveyPoints t e.inFlight.toList) ++ indicesOf k (Machine.surveyPoints t ys) := by
    rw [Machine.surveyPoints, List.filterMap_append, indicesOf_append]
    rfl
  obtain ⟨h1, h2⟩ := hwaiting e.waitList
  have hleft : indicesOf k (Machine.surveyPoints t (e.removeOrder k).items)
      = indicesOf k (Machine.surveyPoints t e.inFlight.toList) := by
    rw [show (e.removeOrder k).items = e.inFlight.toList ++ e.waitList.filter (fun i => !i.isOfSlot k) from rfl,
      hsplit, h2, List.append_nil]
  rw [hleft, show e.items = e.inFlight.toList ++ e.waitList from rfl, hsplit, List.length_append, h1,
    Engine.waitingOfOrder]
  exact ⟨Nat.add_comm .., hone⟩

/-- The points of another order stay where they are. -/
theorem indicesOf_removeOrder_of_ne (t : Trunk) (e : Engine) {j k : SlotId} (h : j ≠ k) :
    indicesOf j (Machine.surveyPoints t (e.removeOrder k).items) = indicesOf j (Machine.surveyPoints t e.items) := by
  have hlist (xs : List Item) :
      indicesOf j (Machine.surveyPoints t (xs.filter fun i => !i.isOfSlot k)) =
        indicesOf j (Machine.surveyPoints t xs) := by
    rw [indicesOf, indicesOf, Machine.surveyPoints, Machine.surveyPoints, List.filterMap_filterMap,
      List.filterMap_filterMap, List.filterMap_filter]
    refine List.filterMap_congr fun i _ => ?_
    cases ho : i.origin with
    | scan => simp [Item.surveyPoint, Item.isOfSlot, ho]
    | survey m n =>
      by_cases hm : m = k
      · simp [Item.surveyPoint, Item.isOfSlot, ho, hm, Ne.symm h]
      · simp [Item.surveyPoint, Item.isOfSlot, ho, hm]
  have hsplit (ys : List Item) : indicesOf j (Machine.surveyPoints t (e.inFlight.toList ++ ys))
      = indicesOf j (Machine.surveyPoints t e.inFlight.toList) ++ indicesOf j (Machine.surveyPoints t ys) := by
    rw [Machine.surveyPoints, List.filterMap_append, indicesOf_append]
    rfl
  show indicesOf j (Machine.surveyPoints t (e.inFlight.toList ++ e.waitList.filter (fun i => !i.isOfSlot k))) = _
  rw [hsplit, hlist, ← hsplit]
  rfl

theorem State.engine_cancelOrder (s : State) (k : SlotId) (n : Nat) (u : Trunk) :
    (s.cancelOrder k n).engine u = (s.engine u).removeOrder k := Table.get_map ..

theorem State.slot_cancelOrder (s : State) (j k : SlotId) (n : Nat) :
    (s.cancelOrder k n).slot j = if j = k then cancelledSlot n else s.slot j := Table.get_set ..

theorem State.ordersSound.cancelOrder {s : State} (h : s.ordersSound) {k : SlotId} {o : SurveyOrder}
    (ho : s.slot k = .held o) : (s.cancelOrder k (o.outstanding - s.waitingOfOrder k)).ordersSound := by
  rw [State.ordersSound_iff] at h ⊢
  have hpoints (n : Nat) : (s.cancelOrder k n).surveyPoints =
      Machine.surveyPoints 0 ((s.engine 0).removeOrder k).items
        ++ Machine.surveyPoints 1 ((s.engine 1).removeOrder k).items := by
    rw [State.surveyPoints, State.engine_cancelOrder, State.engine_cancelOrder]
  refine h.of_slots ?_ (fun j => ?_) (fun j q hq => ?_)
  · have hsub (t : Trunk) : Machine.surveyPoints t ((s.engine t).removeOrder k).items
        ⊆ Machine.surveyPoints t (s.engine t).items :=
      (((List.Sublist.refl (s.engine t).inFlight.toList).append List.filter_sublist).filterMap _).subset
    rw [hpoints]
    exact List.append_subset.mpr ⟨fun p hp => List.mem_append_left _ (hsub 0 hp),
      fun p hp => List.mem_append_right _ (hsub 1 hp)⟩
  · rw [State.slot_cancelOrder, hpoints, indicesOf_append]
    split
    · next hj =>
      subst hj
      obtain ⟨h0, h0'⟩ := indicesOf_removeOrder_same 0 (s.engine 0) j
      obtain ⟨h1, h1'⟩ := indicesOf_removeOrder_same 1 (s.engine 1) j
      have hj := h.each j
      rw [ho] at hj
      obtain ⟨-, -, -, -, hcount, hnodup, hmem⟩ := hj
      have hlen := length_eq_unsettled hnodup hmem
      rw [← hcount, State.surveyPoints, indicesOf_append, List.length_append] at hlen
      have hrunning : o.outstanding - s.waitingOfOrder j
          = (indicesOf j (Machine.surveyPoints 0 ((s.engine 0).removeOrder j).items)
              ++ indicesOf j (Machine.surveyPoints 1 ((s.engine 1).removeOrder j).items)).length := by
        rw [List.length_append, State.waitingOfOrder]
        omega
      rw [List.length_append] at hrunning
      unfold cancelledSlot
      split
      · exact List.length_eq_zero_iff.mp (by rw [List.length_append]; omega)
      · exact ⟨by omega, by omega, by rw [List.length_append]; omega⟩
    · next hj =>
      rw [indicesOf_removeOrder_of_ne 0 _ hj, indicesOf_removeOrder_of_ne 1 _ hj, ← indicesOf_append]
      exact h.each j
  · rw [State.slot_cancelOrder] at hq
    split at hq
    · unfold cancelledSlot at hq
      split at hq <;> cases hq
    · exact ⟨q, hq, rfl, rfl⟩

/-! ### Every step -/

/-- No item on the trunks, and no order held. -/
theorem State.ordersSound_of_empty {s : State} (he : ∀ u, Machine.surveyPoints u (s.engine u).items = [])
    (hk : ∀ k, s.slot k = .free ∨ s.slot k = .reporting) : s.ordersSound := by
  rw [State.ordersSound_iff, State.surveyPoints, he 0, he 1]
  exact ordersHold_nil hk

/-- The same points on every trunk, and the same slots. -/
theorem State.ordersSound.of_engines {s t : State} (h : s.ordersSound)
    (he : ∀ u, Machine.surveyPoints u (t.engine u).items = Machine.surveyPoints u (s.engine u).items)
    (hk : t.slot = s.slot) : t.ordersSound := by
  rw [State.ordersSound_iff] at h ⊢
  rw [State.surveyPoints_congr he, hk]
  exact h

/-- The slots after the load are FREE (R40). -/
theorem State.load_slot (s : State) (k : SlotId) : s.load.slot k = .free := by
  obtain ⟨es, h⟩ :=
    State.resumeScan_eq (State.startRound ({ s with defaulted := !s.store.valid }.startedFrom s.store.toLoad))
  rw [State.load, h]
  exact Table.get_all ..

/-- The slots after Warm Restart (R40). -/
theorem State.restarted_slot (s : State) (k : SlotId) : s.restarted.resumeScan.slot k = (s.slot k).restarted := by
  obtain ⟨es, h⟩ := s.restarted.resumeScan_eq
  rw [h]
  exact Table.get_map ..

/-- Everything that changes the orders or the items on the trunks keeps the orders sound. -/
theorem ordersSound_keptByWork : KeptByWork State.ordersSound where
  frame := fun hk h => hk.ordersSound h
  unloaded := fun power store pending _ _ =>
    State.ordersSound_of_empty
      (fun u => by
        rw [show (State.unloaded power store pending).engine u = Engine.start TrunkSettings.default from
          Table.get_all ..]
        rfl)
      fun k => .inl (Table.get_all ..)
  load := fun {s} _ => by
    refine State.ordersSound_of_empty (fun u => ?_) fun k => .inl (s.load_slot k)
    rw [s.engine_load]
    split
    · rw [surveyPoints_cycled]
      rfl
    · rfl
  keep := fun tag h => h
  restarted := fun {s} _ => by
    refine State.ordersSound_of_empty (fun u => ?_) fun k => ?_
    · rw [s.engine_restarted]
      split
      · rw [surveyPoints_cycled]
        rfl
      · rfl
    · rw [s.restarted_slot]
      cases s.slot k with
      | reporting => exact .inr rfl
      | free => exact .inl rfl
      | held q => exact .inl rfl
      | closing n => exact .inl rfl
  reported := fun {s} k h => by
    rw [State.ordersSound_iff] at h ⊢
    refine h.of_slots (List.Subset.refl _) (fun j => ?_) (fun j q hq => ?_)
    · have hj := h.each j
      rw [State.slot_setSlot]
      split
      · next hjk =>
        subst hjk
        cases hs : s.slot j <;> rw [hs] at hj <;> exact hj
      · exact hj
    · rw [State.slot_setSlot] at hq
      split at hq
      · next hjk =>
        subst hjk
        cases hs : s.slot j <;> rw [hs] at hq <;> cases hq
        exact ⟨_, rfl, rfl, rfl⟩
      · exact ⟨q, hq, rfl, rfl⟩
  gapEnded := fun t h => h.setEngine (by rw [Engine.items_gapEnded])
  opened := fun t h => h.setEngine (by rw [Engine.items_opened])
  runOut := fun t _ h => h.setEngine (.refl _)
  attempt := fun t i res _ hi h => h.endAttempt hi res
  removeScan := fun t d h =>
    h.setEngine (.of_eq (surveyPoints_filtered t _ _ fun i hi => by simp_all [Item.isScanFor]))
  restart := fun t _ h => h.setEngine (.refl _)
  settings := fun t c _ h => h.setEngine (.refl _)
  scanMode := fun {s} mode period _ _ h => by
    obtain ⟨t, es, hm⟩ := s.setScanMode_eq mode period
    refine h.of_engines (fun u => ?_) (by rw [hm]; rfl)
    obtain he | he | he := s.engine_setScanMode mode period u
    all_goals rw [he]
    · exact surveyPoints_cycled ..
    · exact surveyPoints_filtered u _ _ fun i hi => by simpa using hi
  maxAge := fun _ _ _ h => h
  period := fun {s} _ h => by
    obtain ⟨es, hp⟩ := s.startPeriod_eq
    refine h.of_engines (fun u => ?_) (by rw [hp]; rfl)
    rw [s.engine_startPeriod, surveyPoints_cycled]
  tick := fun h => h
  survey := fun tag p k points hj h => h.acceptSurvey hj
  cancel := fun k o ho h => h.cancelOrder ho

/-- Settles O53: trunks, Scan Timer and survey orders, each kept by everything that changes it. -/
theorem stepKeepsTrunksAndScan : Obligations.StepKeepsTrunksAndScan :=
  ⟨fun _ _ ht hs hst => ⟨trunksSound_keptByWork.step ht hst, scanSound_keptByWork.step hs hst⟩,
    fun _ _ _ ho hst => ordersSound_keptByWork.step ho hst⟩

end Sys2Proof.Machine
end

section
/-! Power just applied (R20, R40, R143, R157, R174), and the refusal of fields that name nothing (R163, R178). -/

namespace Sys2Proof.Machine

open Sys2Proof

/-! ### Power just applied -/

/-- Settles O3: every table of the part right after reset holds its power-on record at every number. -/
theorem resetIsPowerApplied : Obligations.ResetIsPowerApplied := by
  have hengine (t : Trunk) : State.reset.engine t = Engine.start TrunkSettings.default := Table.get_all ..
  have hline (l : LineId) : State.reset.outLine l = LineRecord.start LineConfig.default .undriven := Table.get_all ..
  refine ⟨rfl, rfl, rfl, rfl, rfl, rfl, rfl, rfl, fun t => ?_, fun k => Table.get_all .., fun p => Table.get_all ..,
    fun z => Table.get_all .., rfl, fun l => ?_⟩
  · rw [hengine]
    exact ⟨rfl, rfl, rfl, rfl⟩
  · rw [hline]
    exact ⟨rfl, rfl⟩

/-! ### Fields and codes that name nothing (R177, R178) -/

theorem fin?_eq_none {n x : Nat} (h : n ≤ x) : fin? n x = none := dif_neg (by omega)

theorem fin?_val {n : Nat} (i : Fin n) : fin? n i.val = some i := dif_pos i.isLt

theorem addr?_eq_none {trunk drop : Nat} (h : 1 < trunk ∨ 31 < drop) : addr? trunk drop = none := by
  unfold addr?
  obtain h | h := h
  · rw [fin?_eq_none h]
  · rw [fin?_eq_none h]
    split <;> simp_all

theorem bool?_eq_none {x : Nat} (h : 1 < x) : bool? x = none := by
  unfold bool?
  split
  exacts [by omega, by omega, rfl]

theorem kind?_eq_none {x : Nat} (h : x ≠ 1 ∧ x ≠ 2) : kind? x = none := by
  unfold kind?
  split
  exacts [absurd rfl h.1, absurd rfl h.2, rfl]

theorem scanMode?_eq_none {x : Nat} (h : 2 < x) : scanMode? x = none := by
  unfold scanMode?
  split
  exacts [by omega, by omega, by omega, rfl]

theorem lineMode?_eq_none {x : Nat} (h : 3 < x) : lineMode? x = none := by
  unfold lineMode?
  split
  exacts [by omega, by omega, by omega, by omega, rfl]

theorem trigger?_eq_none {x : Nat} (h : x < 3 ∨ 5 < x) : trigger? x = none := by
  unfold trigger?
  split
  exacts [by omega, by omega, by omega, rfl]

theorem polarity?_eq_none {x : Nat} (h : 1 < x) : polarity? x = none := by
  unfold polarity?
  split
  exacts [by omega, by omega, rfl]

/-- A Line Setup payload with a code that is not listed, or a mask that names a zone above 23 (R154). -/
theorem lineConfig?_eq_none {p : List Byte}
    (h : 3 < u8 p 1 ∨ 0 < u8 p 2 ∨ (u8 p 6 < 3 ∨ 5 < u8 p 6) ∨ 1 < u8 p 7 ∨ 1 < u8 p 8) : lineConfig? p = none := by
  unfold lineConfig?
  split
  · next mode trigger polarity failsafe hm ht hp hf =>
    refine if_neg fun hlt => ?_
    have hmask : u8 p 2 = 0 := by
      unfold u32 u16 at hlt
      omega
    obtain h | h | h | h | h := h
    · rw [lineMode?_eq_none h] at hm
      cases hm
    · omega
    · rw [trigger?_eq_none h] at ht
      cases ht
    · rw [polarity?_eq_none h] at hp
      cases hp
    · rw [bool?_eq_none h] at hf
      cases hf
  · rfl

/-- A Notice Mask payload with a value that is neither enabled nor masked (R168). -/
theorem noticeMask?_eq_none {p : List Byte} {i : Nat} (hi : i < 5) (h : 1 < u8 p i) : noticeMask? p = none := by
  unfold noticeMask?
  split
  · next h0 h1 h2 h3 h4 =>
    have hnone := bool?_eq_none h
    obtain rfl | rfl | rfl | rfl | rfl : i = 0 ∨ i = 1 ∨ i = 2 ∨ i = 3 ∨ i = 4 := by omega
    all_goals simp_all
  · rfl

/-! ### BAD_FIELD -/

/-- A request whose work refuses it as it stands is answered BAD_FIELD, and nothing else changes (R163). -/
theorem runRequest_badField {v : Service} (hk : v.kind ∈ requestKinds) {s s0 : State} {tag : Byte} {p : List Byte}
    (hb : s.begins ⟨v.kind, tag, p⟩ s0) (hl : p.length = v.length)
    (hw : v.work p s0 = (s0, Reply.bare .badField)) :
    runRequest v tag p s = .next (s0.answered (replyTo v.kind tag .badField [])) := by
  have hd : (v.work p s0).1.port.resetDue = false := by
    rw [hw]
    exact hb.notDue
  rw [runRequest_of_begins hb hl hd, hw]
  exact congrArg (fun f => Host.Outcome.next (s0.answered f)) (replyFrame_eq_replyTo hk tag .badField [])

theorem noticeMaskWork_badField {p : List Byte} (s : State)
    (h : ((List.range 5).any fun i => decide (1 < u8 p i)) = true) :
    noticeMaskWork p s = (s, Reply.bare .badField) := by
  obtain ⟨i, hi, hu⟩ := List.any_eq_true.mp h
  unfold noticeMaskWork
  rw [noticeMask?_eq_none (List.mem_range.mp hi) (of_decide_eq_true hu)]

theorem defineProbeWork_badField {p : List Byte} (s : State)
    (h : 1 < u8 p 0 ∨ 31 < u8 p 1 ∨ (u8 p 2 ≠ 1 ∧ u8 p 2 ≠ 2)) :
    defineProbeWork p s = (s, Reply.bare .badField) := by
  unfold defineProbeWork
  split
  · next ha hk =>
    obtain h | h | h := h
    · rw [addr?_eq_none (.inl h)] at ha
      cases ha
    · rw [addr?_eq_none (.inr h)] at ha
      cases ha
    · rw [kind?_eq_none h] at hk
      cases hk
  · rfl

theorem mapPointWork_badField {p : List Byte} (s : State) (h : 1 < u8 p 0 ∨ 31 < u8 p 1 ∨ 23 < u8 p 2) :
    mapPointWork p s = (s, Reply.bare .badField) := by
  unfold mapPointWork
  split
  · next ha hz =>
    obtain h | h | h := h
    · rw [addr?_eq_none (.inl h)] at ha
      cases ha
    · rw [addr?_eq_none (.inr h)] at ha
      cases ha
    · rw [fin?_eq_none h] at hz
      cases hz
  · rfl

theorem mapSpanWork_badField {p : List Byte} (s : State) (h : 1 < u8 p 0 ∨ 31 < u8 p 1 ∨ 23 < u8 p 3) :
    mapSpanWork p s = (s, Reply.bare .badField) := by
  unfold mapSpanWork
  split
  · next ht hb hz =>
    obtain h | h | h := h
    · rw [fin?_eq_none h] at ht
      cases ht
    · rw [fin?_eq_none h] at hb
      cases hb
    · rw [fin?_eq_none h] at hz
      cases hz
  · rfl

theorem unmapSpanWork_badField {p : List Byte} (s : State) (h : 1 < u8 p 0 ∨ 31 < u8 p 1) :
    unmapSpanWork p s = (s, Reply.bare .badField) := by
  unfold unmapSpanWork
  split
  · next ht hb =>
    obtain h | h := h
    · rw [fin?_eq_none h] at ht
      cases ht
    · rw [fin?_eq_none h] at hb
      cases hb
  · rfl

theorem zoneSetupWork_badField {p : List Byte} (s : State) (h : 23 < u8 p 0 ∨ 1 < u8 p 15) :
    zoneSetupWork p s = (s, Reply.bare .badField) := by
  unfold zoneSetupWork
  split
  · next hz hw =>
    obtain h | h := h
    · rw [fin?_eq_none h] at hz
      cases hz
    · rw [bool?_eq_none h] at hw
      cases hw
  · rfl

theorem leakSetupWork_badField {p : List Byte} (s : State) (h : 7 < u8 p 0 ∨ 1 < u8 p 1) :
    leakSetupWork p s = (s, Reply.bare .badField) := by
  unfold leakSetupWork
  split
  · next hc he =>
    obtain h | h := h
    · rw [fin?_eq_none h] at hc
      cases hc
    · rw [bool?_eq_none h] at he
      cases he
  · rfl

theorem lineSetupWork_badField {p : List Byte} (s : State)
    (h : 3 < u8 p 0 ∨ 3 < u8 p 1 ∨ 0 < u8 p 2 ∨ (u8 p 6 < 3 ∨ 5 < u8 p 6) ∨ 1 < u8 p 7 ∨ 1 < u8 p 8) :
    lineSetupWork p s = (s, Reply.bare .badField) := by
  unfold lineSetupWork
  split
  · next hl hc =>
    obtain h | h := h
    · rw [fin?_eq_none h] at hl
      cases hl
    · rw [lineConfig?_eq_none h] at hc
      cases hc
  · rfl

/-- A Scan Setup payload whose mode is not listed is of no other row (assumption 21). -/
theorem otherScanRow_of_unlisted {p : List Byte} (h : 2 < u8 p 0) (mode : ScanMode) : otherScanRow p mode = false := by
  simp [otherScanRow, scanMode?_eq_none h]

theorem scanSetupWork_badField {p : List Byte} (s : State) (h : 2 < u8 p 0) :
    scanSetupWork p s = (s, Reply.bare .badField) := by
  simp [scanSetupWork, scanMode?_eq_none h]

/-- A Leak Setup payload is of the other row only with the other enable byte (assumption 21). -/
theorem otherLeakRow_eq_false {p : List Byte} {enabled : Bool} (h : 1 < u8 p 1 ∨ u8 p 1 = (if enabled then 1 else 0)) :
    otherLeakRow p enabled = false := by
  obtain h | h := h
  · simp [otherLeakRow, bool?_eq_none h]
  · cases enabled <;> simp_all [otherLeakRow, bool?]

/-- Settles O14: each row's first checks refuse the payload, by `runRequest_badField`. -/
theorem badFieldChangesNothing : Obligations.BadFieldChangesNothing := by
  unfold Obligations.BadFieldChangesNothing
  simp only [badFieldRequests, List.forall_mem_cons, List.not_mem_nil, false_implies, implies_true, and_true,
    decide_eq_true_eq]
  refine ⟨?noticeMask, ?defineProbe, ?retireProbe, ?probeQuery, ?trunkRestart, ?trunkSetup, ?scanContinuous,
    ?scanSingle, ?scanStopped, ?mapPoint, ?mapSpan, ?unmapPoint, ?unmapSpan, ?zoneSetup, ?zoneOn, ?zoneOff, ?zoneQuery,
    ?leakEnable, ?leakDisable, ?leakRecalibrate, ?leakQuery, ?lineSetup, ?lineRelease, ?lineQuery, ?eventQuery,
    ?eventAck⟩ <;> intro s s0 tag p hb hl h
  case noticeMask =>
    exact runRequest_badField (v := noticeMaskService) (by decide) hb hl (noticeMaskWork_badField s0 h)
  case defineProbe =>
    exact runRequest_badField (v := defineProbeService) (by decide) hb hl (defineProbeWork_badField s0 h)
  case retireProbe =>
    exact runRequest_badField (v := retireProbeService) (by decide) hb hl
      (by simp [retireProbeService, retireProbeWork, addr?_eq_none h])
  case probeQuery =>
    exact runRequest_badField (v := probeQueryService) (by decide) hb hl
      (by simp [probeQueryService, readOnly, probeQueryAnswer, addr?_eq_none h])
  case trunkRestart =>
    exact runRequest_badField (v := trunkRestartService) (by decide) hb hl
      (by simp [trunkRestartService, trunkRestartWork, fin?_eq_none h])
  case trunkSetup =>
    exact runRequest_badField (v := trunkSetupService) (by decide) hb hl
      (by simp [trunkSetupService, trunkSetupWork, fin?_eq_none h])
  case scanContinuous =>
    exact (if_neg (by simp [otherScanRow_of_unlisted h])).trans
      (runRequest_badField (v := scanSetupService) (by decide) hb hl (scanSetupWork_badField s0 h))
  case scanSingle =>
    exact (if_neg (by simp [otherScanRow_of_unlisted h])).trans
      (runRequest_badField (v := scanSetupService) (by decide) hb hl (scanSetupWork_badField s0 h))
  case scanStopped =>
    exact (if_neg (by simp [otherScanRow_of_unlisted h])).trans
      (runRequest_badField (v := scanSetupService) (by decide) hb hl (scanSetupWork_badField s0 h))
  case mapPoint =>
    exact runRequest_badField (v := mapPointService) (by decide) hb hl (mapPointWork_badField s0 h)
  case mapSpan =>
    exact runRequest_badField (v := mapSpanService) (by decide) hb hl (mapSpanWork_badField s0 h)
  case unmapPoint =>
    exact runRequest_badField (v := unmapPointService) (by decide) hb hl
      (by simp [unmapPointService, unmapPointWork, addr?_eq_none h])
  case unmapSpan =>
    exact runRequest_badField (v := unmapSpanService) (by decide) hb hl (unmapSpanWork_badField s0 h)
  case zoneSetup =>
    exact runRequest_badField (v := zoneSetupService) (by decide) hb hl (zoneSetupWork_badField s0 h)
  case zoneOn =>
    exact runRequest_badField (v := zoneOnService) (by decide) hb hl
      (by simp [zoneOnService, zoneOnWork, fin?_eq_none h])
  case zoneOff =>
    exact runRequest_badField (v := zoneOffService) (by decide) hb hl
      (by simp [zoneOffService, zoneOffWork, fin?_eq_none h])
  case zoneQuery =>
    exact runRequest_badField (v := zoneQueryService) (by decide) hb hl
      (by simp [zoneQueryService, readOnly, zoneQueryAnswer, fin?_eq_none h])
  case leakEnable =>
    have hrow : otherLeakRow p true = false := otherLeakRow_eq_false (by simp; omega)
    exact (if_neg (by simp [hrow])).trans
      (runRequest_badField (v := leakSetupService) (by decide) hb hl (leakSetupWork_badField s0 (by omega)))
  case leakDisable =>
    have hrow : otherLeakRow p false = false := otherLeakRow_eq_false (by simp; omega)
    exact (if_neg (by simp [hrow])).trans
      (runRequest_badField (v := leakSetupService) (by decide) hb hl (leakSetupWork_badField s0 (by omega)))
  case leakRecalibrate =>
    exact runRequest_badField (v := leakRecalibrateService) (by decide) hb hl
      (by simp [leakRecalibrateService, leakRecalibrateWork, fin?_eq_none h])
  case leakQuery =>
    exact runRequest_badField (v := leakQueryService) (by decide) hb hl
      (by simp [leakQueryService, readOnly, leakQueryAnswer, fin?_eq_none h])
  case lineSetup =>
    exact runRequest_badField (v := lineSetupService) (by decide) hb hl (lineSetupWork_badField s0 (by omega))
  case lineRelease =>
    exact runRequest_badField (v := lineReleaseService) (by decide) hb hl
      (by simp [lineReleaseService, lineReleaseWork, fin?_eq_none h])
  case lineQuery =>
    exact runRequest_badField (v := lineQueryService) (by decide) hb hl
      (by simp [lineQueryService, readOnly, lineQueryAnswer, fin?_eq_none h])
  case eventQuery =>
    exact runRequest_badField (v := eventQueryService) (by decide) hb hl
      (by simp [eventQueryService, readOnly, eventQueryAnswer, h])
  case eventAck =>
    exact runRequest_badField (v := eventAckService) (by decide) hb hl
      (by simp [eventAckService, eventAckWork, h])

end Sys2Proof.Machine
end

section
/-! The requests to a trunk (R16, R17), the end of its gap and the opening of a transaction (R2, R4, R8, R10), and the
judging of an answer (R3, R5, R6). -/

namespace Sys2Proof.Machine

open Sys2Proof

/-! ### Trunk Restart and Trunk Setup -/

theorem byte_toNat {n : Nat} (h : n < 256) : (byte n).toNat = n := by
  rw [byte, BitVec.toNat_ofNat]
  exact Nat.mod_eq_of_lt h

theorem fin?_trunkCode (t : Trunk) : fin? 2 (u8 [trunkCode t] 0) = some t := by
  rw [show u8 [trunkCode t] 0 = t.val from byte_toNat (by omega)]
  exact fin?_val t

/-- A request row of one step where its execution begins, its reply in the spelling of the statements (R163). -/
theorem runRequest_answered {v : Service} (hk : v.kind ∈ requestKinds) {s s0 t : State} {tag : Byte} {p : List Byte}
    {status : Status} {body : List Byte} (hb : s.begins ⟨v.kind, tag, p⟩ s0) (hl : p.length = v.length)
    (hw : v.work p s0 = (t, ⟨status, body⟩)) (ht : t.port.executing = s0.port.executing) :
    runRequest v tag p s = .next (t.answered (replyTo v.kind tag status body)) := by
  have hd : (v.work p s0).1.port.resetDue = false := by
    rw [hw, Port.resetDue, show (t, _).1.port.executing = none from ht.trans hb.idle]
    rfl
  rw [runRequest_of_begins hb hl hd, hw]
  exact congrArg (fun f => Host.Outcome.next (t.answered f)) (replyFrame_eq_replyTo hk tag status body)

/-- A trunk that is not HALTED is IDLE with no item, else BUSY (R8). -/
theorem Engine.state_of_not_halted {e : Engine} (h : e.halted = false) :
    e.state = if e.inFlight = none ∧ e.waitList = [] then .idle else .busy := by
  unfold Engine.state
  cases hi : e.inFlight <;> cases hw : e.waitList <;> simp [h]

/-- The settings as applied, in the clamps of R17. -/
theorem TrunkSettings.clamped_eq (c : TrunkSettings) :
    c.clamped = ⟨min 3 c.retries, max 4 (min 32 c.haltThreshold), max 1 (min 15 c.faultThreshold)⟩ := by
  rw [TrunkSettings.clamped, clampNat_eq (by decide), clampNat_eq (by decide), clampNat_eq (by decide), Nat.zero_max]

/-- Settles O21: both requests as their work says, with the clamps of R17. -/
theorem trunkRequests : Obligations.TrunkRequests := by
  refine ⟨fun s s0 tag t hb => ⟨fun hh hw hi => ?_, fun hh => ?_⟩, fun s s0 tag p t hb hl ht => ?_⟩
  · refine runRequest_answered (v := trunkRestartService) (by decide) hb rfl ?_ (Port.raise_executing ..)
    have hidle : ((s0.restartTrunk t).engine t).state = .idle := by
      rw [State.restartTrunk, (State.raise_keepsWork ..).engine, State.engine_setEngine_same,
        Engine.state_of_not_halted rfl]
      exact if_pos ⟨hi, hw⟩
    show trunkRestartWork _ s0 = _
    unfold trunkRestartWork
    rw [fin?_trunkCode]
    dsimp only
    rw [if_pos hh, hidle]
    rfl
  · refine runRequest_answered (v := trunkRestartService) (by decide) hb rfl ?_ rfl
    show trunkRestartWork _ s0 = _
    unfold trunkRestartWork
    rw [fin?_trunkCode]
    dsimp only
    rw [if_neg (by simp [hh]), Engine.state_of_not_halted hh]
    split <;> rfl
  · rintro retries halt fault rfl rfl rfl
    refine runRequest_answered (v := trunkSetupService) (by decide) hb hl ?_ rfl
    show trunkSetupWork p s0 = _
    unfold trunkSetupWork
    rw [ht, fin?_val]
    dsimp only
    rw [TrunkSettings.clamped_eq]
    dsimp only
    have hstatus (c raw : TrunkSettings) : takenStatus (c != raw) =
        if c.retries = raw.retries ∧ c.haltThreshold = raw.haltThreshold ∧ c.faultThreshold = raw.faultThreshold then
          .ok
        else .adjusted := by
      obtain ⟨r, h, f⟩ := c
      obtain ⟨r', h', f'⟩ := raw
      rw [takenStatus]
      by_cases heq : r = r' ∧ h = h' ∧ f = f'
      · simp [heq]
      · rw [if_neg heq, if_pos]
        simpa using heq
    rw [hstatus]

/-! ### Field events that leave the port alone -/

/-- A field event of the running part that leaves the port as it was answers its own state: the arbiter had nothing to
do before it, and has nothing after it. -/
theorem fieldEvent_of_lineSound {f : State → State} {s : State} (hp : s.power = .running) (hl : s.lineSound)
    (hf : (f s).port = s.port) : fieldEvent f s = .next (f s) := by
  have hl' : (f s).lineSound := by
    unfold State.lineSound
    rw [hf]
    exact hl
  rw [fieldEvent, if_pos hp, finish, State.arbitrate_of_lineSound _ hl']

/-- Settles O22: the engine of the trunk as `Engine.gapEnded` and `Engine.opened` leave it. -/
theorem gapEndsAndTransactionOpens : Obligations.GapEndsAndTransactionOpens := by
  refine ⟨fun s t hp hl hgap => ?_, fun s t q hp hl => ?_⟩
  · have hexec : exec (.gapExpiry t) s = .next (s.setEngine t (s.engine t).gapEnded) :=
      fieldEvent_of_lineSound (f := fun s => s.setEngine t (s.engine t).gapEnded) hp hl rfl
    rw [hexec]
    generalize s.engine t = e at hgap ⊢
    have hended (hi : e.inFlight = none) : e.gapEnded = ({ e with link := .ready } : Engine).takeHead := by
      rw [Engine.gapEnded, if_pos hgap, hi]
    refine ⟨fun i hi => ?_, fun hi hw => ?_, fun i rest hi hh hw => ?_⟩
    · rw [Engine.gapEnded, if_pos hgap, hi]
      simp only [Engine.startAttempt, probeQueryBytes, hi]
    · rw [hended hi]
      obtain ⟨h, -⟩ | ⟨i, rest, -, hh, hr, -⟩ := Engine.takeHead_cases { e with link := .ready }
      · rw [h]
      · obtain hw | hw := hw
        · exact absurd (hw.symm.trans hr) (by simp)
        · exact absurd (hw.symm.trans hh) (by simp)
    · rw [hended hi]
      obtain ⟨-, h⟩ | ⟨j, rest', -, -, hr, h⟩ := Engine.takeHead_cases { e with link := .ready }
      · have hfree : ({ e with link := .ready } : Engine).free = true := (Engine.free_iff _).mpr ⟨hi, rfl⟩
        rw [hfree] at h
        simp [hh, hw] at h
      · obtain ⟨rfl, rfl⟩ : i = j ∧ rest = rest' := by simpa using hw.symm.trans hr
        rw [h]
        rfl
  · have hexec : exec (.transactionOpen t) s = .next (s.setEngine t (s.engine t).opened) :=
      fieldEvent_of_lineSound (f := fun s => s.setEngine t (s.engine t).opened) hp hl rfl
    rw [hexec]
    refine ⟨fun hs => ?_, fun hs => ?_⟩
    all_goals rw [Engine.opened, hs]

/-! ### The fields of an answer (R3, R179) -/

theorem append_toNat (a b : Byte) : (a ++ b).toNat = a.toNat * 256 + b.toNat := by
  have hb := b.isLt
  rw [BitVec.toNat_append, ← Nat.shiftLeft_add_eq_or_of_lt hb, Nat.shiftLeft_eq]

/-- A two-byte signed field is two's complement, high byte first (R177). -/
theorem append_toInt (a b : Byte) : (a ++ b).toInt =
    if a.toNat * 256 + b.toNat < 32768 then ((a.toNat * 256 + b.toNat : Nat) : Int)
    else ((a.toNat * 256 + b.toNat : Nat) : Int) - 65536 := by
  rw [BitVec.toInt_eq_toNat_cond, append_toNat]
  split <;> split <;> omega

/-- The kind bits 2 and 3 of a status character (R179). -/
theorem kindBits_toNat (b : Byte) : (b.extractLsb' 2 2).toNat =
    (if b.getLsbD 2 then 1 else 0) + (if b.getLsbD 3 then 2 else 0) := by
  rw [BitVec.extractLsb'_toNat, Nat.shiftRight_eq_div_pow, BitVec.getLsbD, BitVec.getLsbD,
    Nat.testBit_eq_decide_div_mod_eq, Nat.testBit_eq_decide_div_mod_eq]
  simp only [decide_eq_true_eq]
  split <;> split <;> omega

/-! ### What an attempt result holds (R6) -/

/-- A result has an outcome and a time; the answered kind stands in that of a well-formed answer, and the reading in a
GOOD or TAINTED one. -/
structure AttemptResult.holds (res : AttemptResult) (outcome : ProbeOutcome) (kind : Kind) (time : Nat) (temp : Int)
    (rh : Nat) (wet : Bool) : Prop where
  outcome  : res.outcome = outcome
  time     : res.time = time
  answered : res.kind = if res.outcome ∈ [.good, .tainted, .kindMismatch] then some kind else none
  reading  : ∀ r, res.reading = some r →
    r.temp = temp ∧ r.rh = (if kind = .air then some (min rh 10000) else none)
      ∧ (r.saturated = true ↔ kind = .air ∧ 10000 < rh) ∧ r.wet = wet
  present  : res.reading.isSome = true ↔ res.outcome = .good ∨ res.outcome = .tainted

/-- A result that carries nothing more. -/
theorem bareResult_holds {outcome : ProbeOutcome} (h : outcome ∉ [.good, .tainted, .kindMismatch]) (kind : Kind)
    (time : Nat) (temp : Int) (rh : Nat) (wet : Bool) :
    (bareResult outcome time).holds outcome kind time temp rh wet where
  outcome := rfl
  time := rfl
  answered := (if_neg h).symm
  reading := fun r hr => nomatch hr
  present := by
    have h' : outcome ≠ .good ∧ outcome ≠ .tainted := ⟨fun hg => h (by simp [hg]), fun ht => h (by simp [ht])⟩
    simp [bareResult, h'.1, h'.2]

/-- The kind defined at the address is the other one (R5 check 7). -/
theorem mismatch_iff (defined : Option Kind) (k : Kind) : (defined.isSome && defined != some k) = true ↔
    (k = .air ∧ defined = some .surface) ∨ (k = .surface ∧ defined = some .air) := by
  cases defined with
  | none => simp
  | some k' => cases k' <;> cases k <;> decide

/-- A well-formed answer (R5 checks 7 and 8), with its RH as accepted. -/
theorem judgeWellFormed_holds {defined : Option Kind} {a : Answer} {k : Kind} {saturated : Bool} {rh : Option Nat}
    (time : Nat) (hrh : acceptRh k a.rh = some (saturated, rh)) :
    (judgeWellFormed defined a k saturated rh time).holds
      (if (k = .air ∧ defined = some .surface) ∨ (k = .surface ∧ defined = some .air) then .kindMismatch
       else if a.wet then .tainted else .good)
      k time a.temp a.rh a.wet := by
  have haccepted : rh = (if k = .air then some (min a.rh 10000) else none)
      ∧ (saturated = true ↔ k = .air ∧ 10000 < a.rh) := by
    unfold acceptRh at hrh
    cases k with
    | surface =>
      cases hrh
      simp
    | air =>
      dsimp only at hrh
      split at hrh
      · cases hrh
        simp
        omega
      · split at hrh
        · cases hrh
          simp
          omega
        · cases hrh
  unfold judgeWellFormed
  simp only [mismatch_iff]
  split
  · exact ⟨rfl, rfl, rfl, fun r hr => (nomatch hr), by simp⟩
  · refine ⟨rfl, rfl, ?_, fun r hr => ?_, ?_⟩
    · cases a.wet <;> rfl
    · cases hr
      exact ⟨rfl, haccepted.1, haccepted.2, rfl⟩
    · cases a.wet <;> simp

/-- A list of kinds is coded 1 for AIR and 2 for SURFACE (R178). -/
theorem kind?_cases (n : Nat) : ((n ≠ 1 ∧ n ≠ 2) ∧ kind? n = none) ∨ (n = 1 ∧ kind? n = some .air)
    ∨ (n = 2 ∧ kind? n = some .surface) := by
  by_cases h1 : n = 1
  · exact .inr (.inl ⟨h1, by rw [h1]; rfl⟩)
  · by_cases h2 : n = 2
    · exact .inr (.inr ⟨h2, by rw [h2]; rfl⟩)
    · exact .inl ⟨⟨h1, h2⟩, kind?_eq_none ⟨h1, h2⟩⟩

/-- The outcome that the checks of R5 come to, one after another, on the fields of an answer. -/
def checksOutcome (defined : Option Kind) (d : Drop) (a : Answer) (kind : Nat) : ProbeOutcome :=
  if a.checkOk = false then .badCheck
  else if a.echo.toNat ≠ d.val then .badCheck
  else if a.ready = false then .notReady
  else if kind = 0 ∨ kind = 3 then .badCheck
  else if a.temp < -4000 ∨ 8500 < a.temp then .badCheck
  else if kind = 1 ∧ 10230 < a.rh then .badCheck
  else if (kind = 1 ∧ defined = some .surface) ∨ (kind = 2 ∧ defined = some .air) then .kindMismatch
  else if a.wet then .tainted
  else .good

/-- The judging of an answer whose kind bits are coded as `kind` meets the checks in their order. -/
theorem judgeAnswer_holds (defined : Option Kind) (d : Drop) (b : List Byte) (time : Nat) {kind : Nat} (hk4 : kind < 4)
    (hkind : (readAnswer b).kind = kind? kind) :
    (judgeAnswer defined d b time).holds (checksOutcome defined d (readAnswer b) kind)
      (if kind = 1 then .air else .surface) time (readAnswer b).temp (readAnswer b).rh (readAnswer b).wet := by
  unfold judgeAnswer checksOutcome
  dsimp only
  generalize readAnswer b = a at hkind ⊢
  have hecho : a.echo ≠ byte d.val ↔ a.echo.toNat ≠ d.val := by
    rw [ne_eq, ne_eq, not_iff_not, ← BitVec.toNat_inj, byte_toNat (by omega)]
  have hbad := fun k => bareResult_holds (outcome := .badCheck) (by simp) k time a.temp a.rh a.wet
  by_cases hc : a.checkOk = false
  · rw [if_pos (by simp [hc]), if_pos hc]
    exact hbad _
  rw [if_neg (by simp [hc]), if_neg hc]
  by_cases he : a.echo.toNat ≠ d.val
  · rw [if_pos (hecho.mpr he), if_pos he]
    exact hbad _
  rw [if_neg (fun h => he (hecho.mp h)), if_neg he]
  by_cases hr : a.ready = false
  · rw [if_pos (by simp [hr]), if_pos hr]
    exact bareResult_holds (by simp) ..
  rw [if_neg (by simp [hr]), if_neg hr, hkind]
  have htemp (k : Kind) (res : AttemptResult) (o : ProbeOutcome)
      (h : res.holds o k time a.temp a.rh a.wet) :
      (if a.temp < -4000 ∨ 8500 < a.temp then bareResult .badCheck time else res).holds
        (if a.temp < -4000 ∨ 8500 < a.temp then .badCheck else o) k time a.temp a.rh a.wet := by
    split
    exacts [hbad k, h]
  obtain ⟨hn, hk⟩ | ⟨rfl, hk⟩ | ⟨rfl, hk⟩ := kind?_cases kind
  · rw [hk, if_pos (by omega)]
    exact hbad _
  · rw [hk, if_neg (by omega)]
    refine htemp .air _ _ ?_
    cases hrh : acceptRh .air a.rh with
    | none =>
      have hgt : 10230 < a.rh := by
        by_contra hle
        unfold acceptRh at hrh
        dsimp only at hrh
        split at hrh
        · cases hrh
        · rw [if_pos (by omega)] at hrh
          cases hrh
      rw [if_pos ⟨rfl, hgt⟩]
      exact hbad _
    | some x =>
      have hle : ¬ 10230 < a.rh := by
        intro hgt
        unfold acceptRh at hrh
        dsimp only at hrh
        rw [if_neg (by omega), if_neg (by omega)] at hrh
        cases hrh
      rw [if_neg (by simp [hle])]
      simpa using judgeWellFormed_holds (defined := defined) time hrh
  · rw [hk, if_neg (by omega)]
    refine htemp .surface _ _ ?_
    rw [show acceptRh .surface a.rh = some (false, none) from rfl]
    simpa using judgeWellFormed_holds (defined := defined) (a := a) (k := .surface) time rfl

/-- Settles O23: the fields of the seven characters, and `judgeAnswer_holds` on them. -/
theorem answerJudgedInOrder : Obligations.AnswerJudgedInOrder := by
  rintro defined d echo status t1 t0 h1 h0 check time temp rh kind rfl rfl hkind
  have hbits : (readAnswer [echo, status, t1, t0, h1, h0, check]).kind = kind? kind := by
    rw [hkind]
    exact congrArg kind? (kindBits_toNat status)
  have h := judgeAnswer_holds defined d _ time (by rw [hkind]; split <;> split <;> omega) hbits
  have htemp : (readAnswer [echo, status, t1, t0, h1, h0, check]).temp = (t1 ++ t0).toInt := (append_toInt t1 t0).symm
  have hrh : (readAnswer [echo, status, t1, t0, h1, h0, check]).rh = (h1 ++ h0).toNat := (append_toNat h1 h0).symm
  have hcheck : (readAnswer [echo, status, t1, t0, h1, h0, check]).checkOk = false
      ↔ check ≠ crc8 [echo, status, t1, t0, h1, h0] := by
    rw [ne_eq, eq_comm (a := check)]
    exact beq_eq_false_iff_ne
  have hair : (if kind = 1 then Kind.air else .surface) = .air ↔ kind = 1 := by
    by_cases h1 : kind = 1 <;> simp [h1]
  generalize judgeAnswer defined d _ time = res at h ⊢
  obtain ⟨ho, ht, hk, hr, hp⟩ := h
  refine ⟨?_, ht, hk, fun r hr' => ?_, hp⟩
  · rw [ho, checksOutcome, htemp, hrh]
    simp only [hcheck]
    rfl
  · have hfields := hr r hr'
    simp only [hair, htemp, hrh] at hfields
    exact hfields

end Sys2Proof.Machine
end

section
/-! The settings load (R20, R30, R40, R56, R70, R108, R124, R143, R157, R173, R174) and Warm Restart (R21, R31, R175):
the blocks afresh, and in CONTINUOUS a cycle. -/

namespace Sys2Proof.Machine

open Sys2Proof

/-! ### A cycle start in one piece (R24) -/

/-- A free engine whose list is empty takes the item, another one adds it to its tail (R8). -/
theorem Engine.append_eq {e : Engine} (hh : e.halted = false) (hf : e.free = true → e.waitList = []) (i : Item) :
    e.append i =
      if e.free then { e with waitList := [], inFlight := some i, attempt := e.settings,
                              link := .sending (probeQueryBytes i.drop) }
      else { e with waitList := e.waitList ++ [i] } := by
  unfold Engine.append
  obtain ⟨h, hn⟩ | ⟨j, rest, hfree, -, hw, h⟩ := Engine.takeHead_cases { e with waitList := e.waitList ++ [i] }
  · rw [h, if_neg]
    intro hfree
    obtain hn | hn | hn := hn
    · exact absurd (hfree.symm.trans hn) (by simp)
    · exact absurd (hh.symm.trans hn) (by simp)
    · exact absurd hn (by simp)
  · have hfree' : e.free = true := hfree
    obtain ⟨rfl, rfl⟩ : i = j ∧ [] = rest := by simpa [hf hfree'] using hw
    rw [h, if_pos hfree']

/-- An engine that has just taken an item is not free. -/
theorem Engine.free_of_inFlight {e : Engine} {i : Item} (h : e.inFlight = some i) : e.free = false := by
  simp [Engine.free, h]

/-- The drops for which a SCAN item is new, after one more has been offered. -/
theorem filter_scanDrops_cons {xs : List Item} {d : Drop} {ds : List Drop} (hd : d ∉ ds) :
    (ds.filter fun x => !(scanDrops (xs ++ [newItem d .scan])).contains x)
      = ds.filter fun x => !(scanDrops xs).contains x := by
  refine List.filter_congr fun x hx => ?_
  have hne : x ≠ d := fun h => hd (h ▸ hx)
  simp [scanDrops, newItem, hne]

/-- A busy engine adds an item for each drop that has none waiting. -/
theorem Engine.cycle_of_not_free {ds : List Drop} (hn : ds.Nodup) {e : Engine} (hh : e.halted = false)
    (hf : e.free = false) :
    ds.foldl Engine.offerScan e =
      { e with waitList :=
          e.waitList ++ (ds.filter fun d => !(scanDrops e.waitList).contains d).map fun d => newItem d .scan } := by
  induction ds generalizing e with
  | nil => simp
  | cons d ds ih =>
    obtain ⟨hd, hn⟩ := List.nodup_cons.mp hn
    rw [List.foldl_cons]
    by_cases hs : e.holdsScan d = true
    · have hmem := (e.holdsScan_iff d).mp hs
      rw [show e.offerScan d = e from if_pos (by simp [hs]), ih hn hh hf]
      simp [hmem]
    · have hmem : d ∉ scanDrops e.waitList := fun h => hs ((e.holdsScan_iff d).mpr h)
      have hoff : e.offerScan d = { e with waitList := e.waitList ++ [newItem d .scan] } := by
        rw [Engine.offerScan, if_neg (by simp [hh, hs]), Engine.append_eq hh (by simp [hf]), if_neg (by simp [hf])]
      rw [hoff, ih hn (e := { e with waitList := e.waitList ++ [newItem d .scan] }) hh hf]
      dsimp only
      rw [filter_scanDrops_cons hd, List.filter_cons_of_pos (by simpa using hmem), List.map_cons, List.append_assoc,
        List.singleton_append]

/-- A cycle start, drop by drop, is the one of `Engine.cycled` (R15, R24). -/
theorem Engine.cycle_eq_cycled {ds : List Drop} (hn : ds.Nodup) {e : Engine}
    (hf : e.free = true → e.halted = false → e.waitList = []) : ds.foldl Engine.offerScan e = e.cycled ds := by
  unfold Engine.cycled
  by_cases hh : e.halted = true
  · rw [if_pos hh]
    clear hn
    induction ds with
    | nil => rfl
    | cons d ds ih => rw [List.foldl_cons, show e.offerScan d = e from if_pos (by simp [hh]), ih]
  have hh' : e.halted = false := by simpa using hh
  rw [if_neg hh]
  by_cases hfree : e.free = true
  · have hw := hf hfree hh'
    cases ds with
    | nil => exact (if_pos hfree).symm
    | cons d ds =>
      obtain ⟨hd, hn⟩ := List.nodup_cons.mp hn
      have hoff : e.offerScan d = e.joined [newItem d .scan] := by
        rw [Engine.offerScan, if_neg (by simp [hh, Engine.holdsScan, hw]), Engine.append_eq hh' (fun _ => hw),
          if_pos hfree]
        exact (if_pos hfree).symm
      have hjoined (items : List Item) : e.joined (newItem d .scan :: items) =
          { e with waitList := items, inFlight := some (newItem d .scan), attempt := e.settings,
                   link := .sending (probeQueryBytes d) } := if_pos hfree
      have hfirst : (scanDrops e.waitList).contains d = false := by simp [hw, scanDrops]
      rw [List.foldl_cons, hoff, List.filter_cons_of_pos (by rw [hfirst]; rfl), List.map_cons, hjoined, hjoined,
        Engine.cycle_of_not_free hn
          (e := { e with waitList := [], inFlight := some (newItem d .scan), attempt := e.settings,
                         link := .sending (probeQueryBytes d) }) hh' (Engine.free_of_inFlight rfl), hw]
      rfl
  · rw [Engine.cycle_of_not_free hn hh' (by simpa using hfree)]
    exact (if_neg hfree).symm

theorem State.nodup_definedDrops (s : State) (t : Trunk) : (s.definedDrops t).Nodup :=
  (List.nodup_finRange 32).filter _

/-! ### The settings load -/

/-- The image is the stored one exactly where its check agrees and it is not marked invalid (R171). -/
theorem Store.valid_iff (s : Store) :
    s.valid = true ↔ s.check = s.contents.check ∧ s.markedInvalid = false := by
  simp [Store.valid]

/-- The load takes the stored image where it is valid, else the defaults (R173). -/
theorem Store.toLoad_eq (s : Store) :
    s.toLoad = if s.check = s.contents.check ∧ s.markedInvalid = false then s.contents else Image.default := by
  unfold Store.toLoad
  simp only [Store.valid_iff]

/-- What a started part holds, but for the Scan Timer and the engines, which the first period start may change. -/
theorem State.startedFrom_resumed (s : State) (i : Image) : ∃ sc es,
    (s.startedFrom i).startRound.resumeScan = { (s.startedFrom i).startRound with scan := sc, engines := es } := by
  obtain ⟨es, h⟩ := (s.startedFrom i).startRound.resumeScan_eq
  exact ⟨_, es, h⟩

/-- The part that an image starts: every block, with the first leak round and, in CONTINUOUS, the first cycle. -/
theorem State.startedFrom_engine (s : State) (i : Image) (u : Trunk) :
    (s.startedFrom i).startRound.resumeScan.engine u =
      if i.scanMode = .continuous then
        (Engine.start (i.trunks.get u)).cycled ((s.startedFrom i).startRound.resumeScan.definedDrops u)
      else Engine.start (i.trunks.get u) := by
  have hstart : (s.startedFrom i).startRound.engine u = Engine.start (i.trunks.get u) := Table.get_map ..
  have hdrops :
      (s.startedFrom i).startRound.resumeScan.definedDrops u = (s.startedFrom i).startRound.definedDrops u := by
    obtain ⟨sc, es, h⟩ := s.startedFrom_resumed i
    rw [h]
    rfl
  rw [State.engine_resumeScan, hstart, hdrops,
    Engine.cycle_eq_cycled (State.nodup_definedDrops ..) (fun _ _ => rfl)]
  rfl

/-- The lowest enabled channel (R112). -/
theorem State.nextChannel_zero (s : State) :
    s.nextChannel 0 = (List.finRange 8).find? fun c => (s.channel c).enabled := by
  simp [State.nextChannel]

/-- Settles O5: the blocks as `State.startedFrom` gives them, with the first round's position and the first cycle. -/
theorem settingsLoadStartsEveryBlock : Obligations.SettingsLoadStartsEveryBlock := by
  intro s i hp hi
  have htoLoad : s.store.toLoad = i := by rw [hi, Store.toLoad_eq]
  have hload : s.load = ({ s with defaulted := !s.store.valid }.startedFrom i).startRound.resumeScan := by
    rw [State.load, htoLoad]
  have hdef : (!s.store.valid) = true ↔ ¬ (s.store.check = s.store.contents.check ∧ s.store.markedInvalid = false) := by
    rw [← Store.valid_iff, Bool.not_eq_true', Bool.not_eq_true]
  clear hi htoLoad
  revert hload hdef
  generalize (!s.store.valid) = defaulted
  intro hload hdef
  have hengine := State.startedFrom_engine { s with defaulted := defaulted } i
  have hscan := State.startedFrom_scan { s with defaulted := defaulted } i
  obtain ⟨sc, es, h⟩ := State.startedFrom_resumed { s with defaulted := defaulted } i
  rw [h] at hload hengine hscan
  have hsc : sc = _ := hscan
  have hexec : exec .settingsLoad s = .next s.load := by
    show execSettingsLoad s = _
    rw [execSettingsLoad, if_pos hp, finish, hload]
    exact congrArg _ (State.arbitrate_of_empty _ rfl rfl rfl)
  rw [hload] at hexec
  refine ⟨_, hexec, rfl, rfl, rfl, hdef, fun a => ?_, rfl, fun z => Table.get_map .., fun l => Table.get_map ..,
    fun c => Table.get_map .., rfl, rfl, rfl, rfl, ?_, rfl, fun k => Table.get_all .., rfl, ?_⟩
  · refine (Table.get_map ..).trans ?_
    unfold ProbeRecord.start
    rfl
  · exact State.nextChannel_zero _
  · rw [show ({ (State.startedFrom _ i).startRound with scan := sc, engines := es } : State).scan = sc from rfl, hsc]
    exact ⟨rfl, rfl, rfl, rfl, rfl, rfl, hengine⟩

end Sys2Proof.Machine
end

section
/-! Warm Restart: the reply, then the reset (R21, R31, R40, R56, R71, R109, R125, R144, R158, R175). -/

namespace Sys2Proof.Machine

open Sys2Proof

/-- With no notice queued, an idle line takes the oldest reply-class frame, if one waits (R164). -/
theorem State.arbitrate_of_no_notice (s : State) (hl : s.port.line = none) (hd : s.port.resetDue = false)
    (hu : s.port.urgent = []) (hr : s.port.routine = []) :
    s.arbitrate = s.setPort { s.port with
      line := s.port.replies.head?, replies := s.port.replies.tail,
      wire := if s.port.replies = [] then s.port.wire else lineBytes s.port.replies.head? } := by
  cases hrep : s.port.replies with
  | nil =>
    have hport : ({ s.port with line := none, replies := [] } : Port) = s.port := by rw [← hl, ← hrep]
    rw [s.arbitrate_of_empty hrep hu hr]
    exact (congrArg s.setPort hport).symm
  | cons f rest =>
    unfold State.arbitrate
    rw [if_neg (by simp [hl, hd]), hrep]
    simp [Port.send, OutFrame.wireBytes_eq_onWire, lineBytes]

theorem ProbeRecord.start_config (c : Option ProbeConfig) : (ProbeRecord.start c).config = c := by
  cases c <;> rfl

/-- Warm Restart keeps which probes are defined (R56). -/
theorem State.restarted_definedDrops (s : State) (u : Trunk) : s.restarted.definedDrops u = s.definedDrops u := by
  have hdef (a : Addr) : s.restarted.definedAt a = s.definedAt a := by
    have hprobe : s.restarted.probe a = ProbeRecord.start (s.probe a).config := Table.get_map ..
    rw [State.definedAt, hprobe, ProbeRecord.start_config]
    rfl
  simp only [State.definedDrops, hdef]

/-- A trunk's engine after Warm Restart (R21, R31). -/
theorem State.engine_restarted_cycled (s : State) (u : Trunk) :
    s.restarted.resumeScan.engine u =
      if s.scan.mode = .continuous then (s.engine u).restarted.cycled (s.definedDrops u)
      else (s.engine u).restarted := by
  rw [s.engine_restarted, s.restarted_definedDrops,
    Engine.cycle_eq_cycled (s.nodup_definedDrops u) (fun _ _ => rfl)]

/-- Settles O8: the reply is queued behind the frames before it; the reset is `State.restarted` with the period start of
`State.resumeScan`, and the arbiter then takes the oldest frame that waits. -/
theorem warmRestartRepliesThenResets : Obligations.WarmRestartRepliesThenResets := by
  refine ⟨fun s s0 tag hb => ?_, fun s hp he hl => ?_⟩
  · show whenAdmitted _ _ s = _
    rw [whenAdmitted_of_begins hb, State.runWarmRestart, if_pos (show ([] : List Byte).length = 0 from rfl), finish,
      State.beginRestart, State.arbitrate_queueFrame _ _ rfl]
    rfl
  · have hscan := s.restarted_scan
    have hengine := s.engine_restarted_cycled
    obtain ⟨es, h⟩ := s.restarted.resumeScan_eq
    rw [h] at hscan hengine
    revert hscan hengine h
    generalize (if s.restarted.scan.mode = .continuous then s.restarted.scan.periodStarted else s.restarted.scan) = sc
    intro hengine hscan h
    have hexec : exec .warmRestartReset s = .next s.restarted.resumeScan.arbitrate.serveWaiting := by
      show servingEvent State.resetIfDue s = _
      rw [servingEvent, if_pos hp, State.resetIfDue, if_pos (by simp [Port.resetDue, he])]
    have harb := State.arbitrate_of_no_notice { s.restarted with scan := sc, engines := es } hl rfl rfl rfl
    rw [h, harb] at hexec
    have hsc : sc = if s.scan.mode = .continuous then s.scan.periodStarted else s.scan := hscan
    refine ⟨_, hexec, fun hw => State.serveWaiting_eq_self _ (.inl hw), hp, rfl, rfl, rfl, rfl, fun a => ?_,
      fun z => Table.get_map .., fun c => Table.get_map .., rfl, fun p => Table.get_all .., rfl,
      fun z => Table.get_all .., rfl, fun l => Table.get_map .., fun k => ?_, rfl, rfl, rfl, rfl, rfl, rfl, ?_, rfl,
      rfl, ?_, ?_, fun hm => ?_, fun hm => ?_, fun u => ⟨_, rfl, ?_⟩⟩
    · refine (Table.get_map ..).trans ?_
      unfold ProbeRecord.start
      rfl
    · refine (Table.get_map ..).trans ?_
      show (s.slot k).restarted = _
      cases s.slot k <;> rfl
    · show s.port.replies.head?.toList ++ s.port.replies.tail = s.port.line.toList ++ s.port.replies
      rw [hl]
      cases s.port.replies <;> rfl
    · show sc.mode = s.scan.mode
      rw [hsc]
      split <;> rfl
    · show sc.maxAge = s.scan.maxAge
      rw [hsc]
      split <;> rfl
    · show sc = s.scan
      rw [hsc, if_neg hm]
    · show sc.active = _ ∧ sc.next = _ ∧ sc.countdown = _ ∧ sc.due = _
      rw [hsc, if_pos hm]
      exact ⟨rfl, rfl, rfl, rfl⟩
    · refine (hengine u).trans ?_
      cases hlink : (s.engine u).link <;> simp only [Engine.restarted, hlink, Link.abandoned]

end Sys2Proof.Machine
end

section
/-! What a step keeps of the notice queue and of the frames that wait (R164 to R167), through the operations of an
evaluation and through the arbiter. -/

namespace Sys2Proof.Machine

open Sys2Proof

/-! ### Sources stay queued (R167) -/

/-- Every source that is queued in s is queued in t. -/
structure State.keepsQueued (s t : State) : Prop where
  mem : ∀ src ∈ s.port.urgent ++ s.port.routine, src ∈ t.port.urgent ++ t.port.routine

theorem State.keepsQueued.of_port {s t : State} (h : t.port = s.port) : s.keepsQueued t := ⟨fun _ hm => by rwa [h]⟩

theorem State.keepsQueued.refl (s : State) : s.keepsQueued s := .of_port rfl

theorem State.keepsQueued.trans {s t v : State} (h : s.keepsQueued t) (h' : t.keepsQueued v) : s.keepsQueued v :=
  ⟨fun src hm => h'.mem src (h.mem src hm)⟩

/-- An operation that keeps what is queued, after one that leaves the port alone. -/
theorem State.keepsQueued.after {s t v : State} (h : t.keepsQueued v) (hp : t.port = s.port) : s.keepsQueued v :=
  (State.keepsQueued.of_port hp).trans h

theorem State.raise_keepsQueued (s : State) (src : Source) (u : Urgency) : s.keepsQueued (s.raise src u) :=
  ⟨fun _ hm => s.port.mem_raise_of_mem src u hm⟩

theorem State.openRecord_keepsQueued (s : State) (z : ZoneId) (k : EventKind) (late : Bool) :
    s.keepsQueued (s.openRecord z k late) := by
  unfold State.openRecord
  split
  · exact .refl s
  · exact (State.raise_keepsQueued ..).after rfl

theorem State.servePending_keepsQueued (s : State) : s.keepsQueued s.servePending := by
  unfold State.servePending
  split
  · exact (State.openRecord_keepsQueued ..).after rfl
  · exact .refl s

theorem State.removeRecord_keepsQueued (s : State) (p : Place) (e : EventRecord) :
    s.keepsQueued (s.removeRecord p e) :=
  (State.servePending_keepsQueued _).after rfl

theorem State.eventRise_keepsQueued (s : State) (z : ZoneId) (wet : Bool) : s.keepsQueued (s.eventRise z wet) := by
  unfold State.eventRise
  repeat' split
  all_goals
    first
    | exact .of_port rfl
    | exact (State.raise_keepsQueued ..).after rfl
    | exact s.openRecord_keepsQueued ..

theorem State.trackMargin_port (s : State) (z : ZoneId) : (s.trackMargin z).port = s.port := by
  unfold State.trackMargin
  repeat' split
  all_goals rfl

theorem State.markDataLost_port (s : State) (z : ZoneId) : (s.markDataLost z).port = s.port := by
  unfold State.markDataLost
  repeat' split
  all_goals rfl

theorem State.eventFall_keepsQueued (s : State) (z : ZoneId) (cause : ClearCause) :
    s.keepsQueued (s.eventFall z cause) := by
  unfold State.eventFall
  dsimp only
  repeat' split
  all_goals
    first
    | exact .of_port rfl
    | exact (State.raise_keepsQueued ..).after rfl
    | exact ((State.removeRecord_keepsQueued ..).trans (State.raise_keepsQueued ..)).after rfl

/-- A grade change takes no source out of the queue (R129, R167). -/
theorem State.eventGradeChange_keepsQueued (s : State) (z : ZoneId) (g : Grade) :
    s.keepsQueued (s.eventGradeChange z g) := by
  have hfall (cause : ClearCause) : s.keepsQueued ((s.trackMargin z).eventFall z cause) :=
    (State.eventFall_keepsQueued ..).after (s.trackMargin_port z)
  have hrise (wet : Bool) : s.keepsQueued ((s.eventRise z wet).trackMargin z) :=
    (s.eventRise_keepsQueued z wet).trans (.of_port (State.trackMargin_port ..))
  unfold State.eventGradeChange
  cases g with
  | off => exact s.eventFall_keepsQueued ..
  | stale => exact .of_port (s.markDataLost_port z)
  | clear => exact hfall _
  | watch => exact hfall _
  | alarm => exact hrise _
  | wet => exact hrise _

theorem State.linesOnly.keepsQueued {s t : State} (h : s.linesOnly t) : s.keepsQueued t := by
  obtain ⟨⟨ls, rfl⟩, -⟩ := h
  exact .of_port rfl

theorem State.handOn_keepsQueued (s : State) (z : ZoneId) (before : ZoneRecord) :
    s.keepsQueued (s.handOn z before) := by
  unfold State.handOn
  split
  · unfold State.marginHandover
    split
    · exact .of_port (State.trackMargin_port ..)
    · exact (s.recomputeProportionalOf_linesOnly z).keepsQueued.trans (.of_port (State.trackMargin_port ..))
  · exact (((s.raise_keepsQueued ..).trans (State.eventGradeChange_keepsQueued ..)).trans
      (State.recomputeLinesOf_linesOnly ..).keepsQueued).trans (.of_port rfl)

/-- An evaluation takes no source out of the queue. -/
theorem State.evaluateAt_keepsQueued (s : State) (a : Addr) : s.keepsQueued (s.evaluateAt a) := by
  unfold State.evaluateAt State.evaluate
  repeat' split
  all_goals
    first
    | exact .refl s
    | exact (State.handOn_keepsQueued ..).after rfl

theorem State.ordersOnly.keepsQueued {s t : State} (h : s.ordersOnly t) : s.keepsQueued t := by
  obtain ⟨ks, fs, rfl⟩ := h
  exact ⟨fun _ hm => hm⟩

/-! ### The arbiter (R164, R165) -/

theorem State.arbitrate_itemKeeps (s : State) : s.itemKeeps s.arbitrate := by
  unfold State.arbitrate
  repeat' split
  all_goals exact ⟨rfl, rfl, rfl, rfl, rfl, rfl, rfl, rfl, rfl⟩

/-- What a notice carries does not depend on the port (R165). -/
theorem State.noticeBody_setPort (s : State) (p : Port) (src : Source) :
    (s.setPort p).noticeBody src = s.noticeBody src := by
  cases src <;> rfl

theorem State.noticeBody_arbitrate (s : State) (src : Source) : s.arbitrate.noticeBody src = s.noticeBody src := by
  rw [s.arbitrate_eq, State.noticeBody_setPort]

/-- A reply-class frame that waits or is being sent still does after the arbiter's choice. -/
theorem State.mem_outgoing_arbitrate (s : State) {f : OutFrame} (h : f ∈ s.port.outgoing) :
    f ∈ s.arbitrate.port.outgoing := by
  unfold State.arbitrate
  split
  · exact h
  · next hfree =>
    have hline : s.port.line = none := by
      cases hl : s.port.line with
      | none => rfl
      | some g => simp [hl] at hfree
    split
    · next g rest hr => simpa [Port.outgoing, State.setPort, Port.send, hline, hr] using h
    · next hr => simp [Port.outgoing, hline, hr] at h

/-- The arbiter leaves the notice queue alone, or sends the notice at its head (R164). -/
theorem State.arbitrate_sends_or_keeps (s : State) :
    (s.arbitrate.port.urgent = s.port.urgent ∧ s.arbitrate.port.routine = s.port.routine)
      ∨ ∃ src, s.arbitrate.port.line = some (s.noticeFrame src)
          ∧ s.port.urgent ++ s.port.routine = src :: (s.arbitrate.port.urgent ++ s.arbitrate.port.routine)
          ∧ ∀ x ∈ s.port.urgent, x = src ∨ x ∈ s.arbitrate.port.urgent := by
  unfold State.arbitrate
  split
  · exact .inl ⟨rfl, rfl⟩
  · split
    · exact .inl ⟨rfl, rfl⟩
    · split
      · next src rest hu =>
        refine .inr ⟨src, rfl, ?_, fun x hx => ?_⟩
        · rw [hu]
          rfl
        · rw [hu] at hx
          exact List.mem_cons.mp hx
      · next hu =>
        split
        · next src rest hr =>
          refine .inr ⟨src, rfl, ?_, fun x hx => ?_⟩
          · rw [hr]
            show s.port.urgent ++ src :: rest = src :: (s.port.urgent ++ rest)
            rw [hu]
            rfl
          · rw [hu] at hx
            cases hx
        · exact .inl ⟨rfl, rfl⟩

/-- The notice of a queued source waits on, or goes out with what the source shows now. -/
theorem State.noticed_arbitrate {s : State} {src : Source} (h : src ∈ s.port.urgent ++ s.port.routine) :
    s.arbitrate.noticed src := by
  obtain ⟨hu, hr⟩ | ⟨x, hline, hq, -⟩ := s.arbitrate_sends_or_keeps
  · exact .inl (by rwa [hu, hr])
  · rw [hq, List.mem_cons] at h
    obtain rfl | h := h
    · refine .inr ?_
      rw [hline, State.noticeBody_arbitrate]
      rfl
    · exact .inl h

/-- A source raised urgent goes out, or stands in the urgent segment on. -/
theorem State.urgent_arbitrate {s : State} {src : Source} (h : src ∈ s.port.urgent) :
    s.arbitrate.port.line = some ⟨.notice src, src.kind, 0, s.arbitrate.noticeBody src⟩
      ∨ src ∈ s.arbitrate.port.urgent := by
  obtain ⟨hu, -⟩ | ⟨x, hline, -, hk⟩ := s.arbitrate_sends_or_keeps
  · exact .inr (by rwa [hu])
  · obtain rfl | h := hk src h
    · refine .inl ?_
      rw [hline, State.noticeBody_arbitrate]
      rfl
    · exact .inr h

end Sys2Proof.Machine
end

section
/-! What the end of an item leaves of the order slots and of the frames that wait (R14, R35, R36, R39), and of the
probes, the zones and what they hand on (R12, R49). -/

namespace Sys2Proof.Machine

open Sys2Proof

/-! ### A list of points settles -/

/-- An order slot after points of its order have settled, one after another. -/
def OrderSlot.settledAll (o : OrderSlot) (ys : List (Nat × PointOutcome)) : OrderSlot :=
  ys.foldl (fun o y => o.settled y.1 y.2) o

/-- An order after points of it have settled that leave some outstanding. -/
def SurveyOrder.settleAll (q : SurveyOrder) (ys : List (Nat × PointOutcome)) : SurveyOrder :=
  { q with outcomes := ys.foldl (fun os y => os.set y.1 (some y.2)) q.outcomes,
           outstanding := q.outstanding - ys.length }

/-- An order is held on while points are outstanding (R35). -/
theorem OrderSlot.settledAll_held (q : SurveyOrder) (ys : List (Nat × PointOutcome))
    (h : ys.length < max 1 q.outstanding) : (OrderSlot.held q).settledAll ys = .held (q.settleAll ys) := by
  induction ys generalizing q with
  | nil => rfl
  | cons y ys ih =>
    rw [List.length_cons] at h
    have hstep : (OrderSlot.held q).settled y.1 y.2 = .held (q.settle y.1 y.2) := by
      unfold OrderSlot.settled
      exact if_neg (by omega)
    have hout : (q.settle y.1 y.2).outstanding = q.outstanding - 1 := rfl
    have hlast : (q.settle y.1 y.2).settleAll ys = q.settleAll (y :: ys) := by
      simp only [SurveyOrder.settleAll, SurveyOrder.settle, List.foldl_cons, List.length_cons, Nat.sub_sub,
        Nat.add_comm 1]
    rw [OrderSlot.settledAll, List.foldl_cons, hstep, ← hlast]
    exact ih _ (by rw [hout]; omega)

/-- The report frame of an order in slot k whose last outstanding point settles among `ys` (R36). -/
def SurveyOrder.reportAfter (k : SlotId) (q : SurveyOrder) (ys : List (Nat × PointOutcome)) : OutFrame :=
  surveyFrame k (q.settleAll (ys.take (max 1 q.outstanding)))

/-- From s to t points settle in the slots, `ys k` in slot k, in this order; the orders that complete are reported; and
no frame that waits is lost (R35, R36, R39). -/
structure State.settles (s : State) (ys : SlotId → List (Nat × PointOutcome)) (t : State) : Prop where
  slots  : ∀ k, t.slot k = (s.slot k).settledAll (ys k)
  report : ∀ k q, s.slot k = .held q → max 1 q.outstanding ≤ (ys k).length → q.reportAfter k (ys k) ∈ t.port.outgoing
  frames : ∀ f ∈ s.port.outgoing, f ∈ t.port.outgoing

theorem State.settles.trans {s t v : State} {ys zs : SlotId → List (Nat × PointOutcome)} (h : s.settles ys t)
    (h' : t.settles zs v) : s.settles (fun k => ys k ++ zs k) v where
  slots := fun k => by rw [h'.slots, h.slots, OrderSlot.settledAll, OrderSlot.settledAll, OrderSlot.settledAll,
    List.foldl_append]
  report := fun k q hq hle => by
    by_cases hdone : max 1 q.outstanding ≤ (ys k).length
    · have hframe := h'.frames _ (h.report k q hq hdone)
      rwa [SurveyOrder.reportAfter, ← List.take_append_of_le_length (l₂ := zs k) hdone] at hframe
    · rw [List.length_append] at hle
      have hheld : t.slot k = .held (q.settleAll (ys k)) := by
        rw [h.slots, hq, OrderSlot.settledAll_held _ _ (by omega)]
      have hout : (q.settleAll (ys k)).outstanding = q.outstanding - (ys k).length := rfl
      have hframe := h'.report k _ hheld (by rw [hout]; omega)
      have hsame : (q.settleAll (ys k)).reportAfter k (zs k) = q.reportAfter k (ys k ++ zs k) := by
        have htake : (ys k ++ zs k).take (max 1 q.outstanding)
            = ys k ++ (zs k).take (max 1 (q.outstanding - (ys k).length)) := by
          rw [List.take_append, List.take_of_length_le (by omega)]
          congr 2
          omega
        rw [SurveyOrder.reportAfter, SurveyOrder.reportAfter, htake, hout]
        simp only [SurveyOrder.settleAll, surveyFrame, SurveyOrder.report, List.foldl_append]
      rwa [hsame] at hframe
  frames := fun f hf => h'.frames f (h.frames f hf)

/-- Nothing settles where the slots stay and no frame is lost. -/
theorem State.settles.of_slots {s t : State} (hs : t.slots = s.slots)
    (hf : ∀ f ∈ s.port.outgoing, f ∈ t.port.outgoing) : s.settles (fun _ => []) t where
  slots := fun k => congrArg (·.get k) hs
  report := fun k q _ hle => by
    rw [List.length_nil] at hle
    omega
  frames := hf

theorem State.settles.refl (s : State) : s.settles (fun _ => []) s := .of_slots rfl fun _ h => h

/-- Operations that leave the slots and the frames alone, before and after what settles. -/
theorem State.settles.then_keeps {s t v : State} {ys : SlotId → List (Nat × PointOutcome)} (h : s.settles ys t)
    (h' : t.settles (fun _ => []) v) : s.settles ys v := by
  simpa using h.trans h'

theorem State.settles.after_keeps {s t v : State} {ys : SlotId → List (Nat × PointOutcome)} (h : t.settles ys v)
    (h' : s.settles (fun _ => []) t) : s.settles ys v := by
  simpa using h'.trans h

/-- One point settles (R35, R36). -/
theorem State.settlePoint_settles (s : State) (k : SlotId) (n : Nat) (x : PointOutcome) :
    s.settles (fun j => if k = j then [(n, x)] else []) (s.settlePoint k n x) where
  slots := fun j => by
    rw [State.slot_settlePoint]
    by_cases h : j = k
    · subst h
      simp [OrderSlot.settledAll]
    · simp [OrderSlot.settledAll, h, Ne.symm h]
  report := fun j q hq hle => by
    by_cases h : k = j
    · subst h
      rw [if_pos rfl, List.length_singleton] at hle
      have hzero : (q.settle n x).outstanding = 0 := by
        show q.outstanding - 1 = 0
        omega
      have hone : max 1 q.outstanding = 1 := by omega
      rw [State.settlePoint, hq]
      dsimp only
      rw [State.holdOrder, if_pos hzero, if_pos rfl, SurveyOrder.reportAfter, hone]
      exact List.mem_append_right _ (List.mem_append_right _ (List.mem_singleton_self _))
    · rw [if_neg h, List.length_nil] at hle
      omega
  frames := fun f hf => by
    obtain ⟨ks, fs, h⟩ := s.settlePoint_ordersOnly k n x
    rw [h]
    obtain hf | hf := List.mem_append.mp hf
    exacts [List.mem_append_left _ hf, List.mem_append_right _ (List.mem_append_left _ hf)]

/-- An item settles its point, if it stands for one (R12, R35). -/
theorem State.settleItem_settles (s : State) (i : Item) (x : PointOutcome) :
    s.settles (fun k => settledPoints k x [i]) (s.settleItem i x) := by
  have hpoints : (fun k => settledPoints k x [i]) = fun k =>
      match i.origin with
      | .survey j n => if j = k then [(n, x)] else []
      | .scan => [] := by
    funext k
    unfold settledPoints
    rw [List.filterMap_cons, List.filterMap_nil]
    cases i.origin with
    | scan => rfl
    | survey j n => by_cases h : j = k <;> simp [h]
  rw [hpoints]
  unfold State.settleItem
  cases i.origin with
  | scan => exact .refl s
  | survey k n => exact s.settlePoint_settles k n x

theorem settledPoints_cons (k : SlotId) (x : PointOutcome) (i : Item) (items : List Item) :
    settledPoints k x (i :: items) = settledPoints k x [i] ++ settledPoints k x items := by
  unfold settledPoints
  rw [← List.filterMap_append]
  rfl

/-- The SURVEY items that waited at a halt settle from the head of the list to its tail (R14; assumption 28). -/
theorem State.settleAllHalted_settles (s : State) (items : List Item) :
    s.settles (fun k => settledPoints k ⟨.trunkHalted, none⟩ items) (s.settleAllHalted items) := by
  unfold State.settleAllHalted
  induction items generalizing s with
  | nil => exact .refl s
  | cons i items ih =>
    have hhead := s.settleItem_settles i ⟨.trunkHalted, none⟩
    rw [← State.settleHalted_eq] at hhead
    have hall := hhead.trans (ih (s.settleHalted i))
    simp only [← settledPoints_cons] at hall
    exact hall

theorem State.evaluationKeeps.settles {s t : State} (h : s.evaluationKeeps t) : s.settles (fun _ => []) t :=
  .of_slots h.slots fun f hf => by
    rw [h.port]
    exact hf

theorem State.raise_settles (s : State) (src : Source) (u : Urgency) : s.settles (fun _ => []) (s.raise src u) :=
  .of_slots rfl fun f hf => by
    rw [State.raise_eq]
    exact hf

theorem State.arbitrate_settles (s : State) : s.settles (fun _ => []) s.arbitrate :=
  .of_slots (by rw [s.arbitrate_eq]; rfl) fun _ => s.mem_outgoing_arbitrate

/-! ### The Probe Table is handed an outcome (R12, R45, R47 to R49) -/

/-- t differs from s only in the engines, the order slots and the port. -/
def State.trunksOnly (s t : State) : Prop :=
  ∃ es ks p, t = { s with engines := es, slots := ks, port := p }

theorem State.trunksOnly.refl (s : State) : s.trunksOnly s := ⟨s.engines, s.slots, s.port, rfl⟩

theorem State.trunksOnly.trans {s t v : State} (h : s.trunksOnly t) (h' : t.trunksOnly v) : s.trunksOnly v := by
  obtain ⟨es, ks, p, rfl⟩ := h
  obtain ⟨es', ks', p', rfl⟩ := h'
  exact ⟨es', ks', p', rfl⟩

theorem State.setEngine_trunksOnly (s : State) (t : Trunk) (e : Engine) : s.trunksOnly (s.setEngine t e) :=
  ⟨s.engines.set t e, s.slots, s.port, rfl⟩

theorem State.raise_trunksOnly (s : State) (src : Source) (u : Urgency) : s.trunksOnly (s.raise src u) :=
  ⟨s.engines, s.slots, s.port.raise src u, rfl⟩

theorem State.ordersOnly.trunksOnly {s t : State} (h : s.ordersOnly t) : s.trunksOnly t := by
  obtain ⟨ks, fs, rfl⟩ := h
  exact ⟨s.engines, ks, _, rfl⟩

theorem State.arbitrate_trunksOnly (s : State) : s.trunksOnly s.arbitrate :=
  ⟨s.engines, s.slots, s.arbitrate.port, s.arbitrate_eq⟩

/-- From s to t an outcome has been handed to the Probe Table: `p` is the record at the address after it, and `applied`
says whether the outcome was applied, so that the zone of the address is evaluated (R12, R49). -/
structure State.probeHanded (s : State) (a : Addr) (p : ProbeRecord) (applied : Prop) (t : State) : Prop where
  probe     : t.probe a = p
  probes    : ∀ b, b ≠ a → t.probe b = s.probe b
  evaluated : applied → ∀ z, s.map.lookup a = some z → (s.zone z).enabled = true →
    t.zone z = ({ s with probes := t.probes } : State).zoneEvaluated z .ordinary
  zones     : ∀ z, (applied → s.map.lookup a = some z → (s.zone z).enabled = false) → t.zone z = s.zone z
  unapplied : ¬ applied → t.events = s.events ∧ t.lines = s.lines ∧ t.leak = s.leak

/-- What happens on the trunks and the port before and after does not matter. -/
theorem State.probeHanded.of_trunksOnly {s s' t t' : State} {a : Addr} {p : ProbeRecord} {applied : Prop}
    (hs : s.trunksOnly s') (h : s'.probeHanded a p applied t) (ht : t.trunksOnly t') :
    s.probeHanded a p applied t' := by
  obtain ⟨es, ks, q, rfl⟩ := hs
  obtain ⟨es', ks', q', rfl⟩ := ht
  exact ⟨h.probe, h.probes, h.evaluated, h.zones, h.unapplied⟩

/-- An outcome that is not applied. -/
theorem State.probeHanded_refl (s : State) (a : Addr) {applied : Prop} (h : ¬ applied) :
    s.probeHanded a (s.probe a) applied s :=
  ⟨rfl, fun _ _ => rfl, fun ha => absurd ha h, fun _ _ => rfl, fun _ => ⟨rfl, rfl, rfl⟩⟩

/-- The zones after an evaluation of one of them (R93). -/
theorem State.zone_evaluate (s : State) (z y : ZoneId) (cause : EvalCause) : (s.evaluate z cause).zone y =
    if y = z ∧ (s.zone z).enabled = true then s.zoneEvaluated z cause else s.zone y := by
  unfold State.evaluate
  by_cases he : (s.zone z).enabled = true
  · rw [if_pos he, State.zone, (State.handOn_handedOn ..).zones]
    show (s.setZone z (s.zoneEvaluated z cause)).zone y = _
    by_cases hy : y = z
    · rw [if_pos ⟨hy, he⟩, hy, State.zone_setZone_same]
    · rw [if_neg (fun h => hy h.1), State.zone_setZone_of_ne _ _ hy]
  · rw [if_neg he, if_neg (fun h => he h.2)]

/-- The zones after the evaluation of the zone that an address looks up to (R49). -/
theorem State.zone_evaluateAt (s : State) (a : Addr) (y : ZoneId) : (s.evaluateAt a).zone y =
    if s.map.lookup a = some y ∧ (s.zone y).enabled = true then s.zoneEvaluated y .ordinary else s.zone y := by
  unfold State.evaluateAt
  cases hz : s.map.lookup a with
  | none => simp
  | some z =>
    dsimp only
    rw [State.zone_evaluate]
    by_cases hy : z = y
    · subst hy
      simp
    · simp [hy, Ne.symm hy]

/-- A record is written and its zone evaluated, whatever is raised in between. -/
theorem State.evaluateAt_probeHanded {s u : State} {a : Addr} {p : ProbeRecord} {applied : Prop} (h : applied)
    (hu : (s.setProbe a p).trunksOnly u) : s.probeHanded a p applied (u.evaluateAt a) := by
  have hprobes : (u.evaluateAt a).probes = (s.setProbe a p).probes := by
    rw [(u.evaluateAt_keeps a).probes]
    obtain ⟨es, ks, q, rfl⟩ := hu
    rfl
  have hmap : u.map = s.map ∧ u.zone = s.zone ∧ ∀ z, u.zoneEvaluated z .ordinary =
      ({ s with probes := (s.setProbe a p).probes } : State).zoneEvaluated z .ordinary := by
    obtain ⟨es, ks, q, rfl⟩ := hu
    exact ⟨rfl, rfl, fun _ => rfl⟩
  obtain ⟨hmap, hzone, heval⟩ := hmap
  have hprobe (b : Addr) : (u.evaluateAt a).probe b = (s.setProbe a p).probe b := by
    rw [State.probe, hprobes]
    rfl
  have hat (z : ZoneId) := u.zone_evaluateAt a z
  rw [hmap, hzone] at hat
  refine ⟨?_, fun b hb => ?_, fun _ z hz he => ?_, fun z hz => ?_, fun hn => absurd h hn⟩
  · rw [hprobe, State.probe_setProbe_same]
  · rw [hprobe, State.probe_setProbe_of_ne _ _ hb]
  · rw [hat, if_pos ⟨hz, he⟩, hprobes, heval]
  · rw [hat, if_neg]
    rintro ⟨hlookup, he⟩
    exact absurd (hz h hlookup) (by simp [he])

end Sys2Proof.Machine
end

section
/-! The end of an item: the record that its address has after it, what is raised, and what becomes of the rest of the
part (R10 to R14, R35, R36, R45 to R49). -/

namespace Sys2Proof.Machine

open Sys2Proof

theorem Table.set_set {α : Type} {n : Nat} (t : Table α n) (i : Fin n) (x y : α) : (t.set i x).set i y = t.set i y :=
  Table.ext_get fun j => by
    rw [Table.get_set, Table.get_set, Table.get_set]
    split <;> rfl

theorem State.setEngine_setEngine (s : State) (t : Trunk) (e e' : Engine) :
    (s.setEngine t e).setEngine t e' = s.setEngine t e' := by
  show ({ s with engines := (s.engines.set t e).set t e' } : State) = { s with engines := s.engines.set t e' }
  rw [Table.set_set]

/-! ### The Probe Table is handed one outcome (R12, R45, R47 to R49) -/

/-- The outcomes that count as a failure of the probe (R47). -/
def ProbeOutcome.isFailure (o : ProbeOutcome) : Prop := o = .noAnswer ∨ o = .badCheck ∨ o = .kindMismatch

theorem State.handToProbe_of_undefined {s : State} {a : Addr} (h : (s.probe a).config = none) (res : AttemptResult)
    (o : ProbeOutcome) : s.handToProbe a res o = s := by
  rw [State.handToProbe, h]

theorem State.handToProbe_notReadyLimit (s : State) (a : Addr) (res : AttemptResult) :
    s.handToProbe a res .notReadyLimit = s := by
  unfold State.handToProbe
  split <;> rfl

theorem State.handToProbe_stored {s : State} {a : Addr} {c : ProbeConfig} (h : (s.probe a).config = some c)
    {res : AttemptResult} {raw : RawReading} (hr : res.reading = some raw) {o : ProbeOutcome}
    (ho : o = .good ∨ o = .tainted) :
    s.handToProbe a res o = (s.storeReading a c o raw res.time).evaluateAt a := by
  rw [State.handToProbe, h]
  obtain rfl | rfl := ho
  all_goals
    dsimp only [State.applyOutcome]
    rw [hr]

theorem State.handToProbe_failed {s : State} {a : Addr} (h : (s.probe a).config ≠ none) (res : AttemptResult)
    {o : ProbeOutcome} (ho : o.isFailure) :
    s.handToProbe a res o = (s.failProbe a o res.kind).evaluateAt a := by
  obtain ⟨c, hc⟩ := Option.ne_none_iff_exists'.mp h
  rw [State.handToProbe, hc]
  obtain rfl | rfl | rfl := ho <;> rfl

/-- The record after a failure with the trunk's fault threshold (R47). -/
def State.failedRecord (s : State) (a : Addr) (o : ProbeOutcome) (answered : Option Kind) : ProbeRecord :=
  (s.probe a).failed o answered (s.engine a.trunk).settings.faultThreshold

/-- The record after a reading (R45, R46). -/
def State.storedRecord (s : State) (a : Addr) (c : ProbeConfig) (o : ProbeOutcome) (raw : RawReading) (taken : Nat) :
    ProbeRecord :=
  (s.probe a).stored (storedReading c raw taken) o (s.filterWeight a) s.scan.maxAge

/-- A record is written, and its probe's notice raised where `raises` says so. -/
def State.writeProbe (s : State) (a : Addr) (p : ProbeRecord) (raises : Bool) : State :=
  if raises then (s.setProbe a p).raise (.probe a) .routine else s.setProbe a p

theorem State.failProbe_eq (s : State) (a : Addr) (o : ProbeOutcome) (answered : Option Kind) :
    s.failProbe a o answered = s.writeProbe a (s.failedRecord a o answered)
      (failureRaises o (s.probe a).state (s.failedRecord a o answered).state) := rfl

theorem State.storeReading_eq (s : State) (a : Addr) (c : ProbeConfig) (o : ProbeOutcome) (raw : RawReading)
    (taken : Nat) :
    s.storeReading a c o raw taken =
      s.writeProbe a (s.storedRecord a c o raw taken) (s.probe a).state.failing := rfl

theorem State.writeProbe_trunksOnly (s : State) (a : Addr) (p : ProbeRecord) (raises : Bool) :
    (s.setProbe a p).trunksOnly (s.writeProbe a p raises) := by
  unfold State.writeProbe
  split
  exacts [State.raise_trunksOnly .., ⟨s.engines, s.slots, s.port, rfl⟩]

theorem State.writeProbe_settles (s : State) (a : Addr) (p : ProbeRecord) (raises : Bool) :
    s.settles (fun _ => []) (s.writeProbe a p raises) := by
  have hset : s.settles (fun _ => []) (s.setProbe a p) := .of_slots rfl fun _ h => h
  unfold State.writeProbe
  split
  exacts [hset.then_keeps (State.raise_settles ..), hset]

theorem State.writeProbe_queued {s : State} {a : Addr} (p : ProbeRecord) {raises : Bool} (h : raises = true)
    (hm : s.port.mask.probe = true) :
    .probe a ∈ ((s.writeProbe a p raises).evaluateAt a).port.urgent
      ++ ((s.writeProbe a p raises).evaluateAt a).port.routine := by
  refine (State.evaluateAt_keepsQueued ..).mem _ ?_
  rw [State.writeProbe, if_pos h]
  exact Port.mem_raise _ _ _ hm

/-- What the Probe Table is handed touches no order slot, and no frame that waits. -/
theorem State.handToProbe_settles (s : State) (a : Addr) (res : AttemptResult) (o : ProbeOutcome) :
    s.settles (fun _ => []) (s.handToProbe a res o) := by
  have hwritten (p : ProbeRecord) (raises : Bool) :
      s.settles (fun _ => []) ((s.writeProbe a p raises).evaluateAt a) :=
    (s.writeProbe_settles a p raises).then_keeps (State.evaluateAt_keeps ..).settles
  unfold State.handToProbe State.applyOutcome
  simp only [State.failProbe_eq, State.storeReading_eq]
  repeat' split
  all_goals
    first
    | exact .refl s
    | exact hwritten _ _

/-! ### An item leaves its trunk (R12) -/

/-- The part when an item has left the engine of its trunk and its outcome has been handed to the Probe Table. -/
def State.leaves (s : State) (t : Trunk) (e : Engine) (i : Item) (res : AttemptResult) (o : ProbeOutcome) : State :=
  (s.setEngine t e.itemLeft).handToProbe ⟨t, i.drop⟩ res o

theorem State.finalise_eq (s : State) (t : Trunk) (e : Engine) (i : Item) (res : AttemptResult) (o : ProbeOutcome) :
    (s.setEngine t e).finalise t i res o = (s.leaves t e i res o).settleItem i ⟨o, some res⟩ := by
  rw [State.finalise, State.handOut_eq, State.engine_setEngine_same, State.setEngine_setEngine]
  rfl

theorem State.finalise_settles (s : State) (t : Trunk) (e : Engine) (i : Item) (res : AttemptResult)
    (o : ProbeOutcome) :
    s.settles (fun k => settledPoints k ⟨o, some res⟩ [i]) ((s.setEngine t e).finalise t i res o) := by
  have hset : s.settles (fun _ => []) (s.setEngine t e.itemLeft) := .of_slots rfl fun _ h => h
  rw [State.finalise_eq]
  exact (State.settleItem_settles ..).after_keeps (hset.then_keeps (State.handToProbe_settles ..))

theorem State.finalise_trunksOnly (s : State) (t : Trunk) (e : Engine) (i : Item) (res : AttemptResult)
    (o : ProbeOutcome) : (s.leaves t e i res o).trunksOnly ((s.setEngine t e).finalise t i res o) := by
  rw [State.finalise_eq]
  exact (State.settleItem_ordersOnly ..).trunksOnly

theorem State.finalise_keepsQueued (s : State) (t : Trunk) (e : Engine) (i : Item) (res : AttemptResult)
    (o : ProbeOutcome) : (s.leaves t e i res o).keepsQueued ((s.setEngine t e).finalise t i res o) := by
  rw [State.finalise_eq]
  exact (State.settleItem_ordersOnly ..).keepsQueued

/-- Where no probe is defined nothing is applied. -/
theorem State.leaves_undefined {s : State} {t : Trunk} {i : Item} (h : (s.probe ⟨t, i.drop⟩).config = none)
    (e : Engine) (res : AttemptResult) (o : ProbeOutcome) {applied : Prop} (ha : ¬ applied) :
    s.probeHanded ⟨t, i.drop⟩ (s.probe ⟨t, i.drop⟩) applied (s.leaves t e i res o) := by
  have hset := s.setEngine_trunksOnly t e.itemLeft
  rw [State.leaves, State.handToProbe_of_undefined (s := s.setEngine t e.itemLeft) h]
  exact (s.probeHanded_refl _ ha).of_trunksOnly (.refl _) hset

/-- NOT_READY_LIMIT is not applied (R48). -/
theorem State.leaves_notReadyLimit (s : State) (t : Trunk) (e : Engine) (i : Item) (res : AttemptResult) :
    s.probeHanded ⟨t, i.drop⟩ (s.probe ⟨t, i.drop⟩) False (s.leaves t e i res .notReadyLimit) := by
  have hset := s.setEngine_trunksOnly t e.itemLeft
  rw [State.leaves, State.handToProbe_notReadyLimit]
  exact (s.probeHanded_refl _ id).of_trunksOnly (.refl _) hset

/-- A record is written after the item has left its engine, and its zone evaluated. -/
theorem State.writeProbe_probeHanded (s : State) (t : Trunk) (e : Engine) (a : Addr) (p : ProbeRecord) (raises : Bool)
    {applied : Prop} (h : applied) :
    s.probeHanded a p applied (((s.setEngine t e).writeProbe a p raises).evaluateAt a) :=
  .of_trunksOnly (s.setEngine_trunksOnly t e) (State.evaluateAt_probeHanded h (State.writeProbe_trunksOnly ..))
    (.refl _)

/-- A failure is applied to a defined record, and raises the probe's notice as R47 says. -/
theorem State.leaves_failed {s : State} {t : Trunk} {i : Item} (h : (s.probe ⟨t, i.drop⟩).config ≠ none)
    {e : Engine} (he : e.settings = (s.engine t).settings) (res : AttemptResult) {o : ProbeOutcome} (ho : o.isFailure)
    {applied : Prop} (ha : applied) :
    s.probeHanded ⟨t, i.drop⟩ (s.failedRecord ⟨t, i.drop⟩ o res.kind) applied (s.leaves t e i res o)
      ∧ (s.port.mask.probe = true →
          failureRaises o (s.probe ⟨t, i.drop⟩).state (s.failedRecord ⟨t, i.drop⟩ o res.kind).state = true →
          .probe ⟨t, i.drop⟩ ∈ (s.leaves t e i res o).port.urgent ++ (s.leaves t e i res o).port.routine) := by
  have hrecord : (s.setEngine t e.itemLeft).failedRecord ⟨t, i.drop⟩ o res.kind
      = s.failedRecord ⟨t, i.drop⟩ o res.kind := by
    rw [State.failedRecord, State.failedRecord, State.engine_setEngine_same, ← he]
    rfl
  rw [State.leaves, State.handToProbe_failed (s := s.setEngine t e.itemLeft) h res ho, State.failProbe_eq, hrecord]
  exact ⟨s.writeProbe_probeHanded t _ _ _ _ ha, fun hm hr => State.writeProbe_queued _ hr hm⟩

/-- A reading is stored in a defined record, and raises the notice of a probe that was failing (R45). -/
theorem State.leaves_stored {s : State} {t : Trunk} {i : Item} {c : ProbeConfig}
    (h : (s.probe ⟨t, i.drop⟩).config = some c) (e : Engine) {res : AttemptResult} {raw : RawReading}
    (hr : res.reading = some raw) {o : ProbeOutcome} (ho : o = .good ∨ o = .tainted) {applied : Prop} (ha : applied) :
    s.probeHanded ⟨t, i.drop⟩ (s.storedRecord ⟨t, i.drop⟩ c o raw res.time) applied (s.leaves t e i res o)
      ∧ (s.port.mask.probe = true → (s.probe ⟨t, i.drop⟩).state.failing = true →
          .probe ⟨t, i.drop⟩ ∈ (s.leaves t e i res o).port.urgent ++ (s.leaves t e i res o).port.routine) := by
  rw [State.leaves, State.handToProbe_stored (s := s.setEngine t e.itemLeft) h hr ho, State.storeReading_eq]
  exact ⟨s.writeProbe_probeHanded t _ _ _ _ ha, fun hm hf => State.writeProbe_queued _ hf hm⟩

/-! ### The end of an attempt -/

/-- What the statements say of the end of an item, from what it does to the slots and to the Probe Table. -/
theorem State.endAttempt_itemEnds {s : State} {t : Trunk} {i : Item} {res : AttemptResult} {x : PointOutcome}
    {dropped : List Item} {p : ProbeRecord} {applied : Prop}
    (hp : s.probeHanded ⟨t, i.drop⟩ p applied (s.endAttempt t i res))
    (hs : s.settles (fun k => settledPoints k x [i] ++ settledPoints k ⟨.trunkHalted, none⟩ dropped)
      (s.endAttempt t i res)) :
    s.itemEnds t i x dropped p applied (s.endAttempt t i res).arbitrate := by
  have hkeep := (s.endAttempt_itemKeeps t i res).trans (State.arbitrate_itemKeeps _)
  obtain ⟨hprobe, hprobes, heval, hzones, hunapplied⟩ :=
    State.probeHanded.of_trunksOnly (.refl s) hp (State.arbitrate_trunksOnly _)
  obtain ⟨hslots, hreport, -⟩ := hs.then_keeps (State.arbitrate_settles _)
  exact {
    engines := fun u hu => by
      rw [(State.arbitrate_keepsWork _).engine, State.engine_endAttempt, if_neg hu]
    map := hkeep.map
    scan := hkeep.scan
    store := hkeep.store
    uptime := hkeep.uptime
    defaulted := hkeep.defaulted
    power := hkeep.power
    channels := fun c => congrArg (·.get c) hkeep.channels
    probe := hprobe
    probes := hprobes
    slots := hslots
    report := fun k q ys hys hq hle => by
      subst hys
      exact hreport k q hq hle
    evaluated := heval
    zones := hzones
    unapplied := hunapplied }

/-- An attempt that halts nothing leaves what becomes of its item (R10, R11, R14). -/
theorem State.endAttempt_of_not_halting {s : State} {t : Trunk} {i : Item} {res : AttemptResult} {e : Engine}
    (he : e = (s.engine t).transactionEnded res (s.definedAt ⟨t, i.drop⟩))
    (h : e.mustHalt res (s.definedAt ⟨t, i.drop⟩) = false) :
    s.endAttempt t i res = (s.setEngine t e).disposeItem t i res := by
  subst he
  unfold State.endAttempt
  exact if_neg (by simp [h])

/-- An attempt that failed for good ends its item, and halts the trunk where the count asks for it (R13, R14). -/
theorem State.haltTrunk_eq (s : State) (t : Trunk) (e : Engine) (i : Item) (res : AttemptResult) :
    (s.setEngine t e).haltTrunk t i res =
      ((((s.setEngine t e).finalise t i res res.outcome).setEngine t e.itemLeft.halt).settleAllHalted
        e.waitList).raise (.trunk t) .urgent := by
  unfold State.haltTrunk
  dsimp only
  rw [State.engine_finalise, if_pos rfl, State.engine_setEngine_same]
  rfl

end Sys2Proof.Machine
end

section
/-! An answer, or none: what its item, trunk, probe, survey points and zone become (R1, R4, R6, R10 to R14, R21, R35,
R36, R39, R45 to R49). -/

namespace Sys2Proof.Machine

open Sys2Proof

/-- Work on a trunk alone leaves the arbiter nothing to do (R164). -/
theorem State.arbitrate_setEngine {s : State} (h : s.lineSound) (t : Trunk) (e : Engine) :
    (s.setEngine t e).arbitrate = s.setEngine t e :=
  State.arbitrate_of_lineSound _ h

/-! ### An attempt that succeeds or is not ready (R10, R11, R13) -/

theorem Engine.not_mustHalt {res : AttemptResult} (h : res.outcome.failedAttempt = false) (e : Engine)
    (defined : Bool) : e.mustHalt res defined = false := by
  rw [Engine.mustHalt, h]
  rfl

/-- The engine at the end of an attempt that is not a failed one: its count is 0 (R13). -/
theorem Engine.transactionEnded_of_answered {res : AttemptResult} (h : res.outcome.failedAttempt = false) (e : Engine)
    (defined : Bool) : e.transactionEnded res defined = { e with link := .gap, failures := 0 } := by
  rw [Engine.transactionEnded, countAttempt, if_neg (by simp [h])]

/-- An attempt that ends its item with the outcome o, and is not a failed one (R11, R12). -/
theorem State.endAttempt_ends {s : State} {t : Trunk} {i : Item} {res : AttemptResult} {o : ProbeOutcome}
    (hf : res.outcome.failedAttempt = false) (hd : ∀ s' : State, s'.disposeItem t i res = s'.finalise t i res o) :
    s.endAttempt t i res = (s.setEngine t { s.engine t with link := .gap, failures := 0 }).finalise t i res o := by
  rw [State.endAttempt_of_not_halting rfl (Engine.not_mustHalt hf _ _), Engine.transactionEnded_of_answered hf, hd]

/-! ### An attempt that fails (R10, R13, R14, R47) -/

/-- The record after an attempt without an acceptable answer, in the spelling of the statements (R47). -/
theorem State.failedRecord_eq (s : State) (a : Addr) (o : ProbeOutcome) (answered : Option Kind) {count : Nat}
    {state : ProbeState} (hc : count = min ((s.probe a).failures + 1) 15)
    (hs : state = if (s.probe a).state = .faulted then ProbeState.faulted
      else if count < (s.engine a.trunk).settings.faultThreshold then .suspect else .faulted) :
    s.failedRecord a o answered =
      { s.probe a with
          failures := count, last := some o, mismatch := if o = .kindMismatch then answered else none, state := state,
          df := if state = .faulted then none else (s.probe a).df,
          expiry := if state = .faulted then none else (s.probe a).expiry } := by
  subst hc hs
  rfl

/-- The failures that R47 step 4 lets raise the probe's notice. -/
theorem failureRaises_iff (o : ProbeOutcome) (before after : ProbeState) : failureRaises o before after = true ↔
    o = .kindMismatch ∨ (before = .active ∧ after = .suspect) ∨ (before ≠ .faulted ∧ after = .faulted) := by
  simp [failureRaises, or_assoc]

/-- A failed attempt that leaves the trunk running (R10). -/
theorem State.disposeItem_failed {s : State} {t : Trunk} {i : Item} {res : AttemptResult}
    (h : res.outcome = .noAnswer ∨ res.outcome = .badCheck) : s.disposeItem t i res = s.retryOrEnd t i res := by
  unfold State.disposeItem
  obtain h | h := h
  all_goals rw [h]

theorem State.leaves_attempt_failed (s : State) (t : Trunk) {e : Engine} (he : e.settings = (s.engine t).settings)
    (i : Item) (res : AttemptResult) {o : ProbeOutcome} (ho : o.isFailure) :
    ∃ p, s.probeHanded ⟨t, i.drop⟩ p ((s.probe ⟨t, i.drop⟩).config ≠ none) (s.leaves t e i res o)
      ∧ ((s.probe ⟨t, i.drop⟩).config = none → p = s.probe ⟨t, i.drop⟩)
      ∧ ((s.probe ⟨t, i.drop⟩).config ≠ none → p = s.failedRecord ⟨t, i.drop⟩ o res.kind
          ∧ (s.port.mask.probe = true → failureRaises o (s.probe ⟨t, i.drop⟩).state p.state = true →
              .probe ⟨t, i.drop⟩ ∈ (s.leaves t e i res o).port.urgent ++ (s.leaves t e i res o).port.routine)) := by
  by_cases hc : (s.probe ⟨t, i.drop⟩).config = none
  · exact ⟨_, State.leaves_undefined hc e res o (fun h => h hc), fun _ => rfl, fun h => absurd hc h⟩
  · obtain ⟨hp, hq⟩ := State.leaves_failed hc he res ho (applied := (s.probe ⟨t, i.drop⟩).config ≠ none) hc
    exact ⟨_, hp, fun h => absurd h hc, fun _ => ⟨rfl, hq⟩⟩

/-- A failed attempt that is not retried: its item leaves, and at a halt the waiting items settle too (R12, R14). -/
theorem State.endAttempt_final {s : State} {t : Trunk} {i : Item} {res : AttemptResult} {e : Engine} {halts : Bool}
    (h : s.endAttempt t i res =
      if halts then (s.setEngine t e).haltTrunk t i res else (s.setEngine t e).finalise t i res res.outcome) :
    (s.leaves t e i res res.outcome).trunksOnly (s.endAttempt t i res)
      ∧ (s.leaves t e i res res.outcome).keepsQueued (s.endAttempt t i res)
      ∧ s.settles (fun k => settledPoints k ⟨res.outcome, some res⟩ [i]
          ++ settledPoints k ⟨.trunkHalted, none⟩ (if halts then e.waitList else [])) (s.endAttempt t i res)
      ∧ (s.endAttempt t i res).engine t = (if halts then e.itemLeft.halt else e.itemLeft)
      ∧ (halts = true → s.port.mask.trunk = true → .trunk t ∈ (s.endAttempt t i res).port.urgent) := by
  have honly := s.finalise_trunksOnly t e i res res.outcome
  have hqueued := s.finalise_keepsQueued t e i res res.outcome
  have hsettles := s.finalise_settles t e i res res.outcome
  have hmask := ((s.setEngine_itemKeeps t e).trans (State.finalise_itemKeeps _ t i res res.outcome)).mask
  have hengine : ((s.setEngine t e).finalise t i res res.outcome).engine t = e.itemLeft := by
    rw [State.engine_finalise, if_pos rfl, State.engine_setEngine_same]
  rw [h]
  cases halts with
  | false => exact ⟨honly, hqueued, by simpa [settledPoints] using hsettles, hengine, fun h => nomatch h⟩
  | true =>
    simp only [if_true]
    rw [State.haltTrunk_eq]
    generalize (s.setEngine t e).finalise t i res res.outcome = f at honly hqueued hsettles hmask
    have horders := (f.setEngine t e.itemLeft.halt).settleAllHalted_ordersOnly e.waitList
    have hset : f.settles (fun _ => []) (f.setEngine t e.itemLeft.halt) := .of_slots rfl fun _ hf => hf
    refine ⟨?_, ?_, ?_, ?_, fun _ hm => ?_⟩
    · exact ((honly.trans (f.setEngine_trunksOnly ..)).trans horders.trunksOnly).trans (State.raise_trunksOnly ..)
    · exact (hqueued.trans (horders.keepsQueued.after rfl)).trans (State.raise_keepsQueued ..)
    · exact (hsettles.trans ((State.settleAllHalted_settles ..).after_keeps hset)).then_keeps (State.raise_settles ..)
    · rw [(State.raise_keepsWork ..).engine, horders.engine, State.engine_setEngine_same]
    · refine Port.mem_raise_urgent _ _ ?_
      rw [horders.itemKeeps.mask]
      exact (congrArg NoticeMask.trunk hmask).trans hm

/-- What the end of an attempt without an acceptable answer is (R10, R13, R14). -/
theorem State.endAttempt_attemptFails {s : State} {t : Trunk} {i : Item} {res : AttemptResult} (hl : s.lineSound)
    (ho : res.outcome = .noAnswer ∨ res.outcome = .badCheck) :
    s.attemptFails t i res (.next (s.endAttempt t i res).arbitrate) := by
  intro n halts hn hhalts
  have hfailed : res.outcome.failedAttempt = true := by
    obtain h | h := ho
    all_goals
      rw [h]
      rfl
  have hdefined : s.definedAt ⟨t, i.drop⟩ = true ↔ (s.probe ⟨t, i.drop⟩).config ≠ none := Option.isSome_iff_ne_none
  obtain ⟨e, he⟩ : ∃ e : Engine, e = { s.engine t with link := .gap, failures := n } := ⟨_, rfl⟩
  have hended : e = (s.engine t).transactionEnded res (s.definedAt ⟨t, i.drop⟩) := by
    rw [he, Engine.transactionEnded, countAttempt, if_pos hfailed, hn]
    by_cases hc : (s.probe ⟨t, i.drop⟩).config = none
    · rw [if_pos hc, if_neg (fun hd => hdefined.mp hd hc)]
    · rw [if_neg hc, if_pos (hdefined.mpr hc)]
  have hmust : e.mustHalt res (s.definedAt ⟨t, i.drop⟩) = halts := by
    rw [Bool.eq_iff_iff, hhalts, ← hdefined, Engine.mustHalt, hfailed, he]
    simp
  have hattempt : e.attempt = (s.engine t).attempt := by rw [he]
  have hrun (h : halts = false) : s.endAttempt t i res = (s.setEngine t e).retryOrEnd t i res := by
    rw [State.endAttempt_of_not_halting hended (hmust.trans h), State.disposeItem_failed ho]
  constructor
  · intro hh hlt
    rw [hrun hh, State.retryOrEnd, State.engine_setEngine_same, hattempt, if_pos hlt, State.setEngine_setEngine,
      State.arbitrate_setEngine hl, he]
  · intro hfinal
    have hend : s.endAttempt t i res =
        if halts then (s.setEngine t e).haltTrunk t i res else (s.setEngine t e).finalise t i res res.outcome := by
      cases hh : halts with
      | false =>
        have hle : (s.engine t).attempt.retries ≤ i.attempts := hfinal.resolve_left (by simp [hh])
        rw [hrun hh, State.retryOrEnd, State.engine_setEngine_same, hattempt, if_neg (by omega)]
        rfl
      | true =>
        subst hended
        unfold State.endAttempt
        exact if_pos (hmust.trans hh)
    obtain ⟨honly, hqueued, hsettles, hengine, htrunk⟩ := State.endAttempt_final hend
    have hfailure : res.outcome.isFailure := ho.imp_right .inl
    obtain ⟨p, hp, hundefined, hrecord⟩ :=
      s.leaves_attempt_failed t (e := e) (by rw [he]) i res hfailure
    have hwait : e.waitList = (s.engine t).waitList := by rw [he]
    rw [hwait] at hsettles
    have hhanded := State.probeHanded.of_trunksOnly (.refl s) hp honly
    refine ⟨_, p, rfl, State.endAttempt_itemEnds hhanded hsettles, ?_, fun hh hm => ?_, hundefined, ?_⟩
    · rw [(State.arbitrate_keepsWork _).engine, hengine, he]
      rfl
    · exact State.urgent_arbitrate (htrunk hh hm)
    · rintro hc count state hcount hstate
      obtain ⟨rfl, hraised⟩ := hrecord hc
      have hspelled := s.failedRecord_eq ⟨t, i.drop⟩ res.outcome res.kind hcount hstate
      have hkind : res.outcome ≠ .kindMismatch := by
        obtain h | h := ho
        all_goals simp [h]
      rw [if_neg hkind] at hspelled
      refine ⟨hspelled, fun hm hchange => State.noticed_arbitrate (hqueued.mem _ (hraised hm ?_))⟩
      rw [failureRaises_iff, hspelled]
      exact .inr hchange

/-! ### The answer timeout -/

theorem State.timeoutAnswer_listening {s : State} {t : Trunk} {b : List Byte} {i : Item} (hb : b.length < 7)
    (hl : (s.engine t).link = .listening) (hi : (s.engine t).inFlight = some i) :
    s.timeoutAnswer t b = s.endAttempt t i (bareResult (timeoutOutcome b) s.uptime) := by
  simp only [State.timeoutAnswer, if_pos hb, hl, hi]

theorem State.timeoutAnswer_stranded {s : State} {t : Trunk} {b : List Byte} (hb : b.length < 7)
    (hl : (s.engine t).link = .strandedListening) :
    s.timeoutAnswer t b = s.setEngine t { s.engine t with link := .gap } := by
  simp only [State.timeoutAnswer, if_pos hb, hl]

theorem State.timeoutAnswer_not_open {s : State} {t : Trunk} (b : List Byte) (h1 : (s.engine t).link ≠ .listening)
    (h2 : (s.engine t).link ≠ .strandedListening) : s.timeoutAnswer t b = s := by
  unfold State.timeoutAnswer
  split
  · cases hl : (s.engine t).link with
    | listening => exact absurd hl h1
    | strandedListening => exact absurd hl h2
    | ready => rfl
    | sending q => rfl
    | gap => rfl
    | strandedSending q => rfl
  · rfl

theorem timeoutOutcome_eq (b : List Byte) : timeoutOutcome b = if b = [] then .noAnswer else .badCheck := by
  cases b <;> rfl

/-- Settles O25: the three links on which a timeout can find the engine. -/
theorem answerTimeoutRetriesEndsOrHalts : Obligations.AnswerTimeoutRetriesEndsOrHalts := by
  intro s t b hpower hl hlen
  have hexec : exec (.answerTimeout t b) s = .next (s.timeoutAnswer t b).arbitrate := if_pos hpower
  rw [hexec]
  refine ⟨fun i hlink hi => ?_, fun hlink => ?_, fun h1 h2 => ?_⟩
  · rw [State.timeoutAnswer_listening hlen hlink hi, timeoutOutcome_eq]
    refine State.endAttempt_attemptFails hl ?_
    by_cases hb : b = []
    · exact .inl (if_pos hb)
    · exact .inr (if_neg hb)
  · rw [State.timeoutAnswer_stranded hlen hlink, State.arbitrate_setEngine hl]
  · rw [State.timeoutAnswer_not_open b h1 h2, State.arbitrate_of_lineSound _ hl]

end Sys2Proof.Machine
end

section
/-! The seventh character of an answer, by what the answer comes to (R4 to R6, R10 to R14, R35, R36, R39, R45 to
R49). -/

namespace Sys2Proof.Machine

open Sys2Proof

/-! ### What a judged answer holds for the defined kind (R5, R6) -/

theorem checksOutcome_mismatch {defined : Option Kind} {d : Drop} {a : Answer} {kind : Nat}
    (h : checksOutcome defined d a kind = .kindMismatch) : defined ≠ none := by
  rintro rfl
  unfold checksOutcome at h
  repeat' split at h
  all_goals simp_all

/-- An accepted answer is of the defined kind, if one is defined. -/
theorem checksOutcome_accepted {d : Drop} {a : Answer} {kind : Nat} {k : Kind}
    (h : checksOutcome (some k) d a kind = .good ∨ checksOutcome (some k) d a kind = .tainted) (hk4 : kind < 4) :
    (if kind = 1 then Kind.air else .surface) = k := by
  unfold checksOutcome at h
  have hkind : ¬ (kind = 0 ∨ kind = 3) := by
    intro hbad
    simp only [if_pos hbad] at h
    repeat' split at h
    all_goals simp at h
  have hmatch : ¬ ((kind = 1 ∧ some k = some .surface) ∨ (kind = 2 ∧ some k = some .air)) := by
    intro hbad
    simp only [if_pos hbad] at h
    repeat' split at h
    all_goals simp at h
  have h12 : kind = 1 ∨ kind = 2 := by omega
  obtain rfl | rfl := h12
  all_goals cases k <;> simp_all

/-- The result of an answer at an address. -/
theorem judgeAnswer_facts (defined : Option Kind) (d : Drop) (b : List Byte) (time : Nat) {res : AttemptResult}
    (h : res = judgeAnswer defined d b time) :
    res.time = time
      ∧ (res.outcome = .kindMismatch → defined ≠ none)
      ∧ (res.outcome = .good ∨ res.outcome = .tainted → ∃ raw, res.reading = some raw
          ∧ (defined = some .air → ∃ rh, raw.rh = some rh)) := by
  have hholds := judgeAnswer_holds defined d b time (BitVec.isLt ((b.getD 1 0).extractLsb' 2 2)) rfl
  rw [← h] at hholds
  obtain ⟨houtcome, htime, -, hreading, hpresent⟩ := hholds
  refine ⟨htime, fun hm => checksOutcome_mismatch (houtcome.symm.trans hm), fun hgood => ?_⟩
  obtain ⟨raw, hraw⟩ := Option.isSome_iff_exists.mp (hpresent.mpr hgood)
  refine ⟨raw, hraw, ?_⟩
  rintro rfl
  rw [houtcome] at hgood
  obtain ⟨-, hrh, -⟩ := hreading raw hraw
  rw [if_pos (checksOutcome_accepted hgood (BitVec.isLt _))] at hrh
  exact ⟨_, hrh⟩

/-! ### The record after a reading (R45, R46, R51) -/

theorem clamp_eq {lo hi : Int} (h : lo ≤ hi) (x : Int) : clamp lo hi x = max lo (min hi x) := by
  unfold clamp
  split
  · omega
  · split <;> omega

/-- The dew-point step touches only the dew point and the filtered one. -/
theorem ProbeRecord.withDew_eq (p : ProbeRecord) (temp : Int) (rh : Option Nat) (k : Nat) :
    p.withDew temp rh k =
      { p with dew := (p.withDew temp rh k).dew, df := (p.withDew temp rh k).df } := by
  unfold ProbeRecord.withDew
  cases rh <;> rfl

/-- What the statements say of a reading that has been stored: trimmed, and of AIR with its dew point and the filtered
one. -/
structure ProbeRecord.holdsReading (p before : ProbeRecord) (c : ProbeConfig) (raw : RawReading) (taken weight : Nat)
    (r : Reading) : Prop where
  reading   : p.reading = some r
  temp      : r.temp = max (-4000) (min 8500 (raw.temp + c.tTrim))
  rawTemp   : r.rawTemp = raw.temp
  surface   : c.kind = .surface → r.rh = none ∧ r.rawRh = none ∧ p.dew = before.dew ∧ p.df = before.df
  air       : c.kind = .air → ∃ rh, raw.rh = some rh ∧ r.rawRh = some rh
    ∧ ∃ x : Nat, r.rh = some x ∧ (x : Int) = max 0 (min 10000 ((rh : Int) + c.rhTrim))
      ∧ p.dew = some (dewPoint r.temp x) ∧ p.df = some (filterStep weight before.df (dewPoint r.temp x).td)
  saturated : r.saturated = raw.saturated
  tainted   : r.tainted = raw.wet
  taken     : r.taken = taken

theorem State.storedRecord_holdsReading (s : State) (a : Addr) {c : ProbeConfig} (o : ProbeOutcome) {raw : RawReading}
    (taken : Nat) (hair : c.kind = .air → ∃ rh, raw.rh = some rh) :
    (s.storedRecord a c o raw taken).holdsReading (s.probe a) c raw taken (s.filterWeight a)
      (storedReading c raw taken) where
  reading := by
    rw [State.storedRecord, ProbeRecord.stored, ProbeRecord.withDew_eq]
  temp := clamp_eq (by decide) _
  rawTemp := rfl
  surface := fun hk => by
    have hnone : (storedReading c raw taken).rh = none := by simp only [storedReading, hk]
    refine ⟨hnone, by simp only [storedReading, hk], ?_⟩
    rw [State.storedRecord, ProbeRecord.stored, hnone]
    exact ⟨rfl, rfl⟩
  air := fun hk => by
    obtain ⟨rh, hrh⟩ := hair hk
    have hsome : (storedReading c raw taken).rh = some (trimRh rh c.rhTrim) := by
      simp only [storedReading, hk, hrh, Option.map_some]
    refine ⟨rh, hrh, by simp only [storedReading, hk, hrh], _, hsome, ?_, ?_⟩
    · rw [trimRh, clamp_eq (by decide)]
      omega
    · rw [State.storedRecord, ProbeRecord.stored, hsome]
      exact ⟨rfl, rfl⟩
  saturated := rfl
  tainted := rfl
  taken := rfl

theorem State.storedRecord_rest (s : State) (a : Addr) (c : ProbeConfig) (o : ProbeOutcome) (raw : RawReading)
    (taken : Nat) :
    (s.storedRecord a c o raw taken).state = .active ∧ (s.storedRecord a c o raw taken).failures = 0
      ∧ (s.storedRecord a c o raw taken).last = some o ∧ (s.storedRecord a c o raw taken).mismatch = none
      ∧ (s.storedRecord a c o raw taken).config = (s.probe a).config
      ∧ (s.storedRecord a c o raw taken).expiry = some (taken + s.scan.maxAge + 1) := by
  rw [State.storedRecord, ProbeRecord.stored, ProbeRecord.withDew_eq]
  exact ⟨rfl, rfl, rfl, rfl, rfl, rfl⟩

/-- The states from which a reading raises the probe's notice (R45 step 5). -/
theorem ProbeState.failing_iff (p : ProbeState) : p.failing = true ↔ p = .suspect ∨ p = .faulted := by
  cases p <;> decide

/-! ### An item that ends without a halt -/

/-- What an attempt that ends its item without a halt leaves, from what it hands to the Probe Table (R12). -/
theorem State.itemEnds_of_leaves {s : State} {t : Trunk} {i : Item} {res : AttemptResult} {o : ProbeOutcome}
    (hf : res.outcome.failedAttempt = false) (hd : ∀ s' : State, s'.disposeItem t i res = s'.finalise t i res o)
    {e : Engine} (he : e = { s.engine t with link := .gap, failures := 0 }) {p : ProbeRecord} {applied : Prop}
    (hp : s.probeHanded ⟨t, i.drop⟩ p applied (s.leaves t e i res o)) :
    (s.endAttempt t i res).arbitrate.engine t = { s.engine t with link := .gap, inFlight := none, failures := 0 }
      ∧ s.itemEnds t i ⟨o, some res⟩ [] p applied (s.endAttempt t i res).arbitrate
      ∧ ∀ src ∈ (s.leaves t e i res o).port.urgent ++ (s.leaves t e i res o).port.routine,
          (s.endAttempt t i res).arbitrate.noticed src := by
  have hend := State.endAttempt_ends (s := s) hf hd
  rw [← he] at hend
  have hhanded := State.probeHanded.of_trunksOnly (.refl s) hp (s.finalise_trunksOnly t e i res o)
  have hsettles := s.finalise_settles t e i res o
  have hqueued := s.finalise_keepsQueued t e i res o
  have hengine : ((s.setEngine t e).finalise t i res o).engine t = e.itemLeft := by
    rw [State.engine_finalise, if_pos rfl, State.engine_setEngine_same]
  rw [← hend] at hhanded hsettles hqueued hengine
  refine ⟨?_, State.endAttempt_itemEnds hhanded ?_, fun src hm => State.noticed_arbitrate (hqueued.mem src hm)⟩
  · rw [(State.arbitrate_keepsWork _).engine, hengine, he]
    rfl
  · simpa [settledPoints] using hsettles

/-- A GOOD or TAINTED attempt ends its item, and a defined probe gets the reading (R12, R45). -/
theorem State.endAttempt_accepted (s : State) (t : Trunk) (i : Item) {res : AttemptResult} {raw : RawReading}
    (ho : res.outcome = .good ∨ res.outcome = .tainted) (hraw : res.reading = some raw) :
    ∃ p, (s.endAttempt t i res).arbitrate.engine t = { s.engine t with link := .gap, inFlight := none, failures := 0 }
      ∧ s.itemEnds t i ⟨res.outcome, some res⟩ [] p ((s.probe ⟨t, i.drop⟩).config ≠ none)
          (s.endAttempt t i res).arbitrate
      ∧ ((s.probe ⟨t, i.drop⟩).config = none → p = s.probe ⟨t, i.drop⟩)
      ∧ ∀ c, (s.probe ⟨t, i.drop⟩).config = some c →
          p = s.storedRecord ⟨t, i.drop⟩ c res.outcome raw res.time
          ∧ (s.port.mask.probe = true →
              (s.probe ⟨t, i.drop⟩).state = .suspect ∨ (s.probe ⟨t, i.drop⟩).state = .faulted →
              (s.endAttempt t i res).arbitrate.noticed (.probe ⟨t, i.drop⟩)) := by
  obtain ⟨hf, hd⟩ : res.outcome.failedAttempt = false
      ∧ ∀ s' : State, s'.disposeItem t i res = s'.finalise t i res res.outcome := by
    unfold State.disposeItem
    obtain h | h := ho
    all_goals
      rw [h]
      exact ⟨rfl, fun _ => rfl⟩
  obtain ⟨e, he⟩ : ∃ e : Engine, e = { s.engine t with link := .gap, failures := 0 } := ⟨_, rfl⟩
  by_cases hc : (s.probe ⟨t, i.drop⟩).config = none
  · obtain ⟨hengine, hends, -⟩ := State.itemEnds_of_leaves hf hd he
      (State.leaves_undefined hc e res res.outcome (fun h : (s.probe ⟨t, i.drop⟩).config ≠ none => h hc))
    exact ⟨_, hengine, hends, fun _ => rfl, fun c h => nomatch hc.symm.trans h⟩
  · obtain ⟨c, hsome⟩ := Option.ne_none_iff_exists'.mp hc
    obtain ⟨hp, hraised⟩ := State.leaves_stored hsome e hraw ho (applied := (s.probe ⟨t, i.drop⟩).config ≠ none) hc
    obtain ⟨hengine, hends, hnotices⟩ := State.itemEnds_of_leaves hf hd he hp
    refine ⟨_, hengine, hends, fun h => absurd h hc, fun c' hc' => ?_⟩
    obtain rfl : c = c' := Option.some.inj (hsome.symm.trans hc')
    exact ⟨rfl, fun hm hfailing => hnotices _ (hraised hm ((ProbeState.failing_iff _).mpr hfailing))⟩

/-! ### The seventh character -/

theorem State.receiveAnswer_closed {s : State} {t : Trunk} (b : List Byte) (h : (s.engine t).link ≠ .listening) :
    s.receiveAnswer t b = s := by
  rw [State.receiveAnswer, if_neg (fun hl => h hl.1)]

theorem State.receiveAnswer_open {s : State} {t : Trunk} {b : List Byte} {i : Item}
    (hl : (s.engine t).link = .listening) (hi : (s.engine t).inFlight = some i) (hb : b.length = 7) :
    s.receiveAnswer t b = s.endAttempt t i (judgeAnswer (s.kindAt ⟨t, i.drop⟩) i.drop b s.uptime) := by
  rw [State.receiveAnswer, if_pos ⟨hl, hb⟩, hi]

/-- NOT_READY below the limit puts the item back at the tail, or drops it for a newer SCAN item (R11). -/
theorem State.endAttempt_requeues {s : State} {t : Trunk} {i : Item} {res : AttemptResult}
    (ho : res.outcome = .notReady) (hn : i.notReady < 4) :
    s.endAttempt t i res = s.setEngine t
      { s.engine t with
        link := .gap, inFlight := none, failures := 0,
        waitList :=
          if i.origin = .scan ∧ i.drop ∈ scanDrops (s.engine t).waitList then (s.engine t).waitList
          else (s.engine t).waitList ++ [{ i with notReady := i.notReady + 1, latest := some res }] } := by
  have hf : res.outcome.failedAttempt = false := congrArg ProbeOutcome.failedAttempt ho
  rw [State.endAttempt_of_not_halting rfl (Engine.not_mustHalt hf _ _), Engine.transactionEnded_of_answered hf,
    State.disposeItem, ho]
  dsimp only
  rw [State.requeueOrEnd, if_pos hn, State.engine_setEngine_same, State.setEngine_setEngine, Engine.requeue]
  congr 1
  by_cases hdrop : i.origin = .scan ∧ i.drop ∈ scanDrops (s.engine t).waitList
  · rw [if_pos hdrop, if_pos]
    · rfl
    · simpa [Engine.holdsScan_iff] using hdrop
  · rw [if_neg hdrop, if_neg]
    · rfl
    · simpa [Engine.holdsScan_iff] using hdrop

/-- Settles O24: one clause for each outcome that `judgeAnswer` can come to. -/
theorem answerReceivedIsApplied : Obligations.AnswerReceivedIsApplied := by
  have hexec (s : State) (t : Trunk) (b : List Byte) (hp : s.power = .running) :
      exec (.answerReceived t b) s = .next (s.receiveAnswer t b).arbitrate := if_pos hp
  refine ⟨fun s t b hp hl hlink => ?_, fun s t b i res hp hlink hi hb hres => ?_⟩
  · rw [hexec s t b hp, State.receiveAnswer_closed b hlink, State.arbitrate_of_lineSound _ hl]
  · rw [hexec s t b hp, State.receiveAnswer_open hlink hi hb, ← hres]
    obtain ⟨htime, hmismatch, haccepted⟩ := judgeAnswer_facts _ _ _ _ hres
    refine ⟨fun ho => ?_, fun ho => ?_, fun ho hn hl => ?_, fun ho hn => ?_, fun ho hl => ?_⟩
    · obtain ⟨raw, hraw, hair⟩ := haccepted ho
      obtain ⟨p, hengine, hends, hundefined, hstored⟩ := s.endAttempt_accepted t i ho hraw
      refine ⟨_, p, raw, rfl, hraw, hengine, hends, hundefined, fun c hc => ?_⟩
      obtain ⟨rfl, hnoticed⟩ := hstored c hc
      have hkind (hk : c.kind = .air) : s.kindAt ⟨t, i.drop⟩ = some .air := by
        rw [State.kindAt, hc, ← hk]
        rfl
      obtain ⟨h1, h2, h3, h4, h5, h6, h7, h8⟩ := s.storedRecord_holdsReading ⟨t, i.drop⟩ res.outcome s.uptime
        (fun hk => hair (hkind hk))
      obtain ⟨hstate, hfailures, hlast, hnone, hconfig, hexpiry⟩ :=
        s.storedRecord_rest ⟨t, i.drop⟩ c res.outcome raw s.uptime
      rw [htime]
      exact ⟨⟨_, h1, h2, h3, h4, h5, h6, h7, h8⟩, hstate, hfailures, hlast, hnone, hconfig.trans hc, hexpiry, hnoticed⟩
    · have hf : res.outcome.failedAttempt = false := congrArg ProbeOutcome.failedAttempt ho
      have hd (s' : State) : s'.disposeItem t i res = s'.finalise t i res .kindMismatch := by
        rw [State.disposeItem, ho]
      have hdefined : (s.probe ⟨t, i.drop⟩).config ≠ none := by
        intro hc
        refine hmismatch ho ?_
        rw [State.kindAt, hc]
        rfl
      obtain ⟨hp, hraised⟩ := State.leaves_failed hdefined (e := { s.engine t with link := .gap, failures := 0 }) rfl
        res (o := .kindMismatch) (.inr (.inr rfl)) trivial
      obtain ⟨hengine, hends, hnotices⟩ := State.itemEnds_of_leaves hf hd rfl hp
      refine ⟨_, _, rfl, hengine, hends, fun count state hcount hstate => ?_, fun hm => ?_⟩
      · exact s.failedRecord_eq ⟨t, i.drop⟩ .kindMismatch res.kind hcount hstate
      · exact hnotices _ (hraised hm ((failureRaises_iff ..).mpr (.inl rfl)))
    · rw [State.endAttempt_requeues ho hn, State.arbitrate_setEngine hl]
    · have hf : res.outcome.failedAttempt = false := congrArg ProbeOutcome.failedAttempt ho
      have hd (s' : State) : s'.disposeItem t i res = s'.finalise t i res .notReadyLimit := by
        rw [State.disposeItem, ho]
        exact if_neg (by omega)
      obtain ⟨hengine, hends, -⟩ := State.itemEnds_of_leaves hf hd rfl (s.leaves_notReadyLimit t _ i res)
      exact ⟨_, rfl, hengine, hends⟩
    · exact State.endAttempt_attemptFails hl (.inr ho)

end Sys2Proof.Machine
end

section
/-! Period starts and seconds (R22 to R24, R51, R101, R102): a period start is the timer's own and a cycle, and an
UPTIME_SECOND first takes the expiry that stands first among those that are due. -/

namespace Sys2Proof.Machine

open Sys2Proof

/-! ### A period start (R23, R24) -/

/-- A cycle start offers to a sound engine as `Engine.cycled` says (R24). -/
theorem Engine.sound.cycle_eq {e : Engine} (h : e.sound) {ds : List Drop} (hn : ds.Nodup) :
    ds.foldl Engine.offerScan e = e.cycled ds :=
  Engine.cycle_eq_cycled hn fun hfree hh => (h.free ((e.free_iff).mp hfree).2).2 hh

/-- PERIOD_START of a part whose line has nothing left to send answers the period start alone. -/
theorem execPeriodStart_eq {s : State} (hp : s.power = .running) (hl : s.lineSound) :
    exec .periodStart s = .next s.startDuePeriod := by
  refine fieldEvent_of_lineSound (f := State.startDuePeriod) hp hl ?_
  unfold State.startDuePeriod
  split
  · obtain ⟨es, h⟩ := s.startPeriod_eq
    rw [h]
  · rfl

/-- Settles O27: the timer as `ScanTimer.periodStarted` leaves it, each engine as `Engine.cycled` does. -/
theorem periodStartBeginsCycle : Obligations.PeriodStartBeginsCycle := by
  refine fun s hp hl hs => ⟨fun hdue => ?_, fun hdue => ?_⟩
  · obtain ⟨es, h⟩ := s.startPeriod_eq
    refine ⟨s.startPeriod, ?_, ?_, ?_, fun t => ?_⟩
    · rw [execPeriodStart_eq hp hl, State.startDuePeriod, if_pos hdue]
    · rw [h]
    · rw [h]
      rfl
    · rw [State.engine_startPeriod, (hs t).cycle_eq (s.nodup_definedDrops t)]
  · rw [execPeriodStart_eq hp hl, State.startDuePeriod_of_not_due hdue]

/-! ### What is due (R23, R51, R101, assumption 19) -/

theorem Dwell.expired_isSome_iff (d : Dwell) :
    d.expired.isSome = true ↔ ∃ n, d = .rise n true ∨ d = .fall n true := by
  rcases d with _ | ⟨n, _ | _⟩ | ⟨n, _ | _⟩ <;> simp [Dwell.expired]

theorem State.dwellIsDue_iff (s : State) (z : ZoneId) : s.dwellIsDue z ↔ (s.zone z).dwell.expired.isSome = true :=
  (Dwell.expired_isSome_iff _).symm

theorem State.expired_eq_none {s : State} {z : ZoneId} (h : ¬ s.dwellIsDue z) : (s.zone z).dwell.expired = none := by
  rw [s.dwellIsDue_iff] at h
  simpa using h

theorem State.ageIsDue_iff (s : State) (a : Addr) : s.ageIsDue a ↔ s.ageDue a = true := by
  unfold State.ageIsDue State.ageDue
  cases (s.probe a).expiry <;> simp

theorem State.ageDue_eq_false {s : State} {a : Addr} (h : ¬ s.ageIsDue a) : s.ageDue a = false := by
  rw [s.ageIsDue_iff] at h
  simpa using h

/-! ### An evaluation makes no dwell due (R100, R102) -/

/-- A dwell table never makes an expiry due that was not (R100). -/
theorem dwellTable_not_due (c : ZoneConfig) (g target : Grade) {dwell : Dwell} (h : dwell.expired = none) :
    (dwellTable c g target dwell).2.expired = none := by
  have hload (length : Nat) {loaded : Dwell} (hl : loaded.expired = none) :
      (loadDwell g target length loaded).2.expired = none := by
    unfold loadDwell
    split
    exacts [rfl, hl]
  unfold dwellTable
  split
  · cases dwell with
    | none => exact hload _ rfl
    | rise n due => exact h
    | fall n due => exact hload _ rfl
  · split
    · cases dwell with
      | none => exact hload _ rfl
      | rise n due => exact hload _ rfl
      | fall n due => exact h
    · rfl

theorem dwellStep_not_due (cause : EvalCause) (c : ZoneConfig) (g target : Grade) {dwell : Dwell}
    (h : dwell.expired = none) : (dwellStep cause c g target dwell).2.expired = none := by
  unfold dwellStep
  cases cause with
  | ordinary => exact dwellTable_not_due _ _ _ h
  | riseExpired =>
    dsimp only
    split
    exacts [rfl, dwellTable_not_due _ _ _ rfl]
  | fallExpired =>
    dsimp only
    split
    exacts [rfl, dwellTable_not_due _ _ _ rfl]

/-- The grade decision never makes an expiry due that was not (R95 to R102). -/
theorem decideGrade_not_due (cause : EvalCause) (c : ZoneConfig) (g : Grade) {dwell : Dwell} (wet : Bool)
    (m : Option Int) (h : dwell.expired = none) : (decideGrade cause c g dwell wet m).2.expired = none := by
  unfold decideGrade
  split
  · rfl
  · cases m with
    | none => rfl
    | some m =>
      cases g with
      | off => exact h
      | stale => rfl
      | clear => exact dwellStep_not_due _ _ _ _ h
      | watch => exact dwellStep_not_due _ _ _ _ h
      | alarm => exact dwellStep_not_due _ _ _ _ h
      | wet => exact dwellStep_not_due _ _ _ _ rfl

/-- An evaluation of any zone makes no dwell due. -/
theorem State.evaluate_not_due {s : State} {y : ZoneId} (z : ZoneId) (cause : EvalCause)
    (h : (s.zone y).dwell.expired = none) : ((s.evaluate z cause).zone y).dwell.expired = none := by
  rw [State.zone_evaluate]
  split
  · next hy =>
    rw [hy.1] at h
    exact decideGrade_not_due _ _ _ _ _ h
  · exact h

theorem State.evaluateAt_not_due {s : State} {y : ZoneId} (a : Addr) (h : (s.zone y).dwell.expired = none) :
    ((s.evaluateAt a).zone y).dwell.expired = none := by
  unfold State.evaluateAt
  split
  exacts [State.evaluate_not_due _ _ h, h]

/-! ### One expiry is taken -/

theorem State.arbitrate_zone (s : State) (z : ZoneId) : s.arbitrate.zone z = s.zone z := by
  rw [s.arbitrate_eq, State.setPort_zone]

theorem State.arbitrate_probe (s : State) (a : Addr) : s.arbitrate.probe a = s.probe a := by
  rw [s.arbitrate_eq, State.setPort_probe]

/-- A dwell's expiry leaves no dwell due that was not, and its own due no more (R102). -/
theorem State.expireDwell_not_due {s : State} {y z : ZoneId} (h : y = z ∨ (s.zone y).dwell.expired = none) :
    ((s.expireDwell z).zone y).dwell.expired = none := by
  unfold State.expireDwell
  split
  · refine State.evaluate_not_due _ _ ?_
    by_cases hy : y = z
    · rw [hy, State.zone_setZone_same]
      rfl
    · rw [State.zone_setZone_of_ne _ _ hy]
      exact h.resolve_left hy
  · next hz =>
    obtain rfl | h := h
    exacts [hz, h]

theorem State.expireDwell_itemKeeps (s : State) (z : ZoneId) : s.itemKeeps (s.expireDwell z) := by
  unfold State.expireDwell
  split
  · have hset : s.itemKeeps (s.setZone z { s.zone z with dwell := .none }) :=
      ⟨rfl, rfl, rfl, rfl, rfl, rfl, rfl, rfl, rfl⟩
    exact hset.trans (State.evaluate_keeps ..).itemKeeps
  · exact .refl s

theorem State.expireAge_itemKeeps (s : State) (a : Addr) : s.itemKeeps (s.expireAge a) := by
  unfold State.expireAge
  split
  exacts [(s.setProbe_itemKeeps ..).trans (State.evaluateAt_keeps ..).itemKeeps, .refl s]

/-- An age expiry makes no dwell due (R51). -/
theorem State.expireAge_dwell_not_due {s : State} {y : ZoneId} (a : Addr) (h : (s.zone y).dwell.expired = none) :
    ((s.expireAge a).zone y).dwell.expired = none := by
  unfold State.expireAge
  split
  exacts [State.evaluateAt_not_due a h, h]

/-- An age expiry writes the record of its own address, and no other (R51). -/
theorem State.expireAge_probe (s : State) (a b : Addr) :
    (s.expireAge a).probe b = if b = a ∧ s.ageDue a = true then (s.probe a).lostValidity else s.probe b := by
  unfold State.expireAge
  by_cases hd : s.ageDue a = true
  · rw [if_pos hd, State.probe, (State.evaluateAt_keeps ..).probes]
    show (s.setProbe a _).probe b = _
    by_cases hb : b = a
    · rw [hb, State.probe_setProbe_same, if_pos ⟨rfl, hd⟩]
    · rw [State.probe_setProbe_of_ne _ _ hb, if_neg fun h => hb h.1]
  · rw [if_neg hd, if_neg fun h => hd h.2]

/-- An age expiry leaves no age due that was not, and its own due no more (R51). -/
theorem State.expireAge_not_due {s : State} {a b : Addr} (h : b = a ∨ s.ageDue b = false) :
    (s.expireAge a).arbitrate.ageDue b = false := by
  have hu : (s.expireAge a).arbitrate.uptime = s.uptime :=
    ((s.expireAge_itemKeeps a).trans (State.arbitrate_itemKeeps _)).uptime
  rw [State.ageDue, hu, State.arbitrate_probe, State.expireAge_probe]
  by_cases hb : b = a ∧ s.ageDue a = true
  · rw [if_pos hb]
    rfl
  · rw [if_neg hb]
    show s.ageDue b = false
    obtain rfl | h := h
    exacts [by simpa using hb, h]

/-! ### The expiry that stands first is taken first (assumption 29) -/

/-- A fold whose elements before x do nothing starts with x; where x and they do nothing after it, it is the fold of
what x leaves. -/
theorem foldl_eq_foldl_first {α β : Type} (f : β → α → β) {s t : β} {pre post : List α} {x : α}
    (hpre : ∀ y ∈ pre, f s y = s) (hx : f s x = t) (hpre' : ∀ y ∈ pre, f t y = t) (hx' : f t x = t) :
    (pre ++ x :: post).foldl f s = (pre ++ x :: post).foldl f t := by
  have hself : ∀ {u : β} {xs : List α}, (∀ y ∈ xs, f u y = u) → xs.foldl f u = u := by
    intro u xs h
    induction xs with
    | nil => rfl
    | cons y ys ih =>
      rw [List.foldl_cons, h y List.mem_cons_self, ih fun z hz => h z (List.mem_cons_of_mem _ hz)]
  rw [List.foldl_append, List.foldl_append, List.foldl_cons, List.foldl_cons, hself hpre, hself hpre', hx, hx']

/-- A list in strictly ascending order, cut at one of its elements: those before it are less. -/
theorem exists_append_of_pairwise {α : Type} {r : α → α → Prop} {xs : List α} (h : xs.Pairwise r) {x : α}
    (hx : x ∈ xs) : ∃ pre post, xs = pre ++ x :: post ∧ ∀ y ∈ pre, r y x := by
  obtain ⟨pre, post, rfl⟩ := List.append_of_mem hx
  refine ⟨pre, post, rfl, fun y hy => ?_⟩
  exact (List.pairwise_append.mp h).2.2 y hy x List.mem_cons_self

/-- The addresses stand in ascending order of trunk and drop (R60). -/
theorem pairwise_allAddrs : allAddrs.Pairwise fun a b => a.idx < b.idx := by decide

/-- A second is the same where it finds the same after the period start and the dwells. -/
theorem State.secondPassed_congr {s t : State} (h : (List.finRange 24).foldl State.takeDueDwell s.startDuePeriod
      = (List.finRange 24).foldl State.takeDueDwell t.startDuePeriod) : s.secondPassed = t.secondPassed := by
  rw [State.secondPassed, State.secondPassed, State.takeDue, State.takeDue, h]

theorem execUptimeSecond_running {s : State} (hp : s.power = .running) :
    exec .uptimeSecond s = .next s.secondPassed := by
  show execUptimeSecond s = _
  rw [execUptimeSecond, hp]

theorem execFieldEvent_eq {f : State → State} {s t : State} (hp : s.power = .running) (h : fieldEvent f s = .next t) :
    t = (f s).arbitrate := by
  rw [fieldEvent, if_pos hp] at h
  cases h
  rfl

/-- A due period start comes before the second (R23). -/
theorem second_after_periodStart {s t : State} (hp : s.power = .running) (hdue : s.scan.due = true) (hl : s.lineSound)
    (h : exec .periodStart s = .next t) : exec .uptimeSecond s = exec .uptimeSecond t := by
  rw [execPeriodStart_eq hp hl] at h
  cases h
  have hstart : s.startDuePeriod = s.startPeriod := if_pos hdue
  obtain ⟨es, he⟩ := s.startPeriod_eq
  have hagain : s.startPeriod.startDuePeriod = s.startPeriod :=
    State.startDuePeriod_of_not_due (by rw [he]; rfl)
  have hp' : s.startPeriod.power = .running := by rw [he]; exact hp
  rw [hstart, execUptimeSecond_running hp, execUptimeSecond_running hp']
  exact congrArg _ (State.secondPassed_congr (by rw [hstart, hagain]))

/-- The lowest zone whose dwell is due comes before the second (R102, assumption 29). -/
theorem second_after_dwellExpiry {s t : State} {z : ZoneId} (hp : s.power = .running) (hs : s.scan.due = false)
    (hz : s.dwellIsDue z) (hlow : ∀ y, y < z → ¬ s.dwellIsDue y) (h : exec (.dwellExpiry z) s = .next t) :
    exec .uptimeSecond s = exec .uptimeSecond t := by
  have ht : t = (s.expireDwell z).arbitrate := execFieldEvent_eq (f := fun s => s.expireDwell z) hp h
  have hkeep : s.itemKeeps t := ht ▸ (s.expireDwell_itemKeeps z).trans (State.arbitrate_itemKeeps _)
  have hnot {y : ZoneId} (hy : y = z ∨ (s.zone y).dwell.expired = none) : t.takeDueDwell y = t := by
    refine State.takeDueDwell_of_not_due ?_
    rw [ht, State.arbitrate_zone]
    exact State.expireDwell_not_due hy
  obtain ⟨pre, post, hlist, hpre⟩ := exists_append_of_pairwise (List.pairwise_lt_finRange 24) (List.mem_finRange z)
  rw [execUptimeSecond_running hp, execUptimeSecond_running (hkeep.power.trans hp)]
  refine congrArg _ (State.secondPassed_congr ?_)
  rw [State.startDuePeriod_of_not_due hs, State.startDuePeriod_of_not_due ((congrArg _ hkeep.scan).trans hs), hlist]
  refine foldl_eq_foldl_first _ (fun y hy => ?_) ?_ (fun y hy => ?_) (hnot (.inl rfl))
  · exact State.takeDueDwell_of_not_due (State.expired_eq_none (hlow y (hpre y hy)))
  · rw [ht]
    exact if_pos ((s.dwellIsDue_iff z).mp hz)
  · exact hnot (.inr (State.expired_eq_none (hlow y (hpre y hy))))

/-- The lowest address whose age is due comes before the second (R51, assumption 29). -/
theorem second_after_ageExpiry {s t : State} {a : Addr} (hp : s.power = .running) (hs : s.scan.due = false)
    (hz : ∀ z, ¬ s.dwellIsDue z) (ha : s.ageIsDue a) (hlow : ∀ b : Addr, b.idx < a.idx → ¬ s.ageIsDue b)
    (h : exec (.ageExpiry a) s = .next t) : exec .uptimeSecond s = exec .uptimeSecond t := by
  have ht : t = (s.expireAge a).arbitrate := execFieldEvent_eq (f := fun s => s.expireAge a) hp h
  have hkeep : s.itemKeeps t := ht ▸ (s.expireAge_itemKeeps a).trans (State.arbitrate_itemKeeps _)
  have hnot {b : Addr} (hb : b = a ∨ s.ageDue b = false) : t.takeDueAge b = t :=
    State.takeDueAge_of_not_due (ht ▸ State.expireAge_not_due hb)
  have hdwell (y : ZoneId) : t.takeDueDwell y = t := by
    refine State.takeDueDwell_of_not_due ?_
    rw [ht, State.arbitrate_zone]
    exact State.expireAge_dwell_not_due a (State.expired_eq_none (hz y))
  obtain ⟨pre, post, hlist, hpre⟩ := exists_append_of_pairwise pairwise_allAddrs (mem_allAddrs a)
  rw [execUptimeSecond_running hp, execUptimeSecond_running (hkeep.power.trans hp), State.secondPassed,
    State.secondPassed]
  have htake : s.takeDue = t.takeDue := by
    rw [State.takeDue, State.takeDue, State.startDuePeriod_of_not_due hs,
      State.startDuePeriod_of_not_due ((congrArg _ hkeep.scan).trans hs),
      State.foldl_eq_self _ (fun y => State.takeDueDwell_of_not_due (State.expired_eq_none (hz y))),
      State.foldl_eq_self _ hdwell, hlist]
    refine foldl_eq_foldl_first _ (fun b hb => ?_) ?_ (fun b hb => ?_) (hnot (.inl rfl))
    · exact State.takeDueAge_of_not_due (State.ageDue_eq_false (hlow b (hpre b hb)))
    · rw [ht]
      exact if_pos ((s.ageIsDue_iff a).mp ha)
    · exact hnot (.inr (State.ageDue_eq_false (hlow b (hpre b hb))))
  rw [htake]

/-- With nothing due a second only counts (R22, R101). -/
theorem State.secondPassed_of_noneDue {s : State} (h : s.noneDue) : s.secondPassed =
    { s with uptime := s.uptime + 1, scan := s.scan.tick, zones := s.zones.map ZoneRecord.tick } := by
  obtain ⟨hs, hd, ha⟩ := h
  rw [State.secondPassed, State.takeDue_of_nothing_due hs (fun z => State.expired_eq_none (hd z))
    fun a => State.ageDue_eq_false (ha a)]

/-- A running dwell counts down, and its last second makes its expiry due (R101, assumption 19). -/
theorem Dwell.tick_rise {n : Nat} (h : 1 ≤ n) :
    (Dwell.rise n false).tick = if n = 1 then .rise 1 true else .rise (n - 1) false := by
  by_cases h1 : n = 1
  · subst h1
    rfl
  · rw [if_neg h1]
    exact if_neg (by omega)

theorem Dwell.tick_fall {n : Nat} (h : 1 ≤ n) :
    (Dwell.fall n false).tick = if n = 1 then .fall 1 true else .fall (n - 1) false := by
  by_cases h1 : n = 1
  · subst h1
    rfl
  · rw [if_neg h1]
    exact if_neg (by omega)

/-- Settles O48: a second with nothing due counts alone; the expiry that stands first is the step before it. -/
theorem secondCounts : Obligations.SecondCounts := by
  refine fun s => ⟨fun hp hn => ?_, fun hp hd hl t => second_after_periodStart hp hd hl,
    fun z hp hs hz hlow t => second_after_dwellExpiry hp hs hz hlow,
    fun a hp hs hz ha hlow t => second_after_ageExpiry hp hs hz ha hlow, fun hp => ?_, fun hp => ?_⟩
  · have hzone (z : ZoneId) : (s.zones.map ZoneRecord.tick).get z = (s.zone z).tick := Table.get_map ..
    refine ⟨_, (execUptimeSecond_running hp).trans (congrArg _ (State.secondPassed_of_noneDue hn)), rfl, rfl,
      fun hc => ?_, fun n hc hlt => ?_, fun hc => ?_, fun z => ⟨fun hd => ?_, fun n hd h1 => ?_, fun n hd h1 => ?_⟩⟩
    · show s.scan.tick = s.scan
      rw [ScanTimer.tick, hc]
    · show s.scan.tick = _
      rw [ScanTimer.tick, hc]
      exact if_neg (by omega)
    · show s.scan.tick = _
      simp [ScanTimer.tick, hc]
    · refine (hzone z).trans ?_
      rw [ZoneRecord.tick, hd, show Dwell.none.tick = Dwell.none from rfl, ← hd]
    · refine (hzone z).trans ?_
      rw [ZoneRecord.tick, hd, Dwell.tick_rise h1]
    · refine (hzone z).trans ?_
      rw [ZoneRecord.tick, hd, Dwell.tick_fall h1]
  · show execUptimeSecond s = _
    rw [execUptimeSecond, hp]
  · show execUptimeSecond s = _
    rw [execUptimeSecond, hp]

end Sys2Proof.Machine
end

section
/-! The max reading age (R29, R50, R52) and Scan Setup in its three modes (R25 to R29). -/

namespace Sys2Proof.Machine

open Sys2Proof

/-! ### Validity (R50) -/

/-- Every record number is that of an address (R60). -/
theorem Addr.exists_idx (i : Fin 64) : ∃ a : Addr, a.idx = i :=
  ⟨⟨⟨i.val / 32, by omega⟩, ⟨i.val % 32, by omega⟩⟩, Fin.ext (Nat.div_add_mod i.val 32)⟩

/-- R50's four conditions: a defined record, not FAULTED, with a reading that is not over age. -/
theorem ProbeRecord.validAt_iff (p : ProbeRecord) (maxAge uptime : Nat) : p.validAt maxAge uptime = true ↔
    p.config ≠ none ∧ p.state ≠ .faulted ∧ ∃ r, p.reading = some r ∧ uptime ≤ r.taken + maxAge := by
  unfold ProbeRecord.validAt
  cases hr : p.reading with
  | none => simp
  | some r =>
    have hage : r.age uptime ≤ maxAge ↔ uptime ≤ r.taken + maxAge := by
      unfold Reading.age
      omega
    simp [hage, Option.isSome_iff_ne_none, and_assoc]

theorem ProbeRecord.rejudged_lost {p : ProbeRecord} {old new uptime : Nat} (h : p.validAt old uptime = true)
    (h' : p.validAt new uptime = false) : p.rejudged old new uptime = { p with df := none, expiry := none } := by
  rw [ProbeRecord.rejudged, h, h']
  rfl

theorem ProbeRecord.rejudged_regained {p : ProbeRecord} {old new uptime : Nat} (h : p.validAt old uptime = false)
    (h' : p.validAt new uptime = true) :
    p.rejudged old new uptime = { p with df := p.dew.map (·.td), expiry := p.expiryUnder new } := by
  rw [ProbeRecord.rejudged, h, h']
  rfl

theorem ProbeRecord.rejudged_valid {p : ProbeRecord} {old new uptime : Nat} (h : p.validAt old uptime = true)
    (h' : p.validAt new uptime = true) : p.rejudged old new uptime = { p with expiry := p.expiryUnder new } := by
  rw [ProbeRecord.rejudged, h, h']

theorem ProbeRecord.rejudged_invalid {p : ProbeRecord} {old new uptime : Nat} (h : p.validAt old uptime = false)
    (h' : p.validAt new uptime = false) : p.rejudged old new uptime = p := by
  rw [ProbeRecord.rejudged, h, h']

theorem ProbeRecord.expiryUnder_of_reading {p : ProbeRecord} {r : Reading} (h : p.reading = some r) (maxAge : Nat) :
    p.expiryUnder maxAge = some (r.taken + maxAge + 1) := by
  rw [ProbeRecord.expiryUnder, h]
  rfl

/-! ### Zones evaluated one after another (R93) -/

/-- An evaluation of a zone reads its own record, the probes, the map, the channels and the clock; nothing else. -/
theorem State.zoneEvaluated_congr {s t : State} {z : ZoneId} (hz : t.zone z = s.zone z) (hp : t.probes = s.probes)
    (hm : t.map = s.map) (hs : t.scan = s.scan) (hu : t.uptime = s.uptime)
    (hc : t.leak.channels = s.leak.channels) (cause : EvalCause) : t.zoneEvaluated z cause = s.zoneEvaluated z cause := by
  have hprobe : t.probe = s.probe := by
    funext a
    rw [State.probe, hp]
    rfl
  have hchannel : t.channel = s.channel := by
    funext c
    rw [State.channel, hc]
    rfl
  have hvalid : t.valid = s.valid := by
    funext a
    rw [State.valid, State.valid, hprobe, hs, hu]
  have hkind : t.kindAt = s.kindAt := by
    funext a
    rw [State.kindAt, State.kindAt, hprobe]
  have htainted : t.taintedAt = s.taintedAt := by
    funext a
    unfold State.taintedAt
    rw [hprobe]
  have hmembers : t.members z = s.members z := by
    unfold State.members State.definedAt
    rw [hprobe, hm]
  have hdew : t.offersDew = s.offersDew := by
    funext a
    rw [State.offersDew, State.offersDew, hkind, hvalid, htainted]
  have hair : t.validAir = s.validAir := by
    funext a
    rw [State.validAir, State.validAir, hkind, hvalid]
  have hsurface : t.validSurface = s.validSurface := by
    funext a
    rw [State.validSurface, State.validSurface, hkind, hvalid]
  have hwet : t.wetCondition z = s.wetCondition z := by
    unfold State.wetCondition
    rw [hz, hchannel, hmembers, hair, htainted]
  have hvalued : t.zoneValued z = s.zoneValued z := by
    unfold State.zoneValued State.zoneDew State.zoneSurface
    rw [hz, hmembers, hdew, hair, hsurface, hprobe]
  rw [State.zoneEvaluated, State.zoneEvaluated, hvalued, hwet]

/-- The zones after several have been evaluated, each once: what each reads, the others leave alone (R93). -/
theorem State.zone_evaluateAll {zs : List ZoneId} (hn : zs.Nodup) (s : State) (y : ZoneId) :
    (s.evaluateAll zs).zone y =
      if y ∈ zs ∧ (s.zone y).enabled = true then s.zoneEvaluated y .ordinary else s.zone y := by
  induction zs generalizing s with
  | nil => simp [State.evaluateAll]
  | cons z zs ih =>
    obtain ⟨hz, hn⟩ := List.nodup_cons.mp hn
    rw [State.evaluateAll, List.foldl_cons, ← State.evaluateAll, ih hn]
    by_cases hy : y = z
    · subst hy
      rw [if_neg (fun h => hz h.1), State.zone_evaluate]
      simp
    · have hzone : (s.evaluate z .ordinary).zone y = s.zone y := by
        rw [State.zone_evaluate, if_neg fun h => hy h.1]
      have hk := s.evaluate_keeps z .ordinary
      rw [hzone, State.zoneEvaluated_congr hzone hk.probes hk.map hk.scan hk.uptime (by rw [hk.leak])]
      simp [hy]

theorem State.mem_zonesOf {s : State} {p : Addr → Bool} {z : ZoneId} :
    z ∈ s.zonesOf p ↔ ∃ a, p a = true ∧ s.map.lookup a = some z := by
  simp [State.zonesOf, mem_allAddrs]

theorem State.nodup_zonesOf (s : State) (p : Addr → Bool) : (s.zonesOf p).Nodup := (List.nodup_finRange 24).filter _

/-! ### A new max reading age (R29, R52) -/

/-- Every record re-judged under a new max reading age, no zone evaluated yet (R52). -/
def State.rejudgedUnder (s : State) (new : Nat) : State :=
  { s with scan := { s.scan with maxAge := new },
           probes := s.probes.map fun p => p.rejudged s.scan.maxAge new s.uptime }

theorem State.changeMaxAge_eq (s : State) (new : Nat) :
    s.changeMaxAge new = (s.rejudgedUnder new).evaluateAll (s.zonesOf (s.validityChanged s.scan.maxAge new)) := rfl

theorem State.rejudgedUnder_probe (s : State) (new : Nat) (a : Addr) :
    (s.rejudgedUnder new).probe a = (s.probe a).rejudged s.scan.maxAge new s.uptime := Table.get_map ..

theorem State.changeMaxAge_keeps (s : State) (new : Nat) :
    (s.rejudgedUnder new).evaluationKeeps (s.changeMaxAge new) := State.evaluateAll_keeps ..

theorem State.changeMaxAge_scan (s : State) (new : Nat) :
    (s.changeMaxAge new).scan = { s.scan with maxAge := new } := (s.changeMaxAge_keeps new).scan

theorem State.changeMaxAge_probe (s : State) (new : Nat) (a : Addr) :
    (s.changeMaxAge new).probe a = (s.probe a).rejudged s.scan.maxAge new s.uptime := by
  rw [State.probe, (s.changeMaxAge_keeps new).probes]
  exact s.rejudgedUnder_probe new a

theorem State.changeMaxAge_executing (s : State) (new : Nat) :
    (s.changeMaxAge new).port.executing = s.port.executing := by
  rw [(s.changeMaxAge_keeps new).port]
  rfl

/-- An enabled zone with a probe whose validity changed is evaluated on the re-judged records, every other zone is as it
was (R52). -/
theorem State.changeMaxAge_zone (s : State) (new : Nat) (z : ZoneId) :
    (s.changeMaxAge new).zone z =
      if z ∈ s.zonesOf (s.validityChanged s.scan.maxAge new) ∧ (s.zone z).enabled = true then
        (s.rejudgedUnder new).zoneEvaluated z .ordinary
      else s.zone z := by
  rw [s.changeMaxAge_eq, State.zone_evaluateAll (s.nodup_zonesOf _)]
  rfl

theorem State.validityChanged_iff (s : State) (old new : Nat) (a : Addr) : s.validityChanged old new a = true ↔
    (s.probe a).validAt old s.uptime ≠ (s.probe a).validAt new s.uptime := by
  simp [State.validityChanged]

/-- The max reading age that is in force already changes nothing where every valid reading awaits its expiry. -/
theorem State.changeMaxAge_same {s : State} (h : ∀ a, (s.probe a).validAt s.scan.maxAge s.uptime = true →
    (s.probe a).expiry = (s.probe a).expiryUnder s.scan.maxAge) : s.changeMaxAge s.scan.maxAge = s := by
  have hprobes : (s.rejudgedUnder s.scan.maxAge).probes = s.probes := by
    refine Table.ext_get fun i => ?_
    obtain ⟨a, rfl⟩ := Addr.exists_idx i
    refine (s.rejudgedUnder_probe _ a).trans ?_
    cases hv : (s.probe a).validAt s.scan.maxAge s.uptime with
    | true =>
      rw [ProbeRecord.rejudged_valid hv hv, ← h a hv]
      rfl
    | false => exact ProbeRecord.rejudged_invalid hv hv
  have hnone : s.zonesOf (s.validityChanged s.scan.maxAge s.scan.maxAge) = [] := by
    refine List.eq_nil_iff_forall_not_mem.mpr fun z hz => ?_
    obtain ⟨a, ha, -⟩ := State.mem_zonesOf.mp hz
    exact (s.validityChanged_iff _ _ a).mp ha rfl
  have hrejudged : s.rejudgedUnder s.scan.maxAge = { s with probes := (s.rejudgedUnder s.scan.maxAge).probes } := rfl
  rw [s.changeMaxAge_eq, hnone, hrejudged, hprobes]
  rfl

/-- Settles O20: each record by the four cases of `ProbeRecord.rejudged`, each zone by `State.changeMaxAge_zone`. -/
theorem maxAgeRejudgesEveryReading : Obligations.MaxAgeRejudgesEveryReading := by
  refine ⟨ProbeRecord.validAt_iff, fun s a => ProbeRecord.validAt_iff .., fun s new =>
    ⟨s.changeMaxAge_scan new, fun a => ⟨fun h h' => ?_, fun h h' r hr => ?_, fun h h' r hr => ?_, fun h h' => ?_⟩,
      fun z hz => ?_, fun z he => ?_, fun z a hz hv he => ?_, fun hnew hexpiry => ?_⟩⟩
  · rw [s.changeMaxAge_probe, ProbeRecord.rejudged_lost h h']
  · rw [s.changeMaxAge_probe, ProbeRecord.rejudged_regained h h', ProbeRecord.expiryUnder_of_reading hr]
  · rw [s.changeMaxAge_probe, ProbeRecord.rejudged_valid h h', ProbeRecord.expiryUnder_of_reading hr]
  · rw [s.changeMaxAge_probe, ProbeRecord.rejudged_invalid h h']
  · rw [s.changeMaxAge_zone, if_neg]
    rintro ⟨hmem, -⟩
    obtain ⟨a, hv, ha⟩ := State.mem_zonesOf.mp hmem
    exact (s.validityChanged_iff _ _ a).mp hv (hz a ha)
  · rw [s.changeMaxAge_zone, if_neg]
    rintro ⟨-, he'⟩
    exact absurd (he.symm.trans he') (by simp)
  · rw [s.changeMaxAge_zone, if_pos ⟨State.mem_zonesOf.mpr ⟨a, (s.validityChanged_iff _ _ a).mpr hv, hz⟩, he⟩,
      (s.changeMaxAge_keeps new).probes]
    rfl
  · subst hnew
    exact State.changeMaxAge_same hexpiry

/-! ### Scan Setup (R25 to R29) -/

/-- A Scan Setup payload that names a row's own mode is of that row (assumption 21). -/
theorem otherScanRow_of_mode {p : List Byte} {mode : ScanMode} (h : scanMode? (u8 p 0) = some mode) :
    otherScanRow p mode = false := by
  simp [otherScanRow, h]

/-- The state of the Scan Timer as a reply carries it, an absent number as 0 (R177, R180). -/
theorem ScanTimer.bytes_eq (t : ScanTimer) : t.bytes =
    [t.mode.code] ++ be16 t.active ++ be16 (t.next.getD 0) ++ be16 (t.countdown.getD 0) ++ be16 t.maxAge := by
  have hzero (x : Option Nat) : optZero x = be16 (x.getD 0) := by cases x <;> rfl
  rw [ScanTimer.bytes, hzero, hzero]

/-- The reply of Scan Setup that leaves the timer t, with the period and the max reading age it applied (R25). -/
def scanReply (tag : Byte) (p : List Byte) (period age : Nat) (t : ScanTimer) : OutFrame :=
  replyTo 0x18 tag (if period = u16 p 1 ∧ age = u16 p 3 then .ok else .adjusted)
    ([t.mode.code] ++ be16 t.active ++ be16 (t.next.getD 0) ++ be16 (t.countdown.getD 0) ++ be16 t.maxAge)

/-- Scan Setup where its execution begins: the mode's effect on the timer and the wait lists, then the max reading age,
then the reply (R25, R29). -/
theorem scanSetup_answered {s s0 : State} {tag : Byte} {p : List Byte} {mode : ScanMode} {period age : Nat}
    {t : ScanTimer} {es : Table Engine 2} (hb : s.begins ⟨0x18, tag, p⟩ s0) (hl : p.length = 5)
    (hperiod : period = max 5 (min 3600 (u16 p 1))) (hage : age = max 30 (min 7200 (u16 p 3)))
    (hm : scanMode? (u8 p 0) = some mode) (hset : s0.setScanMode mode period = { s0 with scan := t, engines := es }) :
    runRequest scanSetupService tag p s =
      .next ((({ s0 with scan := t, engines := es } : State).changeMaxAge age).answered
        (scanReply tag p period age { t with maxAge := age })) := by
  have hperiod' : scanPeriod (u16 p 1) = period := (clampNat_eq (by decide) _).trans hperiod.symm
  have hage' : scanMaxAge (u16 p 3) = age := (clampNat_eq (by decide) _).trans hage.symm
  have hstatus : takenStatus (period != u16 p 1 || age != u16 p 3)
      = if period = u16 p 1 ∧ age = u16 p 3 then .ok else .adjusted := by
    by_cases h : period = u16 p 1 ∧ age = u16 p 3
    · simp [takenStatus, h.1, h.2]
    · rw [if_neg h]
      refine if_pos ?_
      simpa [imp_iff_not_or] using h
  refine runRequest_answered (v := scanSetupService) (by decide) hb hl ?_ (State.changeMaxAge_executing ..)
  show scanSetupWork p s0 = _
  unfold scanSetupWork
  rw [hm]
  dsimp only
  rw [hperiod', hage', State.setUpScan, hset, hstatus, ScanTimer.bytes_eq, State.changeMaxAge_scan]

/-- The engines after a cycle start of sound trunks (R24). -/
theorem State.scanCycle_cycled {s : State} (hs : ∀ t, (s.engine t).sound) :
    ∃ es, s.scanCycle = { s with engines := es } ∧ ∀ t, es.get t = (s.engine t).cycled (s.definedDrops t) := by
  obtain ⟨es, h⟩ := s.scanCycle_enginesOnly
  refine ⟨es, h, fun t => ?_⟩
  have hengine := s.engine_scanCycle t
  rw [h, (hs t).cycle_eq (s.nodup_definedDrops t)] at hengine
  exact hengine

/-- Settles O26: what each mode does to the timer and the engines, through `scanSetup_answered`. -/
theorem scanSetupByMode : Obligations.ScanSetupByMode := by
  intro s s0 tag p period age hb hl hperiod hage hs reply hreply
  obtain rfl : reply = scanReply tag p period age := funext hreply
  have hanswer {mode : ScanMode} {t : ScanTimer} {es : Table Engine 2} (hm : scanMode? (u8 p 0) = some mode) :=
    scanSetup_answered (mode := mode) (t := t) (es := es) hb hl hperiod hage hm
  refine ⟨fun hmode hrun => ?_, fun hmode hrun => ?_, fun hmode => ?_, fun hmode => ?_⟩
  · have hm : scanMode? (u8 p 0) = some .continuous := by rw [hmode]; rfl
    have hset : s0.setScanMode .continuous period = { s0 with scan := s0.scan.heldNext period, engines := s0.engines } :=
      if_pos hrun
    refine ⟨_, rfl, ?_⟩
    exact (if_neg (by simp [otherScanRow_of_mode hm])).trans (hanswer hm hset)
  · have hm : scanMode? (u8 p 0) = some .continuous := by rw [hmode]; rfl
    obtain ⟨es, hcycle, hengines⟩ := State.scanCycle_cycled
      (s := s0.setScan (s0.scan.setTo .continuous period).periodStarted) hs
    have hset : s0.setScanMode .continuous period =
        { s0 with scan := (s0.scan.setTo .continuous period).periodStarted, engines := es } :=
      (if_neg hrun).trans hcycle
    refine ⟨_, es, rfl, hengines, ?_⟩
    exact (if_neg (by simp [otherScanRow_of_mode hm])).trans (hanswer hm hset)
  · have hm : scanMode? (u8 p 0) = some .single := by rw [hmode]; rfl
    obtain ⟨es, hcycle, hengines⟩ := State.scanCycle_cycled (s := s0.setScan (s0.scan.setTo .stopped period)) hs
    refine ⟨_, es, rfl, hengines, ?_⟩
    exact (if_neg (by simp [otherScanRow_of_mode hm])).trans (hanswer hm hcycle)
  · have hm : scanMode? (u8 p 0) = some .stopped := by rw [hmode]; rfl
    refine ⟨_, s0.engines.map Engine.removeAllScan, rfl, fun t => Table.get_map .., ?_⟩
    exact (if_neg (by simp [otherScanRow_of_mode hm])).trans (hanswer hm rfl)

end Sys2Proof.Machine
end

section
/-! Survey Cancel (R38), and the end of a frame with the arbiter's next choice (R36, R159 to R161, R164, R165, R175). -/

namespace Sys2Proof.Machine

open Sys2Proof

/-! ### The slot of a tag (R33, R38) -/

theorem OrderSlot.tag_eq_some {o : OrderSlot} {tag : Byte} :
    o.tag = some tag ↔ ∃ q, o = .held q ∧ q.tag = tag := by
  cases o <;> simp [OrderSlot.tag]

/-- No slot is found for a tag that no held order has. -/
theorem State.slotOfTag_eq_none {s : State} {tag : Byte} (h : ∀ k o, s.slot k = .held o → o.tag ≠ tag) :
    s.slotOfTag tag = none := by
  refine List.find?_eq_none.mpr fun k _ hk => ?_
  obtain ⟨q, hq, ht⟩ := OrderSlot.tag_eq_some.mp (beq_iff_eq.mp hk)
  exact h k q hq ht

/-- The slot found for a tag holds an order with it. -/
theorem State.slotOfTag_eq_some {s : State} {tag : Byte} {k : SlotId} (h : s.slotOfTag tag = some k) :
    ∃ q, s.slot k = .held q ∧ q.tag = tag := by
  have hk := List.find?_some h
  exact OrderSlot.tag_eq_some.mp (beq_iff_eq.mp hk)

/-- A slot is found for the tag of a held order. -/
theorem State.slotOfTag_isSome {s : State} {tag : Byte} {k : SlotId} {o : SurveyOrder} (ho : s.slot k = .held o)
    (ht : o.tag = tag) : (s.slotOfTag tag).isSome = true := by
  refine List.find?_isSome.mpr ⟨k, List.mem_finRange k, beq_iff_eq.mpr ?_⟩
  exact OrderSlot.tag_eq_some.mpr ⟨o, ho, ht⟩

/-- The slot found for a tag is the one order's that has it. -/
theorem State.slotOfTag_of_held {s : State} {tag : Byte} {k : SlotId} {o : SurveyOrder} (ho : s.slot k = .held o)
    (ht : o.tag = tag) (hone : ∀ j q, s.slot j = .held q → q.tag = tag → j = k) : s.slotOfTag tag = some k := by
  obtain ⟨j, hj⟩ := Option.isSome_iff_exists.mp (State.slotOfTag_isSome ho ht)
  obtain ⟨q, hq, htag⟩ := State.slotOfTag_eq_some hj
  rw [hj, hone j q hq htag]

/-! ### Survey Cancel (R38) -/

theorem surveyCancelWork_notFound {s : State} {named : Byte} (h : ∀ k o, s.slot k = .held o → o.tag ≠ named) :
    surveyCancelWork [named] s = (s, Reply.bare .notFound) := by
  rw [surveyCancelWork, show ([named] : List Byte).getD 0 0 = named from rfl, State.slotOfTag_eq_none h]

theorem surveyCancelWork_found {s : State} {named : Byte} {k : SlotId} {o : SurveyOrder} (ho : s.slot k = .held o)
    (hk : s.slotOfTag named = some k) :
    surveyCancelWork [named] s = (s.cancelOrder k (o.outstanding - s.waitingOfOrder k),
      ⟨.ok, [named, byte (o.points.length - o.outstanding), byte (s.waitingOfOrder k),
        byte (o.outstanding - s.waitingOfOrder k)]⟩) := by
  rw [surveyCancelWork, show ([named] : List Byte).getD 0 0 = named from rfl, hk]
  dsimp only
  rw [ho]

theorem State.waitingOfOrder_eq (s : State) (k : SlotId) : s.waitingOfOrder k =
    (((s.engine 0).waitList ++ (s.engine 1).waitList).filter fun i => i.isOfSlot k).length := by
  rw [List.filter_append, List.length_append]
  rfl

/-- Settles O29: the slot is the one with the tag, and `State.cancelOrder` says what goes. -/
theorem surveyCancelDropsTheOrder : Obligations.SurveyCancelDropsTheOrder := by
  refine fun s s0 tag named hb => ⟨fun hno => ?_, fun k o removed ho ht hone hr => ?_⟩
  · exact runRequest_answered (v := surveyCancelService) (by decide) hb rfl (surveyCancelWork_notFound hno) rfl
  · subst hr
    rw [← s0.waitingOfOrder_eq]
    have hwork := surveyCancelWork_found ho (State.slotOfTag_of_held ho ht hone)
    generalize hn : o.outstanding - s0.waitingOfOrder k = n at hwork
    refine ⟨(s0.cancelOrder k n).engines, (s0.cancelOrder k n).slots, ?_, s0.engine_cancelOrder k n, ?_, fun j hj => ?_⟩
    · exact runRequest_answered (v := surveyCancelService) (by decide) hb rfl hwork rfl
    · refine (s0.slot_cancelOrder k k n).trans ?_
      rw [if_pos rfl]
      rfl
    · exact (s0.slot_cancelOrder j k n).trans (if_neg hj)

/-! ### What the arbiter chooses for an idle line (R164, R165) -/

theorem State.arbitrate_of_reply {s : State} {f : OutFrame} {rest : List OutFrame} (hl : s.port.line = none)
    (hd : s.port.resetDue = false) (h : s.port.replies = f :: rest) :
    s.arbitrate = s.setPort { s.port with replies := rest, line := some f, wire := f.onWire } := by
  unfold State.arbitrate
  rw [if_neg (by simp [hl, hd]), h]
  simp [Port.send, OutFrame.wireBytes_eq_onWire]

theorem State.arbitrate_of_urgent {s : State} {src : Source} {rest : List Source} (hl : s.port.line = none)
    (hd : s.port.resetDue = false) (h : s.port.replies = []) (hu : s.port.urgent = src :: rest) :
    s.arbitrate = s.setPort { s.port with urgent := rest, line := some (s.noticeFrame src),
                                          wire := (s.noticeFrame src).onWire } := by
  unfold State.arbitrate
  rw [if_neg (by simp [hl, hd]), h, hu]
  simp [Port.send, OutFrame.wireBytes_eq_onWire]

theorem State.arbitrate_of_routine {s : State} {src : Source} {rest : List Source} (hl : s.port.line = none)
    (hd : s.port.resetDue = false) (h : s.port.replies = []) (hu : s.port.urgent = [])
    (hr : s.port.routine = src :: rest) :
    s.arbitrate = s.setPort { s.port with routine := rest, line := some (s.noticeFrame src),
                                          wire := (s.noticeFrame src).onWire } := by
  unfold State.arbitrate
  rw [if_neg (by simp [hl, hd]), h, hu, hr]
  simp [Port.send, OutFrame.wireBytes_eq_onWire]

/-- The transmit pair carries the frame the arbiter has chosen, or none (R159, R164). -/
theorem State.arbitrate_wireSound {s : State} (h : s.wireSound) : s.arbitrate.wireSound := by
  unfold State.arbitrate
  repeat' split
  all_goals first
    | exact h
    | exact OutFrame.wireBytes_eq_onWire _

/-- The arbiter leaves the receiver, the requests, the execution and the mask alone. -/
theorem State.arbitrate_port (s : State) : s.arbitrate.port =
    { s.port with line := s.arbitrate.port.line, wire := s.arbitrate.port.wire, replies := s.arbitrate.port.replies,
                  urgent := s.arbitrate.port.urgent, routine := s.arbitrate.port.routine } := by
  unfold State.arbitrate
  repeat' split
  all_goals rfl

/-! ### The end of a frame (R36, R161, R164, R175) -/

/-- The port when the frame in line has been sent (R161, R164, R175). -/
def Port.frameSent (p : Port) (f : OutFrame) : Port :=
  { p with line := none, wire := [],
           executing := if f.role = .restartReply then p.executing.map Execution.replySent else p.executing }

/-- The order slots when a frame has been sent: a report's is FREE (R36). -/
theorem State.sentFrame_eq {s : State} {f : OutFrame} (h : s.port.line = some f) :
    ∃ ks, s.sentFrame = { s with port := s.port.frameSent f, slots := ks }
      ∧ ∀ k, ks.get k = if f.role = .report k ∧ s.slot k = .reporting then .free else s.slot k := by
  have hsent : s.sentFrame = (s.setPort { s.port with line := none, wire := [] }).afterFrame f.role := by
    rw [State.sentFrame, h]
  rw [hsent]
  unfold State.afterFrame Port.frameSent
  cases hrole : f.role with
  | report j =>
    refine ⟨_, rfl, fun k => ?_⟩
    refine (Table.get_set ..).trans ?_
    by_cases hk : k = j
    · subst hk
      rw [if_pos rfl]
      show (s.slot k).reported = _
      cases hs : s.slot k <;> simp [OrderSlot.reported]
    · rw [if_neg hk, if_neg fun hr => hk (FrameRole.report.inj hr.1).symm]
      rfl
  | reply => exact ⟨s.slots, rfl, fun k => (if_neg fun h => nomatch h.1).symm⟩
  | restartReply => exact ⟨s.slots, rfl, fun k => (if_neg fun h => nomatch h.1).symm⟩
  | portFull => exact ⟨s.slots, rfl, fun k => (if_neg fun h => nomatch h.1).symm⟩
  | notice src => exact ⟨s.slots, rfl, fun k => (if_neg fun h => nomatch h.1).symm⟩

/-- Settles O12: the part without the frame that was in line, and the arbiter's choice from it. -/
theorem frameSentFreesAndChooses : Obligations.FrameSentFreesAndChooses := by
  refine ⟨fun s f hp hline hdue => ?_, fun s hp hl => ?_⟩
  · obtain ⟨ks, hsent, hslots⟩ := State.sentFrame_eq hline
    have hexec : exec .frameSent s = .next s.sentFrame.arbitrate := if_pos hp
    rw [hsent] at hexec
    generalize hu : ({ s with port := s.port.frameSent f, slots := ks } : State) = u at hexec
    have hport : u.port = s.port.frameSent f := by rw [← hu]
    have hbody (src : Source) : u.noticeBody src = s.noticeBody src := by
      rw [← hu]
      cases src <;> rfl
    have hlast : u.port.line = none := by rw [hport]; rfl
    have harb := u.arbitrate_port
    rw [hport] at harb
    refine ⟨_, hexec, fun k => ?_, ?_, ?_, ?_, ?_, ?_, fun hr he => ?_, fun hr => ?_⟩
    · rw [u.arbitrate_eq, ← hu]
      exact hslots k
    · rw [harb]; rfl
    · rw [harb]; rfl
    · rw [harb]; rfl
    · refine State.arbitrate_wireSound ?_
      rw [State.wireSound, hport]
      rfl
    · rw [u.arbitrate_eq, ← hu]
      rfl
    · have hexecuting : u.port.executing = some (.warmRestart true) := by
        rw [hport, Port.frameSent, if_pos hr, he]
        rfl
      rw [u.arbitrate_of_busy (.inr (by simp [Port.resetDue, hexecuting]))]
      refine ⟨hexecuting, hlast, ?_⟩
      rw [hport]
      exact ⟨rfl, rfl, rfl⟩
    · have hexecuting : u.port.executing = s.port.executing := by
        rw [hport, Port.frameSent, if_neg hr]
      have hnot : u.port.resetDue = false := by
        rw [Port.resetDue, hexecuting]
        exact hdue
      have hreplies : u.port.replies = s.port.replies := by rw [hport]; rfl
      have hurgent : u.port.urgent = s.port.urgent := by rw [hport]; rfl
      have hroutine : u.port.routine = s.port.routine := by rw [hport]; rfl
      have hnotice (src : Source) : u.noticeFrame src = ⟨.notice src, src.kind, 0, s.noticeBody src⟩ := by
        rw [State.noticeFrame, hbody]
      refine ⟨?_, fun r rest h => ?_, fun h src rest hs => ?_, fun h h' src rest hs => ?_, fun h h' h'' => ?_⟩
      · rw [u.arbitrate_port]
        exact hexecuting
      · rw [State.arbitrate_of_reply hlast hnot (hreplies.trans h)]
        exact ⟨rfl, rfl, hurgent, hroutine⟩
      · rw [State.arbitrate_of_urgent hlast hnot (hreplies.trans h) (hurgent.trans hs), hnotice]
        exact ⟨rfl, hreplies.trans h, rfl, hroutine⟩
      · rw [State.arbitrate_of_routine hlast hnot (hreplies.trans h) (hurgent.trans h') (hroutine.trans hs), hnotice]
        exact ⟨rfl, hreplies.trans h, hurgent.trans h', rfl⟩
      · rw [State.arbitrate_of_empty u (hreplies.trans h) (hurgent.trans h') (hroutine.trans h'')]
        exact ⟨hlast, hreplies.trans h, hurgent.trans h', hroutine.trans h''⟩
  · have hl' : (s.setPort { s.port with rx := [] }).lineSound := hl
    exact (if_pos hp).trans (congrArg Host.Outcome.next (State.arbitrate_of_lineSound _ hl'))

end Sys2Proof.Machine
end

section
/-! The execution of a request leaves the requests that wait alone, and a request row is that execution (R161 to R163):
so the requests that waited are served one after another. -/

namespace Sys2Proof.Machine

open Sys2Proof

/-! ### Of the port only the notice queue and its mask -/

/-- Of the port, t differs from s only in the notice queue and its mask. -/
def State.noticesOnly (s t : State) : Prop := ∃ u r m, t.port = { s.port with urgent := u, routine := r, mask := m }

theorem State.noticesOnly.of_port {s t : State} (h : t.port = s.port) : s.noticesOnly t :=
  ⟨s.port.urgent, s.port.routine, s.port.mask, h⟩

theorem State.noticesOnly.refl (s : State) : s.noticesOnly s := .of_port rfl

theorem State.noticesOnly.trans {s t v : State} (h : s.noticesOnly t) (h' : t.noticesOnly v) : s.noticesOnly v := by
  obtain ⟨u, r, m, h⟩ := h
  obtain ⟨u', r', m', h'⟩ := h'
  exact ⟨u', r', m', by rw [h', h]⟩

theorem State.noticesOnly.waiting {s t : State} (h : s.noticesOnly t) : t.port.waiting = s.port.waiting := by
  obtain ⟨u, r, m, h⟩ := h
  rw [h]

/-- What evaluations do after operations that leave the port alone. -/
theorem State.evaluationKeeps.noticesOnly {s t v : State} (h : t.evaluationKeeps v) (ht : t.port = s.port) :
    s.noticesOnly v :=
  (State.noticesOnly.of_port ht).trans ⟨_, _, t.port.mask, h.port⟩

theorem State.eventsOnly.noticesOnly {s t : State} (h : s.eventsOnly t) : s.noticesOnly t :=
  h.handedOn.keeps.noticesOnly rfl

theorem State.raise_noticesOnly (s : State) (src : Source) (u : Urgency) : s.noticesOnly (s.raise src u) :=
  (s.raise_eventsOnly src u).noticesOnly

theorem State.changeMap_noticesOnly (s : State) (m : ZoneMap) : s.noticesOnly (s.changeMap m) :=
  (State.evaluateAll_keeps (s.setMap m) _).noticesOnly rfl

theorem State.changeMaxAge_noticesOnly (s : State) (age : Nat) : s.noticesOnly (s.changeMaxAge age) :=
  (s.changeMaxAge_keeps age).noticesOnly rfl

theorem State.changeChannel_noticesOnly (s : State) (c : ChannelId) (r : Channel) :
    s.noticesOnly (s.changeChannel c r) := by
  have hraise : s.noticesOnly ((s.setChannel c r).raiseLeak c (s.channel c).state r.state) := by
    unfold State.raiseLeak
    split
    exacts [(State.noticesOnly.of_port rfl).trans (State.raise_noticesOnly ..), .of_port rfl]
  unfold State.changeChannel
  dsimp only
  split
  · exact .of_port rfl
  · split
    exacts [hraise.trans ((State.evaluateAll_keeps ..).noticesOnly rfl), hraise.trans (.of_port rfl)]

theorem State.resetChannel_noticesOnly (s : State) (c : ChannelId) (r : Channel) :
    s.noticesOnly (s.resetChannel c r) := by
  refine .trans ?_ (State.changeChannel_noticesOnly _ c r)
  unfold State.discardGate
  split
  exacts [.of_port rfl, .refl s]

/-! ### The requests that are one step -/

theorem defineProbeWork_noticesOnly (p : List Byte) (s : State) : s.noticesOnly (defineProbeWork p s).1 := by
  unfold defineProbeWork
  split
  exacts [(State.evaluateAt_keeps ..).noticesOnly rfl, .refl s]

theorem retireProbeWork_noticesOnly (p : List Byte) (s : State) : s.noticesOnly (retireProbeWork p s).1 := by
  unfold retireProbeWork
  repeat' split
  exacts [.refl s, (State.evaluateAt_keeps ..).noticesOnly rfl, .refl s]

theorem noticeMaskWork_noticesOnly (p : List Byte) (s : State) : s.noticesOnly (noticeMaskWork p s).1 := by
  unfold noticeMaskWork
  split
  exacts [.refl s, ⟨_, _, _, rfl⟩]

theorem trunkRestartWork_noticesOnly (p : List Byte) (s : State) : s.noticesOnly (trunkRestartWork p s).1 := by
  unfold trunkRestartWork
  repeat' split
  exacts [.refl s, (State.noticesOnly.of_port rfl).trans (State.raise_noticesOnly ..), .refl s]

theorem trunkSetupWork_noticesOnly (p : List Byte) (s : State) : s.noticesOnly (trunkSetupWork p s).1 := by
  unfold trunkSetupWork
  split
  exacts [.refl s, .of_port rfl]

theorem scanSetupWork_noticesOnly (p : List Byte) (s : State) : s.noticesOnly (scanSetupWork p s).1 := by
  unfold scanSetupWork
  split
  · exact .refl s
  · next mode _ =>
    obtain ⟨t, es, h⟩ := s.setScanMode_eq mode (scanPeriod (u16 p 1))
    exact (State.noticesOnly.of_port (by rw [h])).trans (State.changeMaxAge_noticesOnly ..)

theorem surveyCancelWork_noticesOnly (p : List Byte) (s : State) : s.noticesOnly (surveyCancelWork p s).1 := by
  unfold surveyCancelWork
  repeat' split
  exacts [.refl s, .of_port rfl, .refl s, .refl s, .refl s]

theorem mapPointWork_noticesOnly (p : List Byte) (s : State) : s.noticesOnly (mapPointWork p s).1 := by
  unfold mapPointWork
  repeat' split
  exacts [s.changeMap_noticesOnly _, .refl s, .refl s]

theorem unmapPointWork_noticesOnly (p : List Byte) (s : State) : s.noticesOnly (unmapPointWork p s).1 := by
  unfold unmapPointWork
  repeat' split
  exacts [.refl s, .refl s, s.changeMap_noticesOnly _]

theorem mapSpanWork_noticesOnly (p : List Byte) (s : State) : s.noticesOnly (mapSpanWork p s).1 := by
  unfold mapSpanWork State.mapSpan
  repeat' split
  exacts [.refl s, s.changeMap_noticesOnly _, .refl s, s.changeMap_noticesOnly _, .refl s, .refl s]

theorem unmapSpanWork_noticesOnly (p : List Byte) (s : State) : s.noticesOnly (unmapSpanWork p s).1 := by
  unfold unmapSpanWork
  repeat' split
  exacts [.refl s, .refl s, s.changeMap_noticesOnly _, .refl s]

theorem zoneSetupWork_noticesOnly (p : List Byte) (s : State) : s.noticesOnly (zoneSetupWork p s).1 := by
  unfold zoneSetupWork
  dsimp only
  repeat' split
  exacts [.refl s, (State.evaluate_keeps ..).noticesOnly rfl, .refl s]

theorem zoneOnWork_noticesOnly (p : List Byte) (s : State) : s.noticesOnly (zoneOnWork p s).1 := by
  unfold zoneOnWork
  repeat' split
  exacts [.refl s, .refl s, (State.handOn_handedOn ..).keeps.noticesOnly rfl]

theorem zoneOffWork_noticesOnly (p : List Byte) (s : State) : s.noticesOnly (zoneOffWork p s).1 := by
  unfold zoneOffWork
  repeat' split
  exacts [.refl s, (State.handOn_handedOn ..).keeps.noticesOnly rfl, .refl s]

theorem leakSetupWork_noticesOnly (p : List Byte) (s : State) : s.noticesOnly (leakSetupWork p s).1 := by
  unfold leakSetupWork
  split
  exacts [s.resetChannel_noticesOnly .., .refl s]

theorem leakRecalibrateWork_noticesOnly (p : List Byte) (s : State) : s.noticesOnly (leakRecalibrateWork p s).1 := by
  unfold leakRecalibrateWork
  repeat' split
  exacts [.refl s, .refl s, s.resetChannel_noticesOnly ..]

theorem lineSetupWork_noticesOnly (p : List Byte) (s : State) : s.noticesOnly (lineSetupWork p s).1 := by
  unfold lineSetupWork
  split
  exacts [.of_port rfl, .refl s]

theorem lineReleaseWork_noticesOnly (p : List Byte) (s : State) : s.noticesOnly (lineReleaseWork p s).1 := by
  unfold lineReleaseWork
  repeat' split
  all_goals exact .of_port rfl

theorem eventAckWork_noticesOnly (p : List Byte) (s : State) : s.noticesOnly (eventAckWork p s).1 := by
  unfold eventAckWork
  repeat' split
  all_goals first
    | exact .refl s
    | exact (s.setRecord_eventsOnly ..).noticesOnly
    | exact (s.removeRecord_eventsOnly ..).noticesOnly

/-- Before its reply, a request that is one step touches of the port only the notice queue and its mask; ten of them
only read. -/
theorem work_noticesOnly : ∀ v ∈ requestServices, ∀ (p : List Byte) (s : State), s.noticesOnly (v.work p s).1 := by
  simp only [requestServices, List.forall_mem_cons]
  refine ⟨?identify, ?summary, noticeMaskWork_noticesOnly, defineProbeWork_noticesOnly, retireProbeWork_noticesOnly,
    ?probeQuery, trunkRestartWork_noticesOnly, trunkSetupWork_noticesOnly, scanSetupWork_noticesOnly,
    surveyCancelWork_noticesOnly, mapPointWork_noticesOnly, mapSpanWork_noticesOnly, unmapPointWork_noticesOnly,
    unmapSpanWork_noticesOnly, ?mapQuery, zoneSetupWork_noticesOnly, zoneOnWork_noticesOnly, zoneOffWork_noticesOnly,
    ?zoneQuery, leakSetupWork_noticesOnly, leakRecalibrateWork_noticesOnly, ?leakQuery, lineSetupWork_noticesOnly,
    lineReleaseWork_noticesOnly, ?lineQuery, ?eventList, ?eventQuery, eventAckWork_noticesOnly,
    fun v hv => absurd hv List.not_mem_nil⟩
  all_goals exact fun p s => .refl s

/-! ### Every execution -/

theorem State.offerSurvey_waiting (s : State) (t : Trunk) (i : Item) :
    (s.offerSurvey t i).port.waiting = s.port.waiting := by
  unfold State.offerSurvey
  split
  · obtain ⟨ks, fs, h⟩ := s.settleHalted_ordersOnly i
    rw [h]
  · rfl

theorem State.offerPoints_waiting (s : State) (k : SlotId) (points : List Addr) :
    (s.offerPoints k points).port.waiting = s.port.waiting := by
  unfold State.offerPoints
  generalize points.zipIdx = xs
  induction xs generalizing s with
  | nil => rfl
  | cons x xs ih => exact (ih _).trans (s.offerSurvey_waiting ..)

/-- The execution of a request leaves those that wait alone (R162). -/
theorem State.execute_waiting (s : State) (r : Request) : (s.execute r).port.waiting = s.port.waiting := by
  unfold State.execute
  split
  · unfold State.runKeepSettings
    split <;> rfl
  · split
    · unfold State.runWarmRestart
      split <;> rfl
    · split
      · unfold State.runSurvey
        split
        exacts [rfl, State.offerPoints_waiting ..]
      · split
        · next v hv =>
          unfold Service.run
          split
          exacts [(work_noticesOnly v (List.mem_of_find?_eq_some hv) _ s).waiting, rfl]
        · rfl

/-- With nothing executing, the oldest waiting request leaves the others to wait. -/
theorem State.startNext_waiting {s : State} {r : Request} {rest : List Request} (he : s.port.executing = none)
    (hw : s.port.waiting = r :: rest) : s.startNext.port.waiting = rest := by
  rw [s.startNext_of_waiting he hw, State.arbitrate_port]
  exact State.execute_waiting ..

/-- With nothing executing, the waiting requests are served from the oldest on (R162). -/
theorem State.serveWaiting_of_waiting {s : State} {r : Request} {rest : List Request} (he : s.port.executing = none)
    (hw : s.port.waiting = r :: rest) : s.serveWaiting = s.startNext.serveWaiting := by
  rw [State.serveWaiting, hw, State.serveWaiting, State.startNext_waiting he hw]
  rfl

/-! ### Rows and executions (R163, R180) -/

/-- A kind that is no request kind is refused (R163). -/
theorem State.execute_unknown (s : State) {r : Request} (h : r.kind ∉ requestKinds) :
    s.execute r = s.runUnknownKind r.kind r.tag := by
  have hne {k : Byte} (hk : k ∈ requestKinds) : r.kind ≠ k := fun hr => h (hr ▸ hk)
  have hnone : requestServices.find? (·.kind == r.kind) = none := by
    refine List.find?_eq_none.mpr fun v hv hk => ?_
    have hkinds : ∀ v ∈ requestServices, v.kind ∈ requestKinds := by decide
    exact hne (hkinds v hv) (beq_iff_eq.mp hk).symm
  rw [State.execute, if_neg (hne (by decide)), if_neg (hne (by decide)), if_neg (hne (by decide)), hnone]

/-- A Scan Setup payload of another length is of no other row (assumption 21). -/
theorem otherScanRow_of_length {p : List Byte} (h : p.length ≠ 5) (mode : ScanMode) : otherScanRow p mode = false := by
  simp [otherScanRow, h]

theorem otherLeakRow_of_length {p : List Byte} (h : p.length ≠ 6) (enabled : Bool) : otherLeakRow p enabled = false := by
  simp [otherLeakRow, h]

/-- A request row, with a payload that is of the row, is the execution of its request where it is admitted (R162,
R180). -/
theorem exec_of_row : ∀ row ∈ requestRows, ∀ (tag : Byte) (p : List Byte) (s : State), row.2.2 p = true →
    exec (row.1 tag p) s = whenAdmitted ⟨row.2.1, tag, p⟩ (fun s => s.execute ⟨row.2.1, tag, p⟩) s := by
  simp only [requestRows, List.forall_mem_cons]
  refine ⟨?identify, ?summary, ?keepSettings, ?warmRestart, ?noticeMask, ?defineProbe, ?retireProbe, ?probeQuery,
    ?trunkRestart, ?trunkSetup, ?scanContinuous, ?scanSingle, ?scanStopped, ?survey, ?surveyCancel, ?mapPoint,
    ?mapSpan, ?unmapPoint, ?unmapSpan, ?mapQuery, ?zoneSetup, ?zoneOn, ?zoneOff, ?zoneQuery, ?leakEnable, ?leakDisable,
    ?leakRecalibrate, ?leakQuery, ?lineSetup, ?lineRelease, ?lineQuery, ?eventList, ?eventQuery, ?eventAck,
    fun row hrow => absurd hrow List.not_mem_nil⟩
  case scanContinuous =>
    intro tag p s h
    have hmode : u8 p 0 = 1 := by simp at h; exact h.2
    exact if_neg (by simp [otherScanRow_of_mode (mode := .continuous) (by rw [hmode]; rfl)])
  case scanSingle =>
    intro tag p s h
    have hmode : u8 p 0 = 2 := by simp at h; exact h.2
    exact if_neg (by simp [otherScanRow_of_mode (mode := .single) (by rw [hmode]; rfl)])
  case scanStopped =>
    intro tag p s h
    have hrow : otherScanRow p .stopped = false := by
      simp only [Bool.or_eq_true, bne_iff_ne, beq_iff_eq, decide_eq_true_eq] at h
      obtain (h | h) | h := h
      · exact otherScanRow_of_length h _
      · exact otherScanRow_of_mode (by rw [h]; rfl)
      · exact otherScanRow_of_unlisted h _
    exact if_neg (by simp [hrow])
  case leakEnable =>
    intro tag p s h
    have henable : u8 p 1 = 1 := by simp at h; exact h.2
    exact if_neg (by simp [otherLeakRow_eq_false (enabled := true) (.inr henable)])
  case leakDisable =>
    intro tag p s h
    have hrow : otherLeakRow p false = false := by
      simp only [Bool.or_eq_true, bne_iff_ne] at h
      obtain h | h := h
      · exact otherLeakRow_of_length h _
      · exact otherLeakRow_eq_false (by simp; omega)
    exact if_neg (by simp [hrow])
  all_goals exact fun tag p s h => rfl

end Sys2Proof.Machine
end

section
/-! Keep Settings, from its start to its end, and the settings after a loss of power (R30, R70, R110, R124, R162, R171 to
R173). -/

namespace Sys2Proof.Machine

open Sys2Proof

/-! ### Keep Settings (R171, R172) -/

/-- Keep Settings where its execution begins: the image stands in the store, and no reply is completed yet. -/
theorem execKeepSettings_of_begins {s s0 : State} {tag : Byte} (hb : s.begins ⟨0x03, tag, []⟩ s0)
    (hl : s.lineSound) : exec (.keepSettings tag []) s = .next (s0.beginKeep tag) := by
  have hport : s0.port.line = s.port.line ∧ s0.port.replies = s.port.replies ∧ s0.port.urgent = s.port.urgent
      ∧ s0.port.routine = s.port.routine ∧ s.port.resetDue = false := by
    obtain ⟨-, he, ⟨-, -, rfl⟩ | ⟨rest, -, rfl⟩⟩ := hb <;> exact ⟨rfl, rfl, rfl, rfl, by simp [Port.resetDue, he]⟩
  obtain ⟨hline, hreplies, hurgent, hroutine, hdue⟩ := hport
  have hl' : (s0.beginKeep tag).lineSound := fun hnone => by
    obtain h | ⟨h1, h2, h3⟩ := hl (hline.symm.trans hnone)
    · exact absurd (hdue.symm.trans h) (by simp)
    · exact .inr ⟨hreplies.trans h1, hurgent.trans h2, hroutine.trans h3⟩
  show whenAdmitted _ _ s = _
  rw [whenAdmitted_of_begins hb, finish, State.runKeepSettings, if_pos (show ([] : List Byte).length = 0 from rfl),
    State.arbitrate_of_lineSound _ hl']

/-- The part when Keep Settings has ended: its reply completed, and the requests that waited not served yet (R172). -/
def State.kept (s : State) (tag : Byte) (agrees : Bool) : State :=
  ({ s with
      defaulted := if agrees then false else s.defaulted
      store := if agrees then { s.store with check := s.store.contents.check } else { s.store with markedInvalid := true }
      port := { s.port with executing := none } } : State).answered
    (replyTo 0x03 tag (if agrees then .ok else .storeFailed) [])

theorem execKeepSettingsDone_eq {s : State} {tag : Byte} (agrees : Bool) (hp : s.power = .running)
    (he : s.port.executing = some (.keepSettings tag)) :
    exec (.keepSettingsDone agrees) s = .next (s.kept tag agrees).serveWaiting := by
  have hdone : (s.keepDone agrees).arbitrate = s.kept tag agrees := by
    rw [State.keepDone, he]
    cases agrees with
    | true => exact State.arbitrate_queueFrame _ _ rfl
    | false => exact State.arbitrate_queueFrame _ _ rfl
  refine (if_pos hp).trans ?_
  rw [hdone]

/-- Settles O6: the image field by field; at the end the waiting requests are served from the oldest on, each as its
row says. -/
theorem keepSettingsTakesAndJudges : Obligations.KeepSettingsTakesAndJudges := by
  refine ⟨fun s s0 tag hb hl => ?_, fun s tag agrees hp he => ?_⟩
  · exact ⟨s0.image, execKeepSettings_of_begins hb hl, fun a => Table.get_map .., rfl, fun z => Table.get_map ..,
      fun c => Table.get_map .., fun l => Table.get_map .., fun t => Table.get_map .., rfl, rfl, rfl, rfl⟩
  · have hidle : (s.kept tag agrees).port.executing = none := rfl
    refine ⟨s.kept tag agrees, execKeepSettingsDone_eq agrees hp he, rfl,
      fun hw => State.serveWaiting_eq_self _ (.inl hw), fun r rest hw hr => ?_, fun row hrow tag' p rest u hw hp' hu => ?_⟩
    · have hw' : (s.kept tag agrees).port.waiting = r :: rest := hw
      rw [State.serveWaiting_of_waiting hidle hw', State.startNext_of_waiting _ hidle hw', State.execute_unknown _ hr,
        State.runUnknownKind, State.completeReply, State.arbitrate_queueFrame _ _ rfl, replyFrame, replyKind,
        if_neg (by simpa using hr)]
      rfl
    · have hw' : (s.kept tag agrees).port.waiting = ⟨row.2.1, tag', p⟩ :: rest := hw
      have hb : (s.kept tag agrees).begins ⟨row.2.1, tag', p⟩ _ := ⟨hp, hidle, .inr ⟨rest, hw', rfl⟩⟩
      rw [exec_of_row row hrow tag' p _ hp', whenAdmitted_of_begins hb, finish] at hu
      cases hu
      rw [State.serveWaiting_of_waiting hidle hw', State.startNext_of_waiting _ hidle hw']

/-! ### The settings after a loss of power -/

theorem Engine.cycled_settings (e : Engine) (ds : List Drop) : (e.cycled ds).settings = e.settings := by
  unfold Engine.cycled Engine.joined
  repeat' split
  all_goals rfl

/-- A channel started from its settings has them again: one that is OFF has no baseline (R110, R124). -/
theorem Channel.start_settings {enabled : Bool} {baseline : Option Nat} (h : enabled = false → baseline = none)
    (dw hy : Nat) : ((Channel.start enabled dw hy baseline).enabled, (Channel.start enabled dw hy baseline).dw,
      (Channel.start enabled dw hy baseline).hy, (Channel.start enabled dw hy baseline).baseline)
        = (enabled, dw, hy, baseline) := by
  cases enabled with
  | true => rfl
  | false =>
    rw [h rfl]
    rfl

/-- Records started from a table have its entries again. -/
theorem Table.map_map_cancel {α β : Type} {n : Nat} {t : Table α n} {f : α → β} {g : β → α}
    (h : ∀ i, g (f (t.get i)) = t.get i) : (t.map f).map g = t := by
  refine Table.ext_get fun i => ?_
  rw [Table.get_map, Table.get_map, h]

/-- The part that an image starts has the configuration of that image (R30, R70, R124, R173). -/
theorem State.image_startedFrom {s : State} {i : Image} (hmode : i.scanMode ≠ .single)
    (hoff : ∀ c, (i.channels.get c).1 = false → (i.channels.get c).2.2.2 = none) :
    (s.startedFrom i).startRound.resumeScan.image = i := by
  have hengine := s.startedFrom_engine i
  have hscan := s.startedFrom_scan i
  obtain ⟨sc, es, h⟩ := s.startedFrom_resumed i
  rw [h] at hengine hscan ⊢
  obtain rfl : sc = _ := hscan
  refine (Image.mk.injEq ..).mpr ⟨?probes, rfl, ?zones, ?channels, ?lines, ?scanMode, rfl, rfl, ?trunks, rfl⟩
  case probes => exact Table.map_map_cancel fun a => ProbeRecord.start_config _
  case zones => exact Table.map_map_cancel fun z => rfl
  case channels => exact Table.map_map_cancel fun c => Channel.start_settings (hoff c) _ _
  case lines => exact Table.map_map_cancel fun l => rfl
  case scanMode =>
    show (if i.scanMode = .continuous then ScanMode.continuous else .stopped) = i.scanMode
    cases hm : i.scanMode with
    | stopped => rfl
    | continuous => rfl
    | single => exact absurd hm hmode
  case trunks =>
    refine Table.ext_get fun t => ?_
    rw [Table.get_map]
    refine (congrArg Engine.settings (hengine t)).trans ?_
    split
    exacts [Engine.cycled_settings .., rfl]

/-- The load of a part whose store is valid: SETTINGS_DEFAULTED is clear, and the configuration is the stored one
(R173). -/
theorem execSettingsLoad_of_valid {s : State} (hp : s.power = .loading) (hv : s.store.valid = true)
    (hmode : s.store.contents.scanMode ≠ .single)
    (hoff : ∀ c, (s.store.contents.channels.get c).1 = false → (s.store.contents.channels.get c).2.2.2 = none) :
    ∃ t, exec .settingsLoad s = .next t ∧ t.defaulted = false ∧ t.image = s.store.contents := by
  have htoLoad : s.store.toLoad = s.store.contents := if_pos hv
  have himage := State.image_startedFrom (s := { s with defaulted := !s.store.valid }) hmode hoff
  obtain ⟨sc, es, h⟩ := State.startedFrom_resumed { s with defaulted := !s.store.valid } s.store.contents
  have hload : s.load = _ := (congrArg (fun i => (State.startedFrom _ i).startRound.resumeScan) htoLoad).trans h
  rw [h, ← hload] at himage
  refine ⟨s.load, ?_, ?_, himage⟩
  · show execSettingsLoad s = _
    rw [execSettingsLoad, if_pos hp, finish, hload]
    exact congrArg _ (State.arbitrate_of_empty _ rfl rfl rfl)
  · rw [hload]
    show (!s.store.valid) = false
    rw [hv]
    rfl

/-- Settles O7: Keep Settings leaves the image in a valid store, the loss of power keeps the store, and the load starts
every block from it. -/
theorem settingsSurvivePowerCycle : Obligations.SettingsSurvivePowerCycle := by
  intro s s0 tag hb hl hoff hw
  have hkept : ((s0.beginKeep tag).kept tag true).serveWaiting = (s0.beginKeep tag).kept tag true :=
    State.serveWaiting_eq_self _ (.inl hw)
  have hrun : (s0.beginKeep tag).power = .running := by
    obtain ⟨hp, -, ⟨-, -, rfl⟩ | ⟨rest, -, rfl⟩⟩ := hb <;> exact hp
  have hoff0 (c : ChannelId) : (s0.image.channels.get c).1 = false → (s0.image.channels.get c).2.2.2 = none := by
    have hchannel : s0.channel c = s.channel c := by
      obtain ⟨-, -, ⟨-, -, rfl⟩ | ⟨rest, -, rfl⟩⟩ := hb <;> rfl
    have hget : s0.image.channels.get c = ((s0.channel c).enabled, (s0.channel c).dw, (s0.channel c).hy,
        (s0.channel c).baseline) := Table.get_map ..
    rw [hget, hchannel]
    exact hoff c
  have hmode : s0.image.scanMode ≠ .single := by
    show (if s0.scan.mode = .continuous then ScanMode.continuous else .stopped) ≠ .single
    split <;> simp
  have hdone := execKeepSettingsDone_eq (s := s0.beginKeep tag) (tag := tag) true hrun rfl
  rw [hkept] at hdone
  have hvalid : Store.valid ⟨s0.image, s0.image.check, false⟩ = true := (Store.valid_iff _).mpr ⟨rfl, rfl⟩
  obtain ⟨t5, hexec, hdef, himage⟩ := execSettingsLoad_of_valid
    (s := State.unloaded .loading ⟨s0.image, s0.image.check, false⟩ s0.pending) rfl hvalid hmode hoff0
  exact ⟨_, _, _, _, t5, execKeepSettings_of_begins hb hl, hdone, rfl, rfl, hexec, hdef, himage⟩

end Sys2Proof.Machine
end

section
/-! The checks of a Survey request (R33, R180): its segments read, and the refusals in their order. -/

namespace Sys2Proof.Machine

open Sys2Proof

/-! ### Reading a list of fields -/

theorem mapM_eq_some_map {α β : Type} {f : α → Option β} {g : α → β} {xs : List α} (h : ∀ x ∈ xs, f x = some (g x)) :
    xs.mapM f = some (xs.map g) := by
  induction xs with
  | nil => rfl
  | cons x xs ih =>
    rw [List.mapM_cons, h x List.mem_cons_self, ih fun y hy => h y (List.mem_cons_of_mem _ hy)]
    rfl

theorem mapM_eq_none {α β : Type} {f : α → Option β} {xs : List α} {x : α} (hx : x ∈ xs) (h : f x = none) :
    xs.mapM f = none := by
  induction xs with
  | nil => cases hx
  | cons y ys ih =>
    rw [List.mapM_cons]
    obtain rfl | hx := List.mem_cons.mp hx
    · rw [h]
      rfl
    · rw [ih hx]
      cases f y <;> rfl

/-! ### Segments (R32, R33) -/

/-- A segment of a Survey request: trunk, first drop, count (R180). -/
abbrev Segment := Byte × Byte × Byte

/-- The part has every point of the segment, and there is one (R33). -/
def Segment.fits (g : Segment) : Prop := g.1.toNat ≤ 1 ∧ g.2.2 ≠ 0 ∧ g.2.1.toNat + g.2.2.toNat ≤ 32

/-- The points of a segment, ascending (R32). -/
def Segment.points (g : Segment) : List Addr :=
  allAddrs.filter fun a =>
    a.trunk.val == g.1.toNat && decide (g.2.1.toNat ≤ a.drop.val) && decide (a.drop.val < g.2.1.toNat + g.2.2.toNat)

/-- The bytes of segments (R180). -/
def segmentBytes (segments : List Segment) : List Byte := segments.flatMap fun g => [g.1, g.2.1, g.2.2]

theorem Segment.mem_points {g : Segment} {a : Addr} : a ∈ g.points ↔
    a.trunk.val = g.1.toNat ∧ g.2.1.toNat ≤ a.drop.val ∧ a.drop.val < g.2.1.toNat + g.2.2.toNat := by
  simp [Segment.points, mem_allAddrs, and_assoc]

theorem Segment.pairwise_points (g : Segment) : g.points.Pairwise fun a b => a.idx < b.idx :=
  pairwise_allAddrs.filter _

/-- Two lists of addresses, each ascending, with the same addresses, are equal. -/
theorem eq_of_pairwise_idx {xs ys : List Addr} (hx : xs.Pairwise fun a b => a.idx < b.idx)
    (hy : ys.Pairwise fun a b => a.idx < b.idx) (h : ∀ a, a ∈ xs ↔ a ∈ ys) : xs = ys := by
  have hnodup {zs : List Addr} (hz : zs.Pairwise fun a b => a.idx < b.idx) : zs.Nodup :=
    hz.imp fun {a b} hlt hab => by
      rw [hab] at hlt
      exact absurd hlt (lt_irrefl _)
  exact List.Perm.eq_of_pairwise (fun a b _ _ hab hba => absurd hab (not_lt_of_gt hba)) hx hy
    ((List.perm_ext_iff_of_nodup (hnodup hx) (hnodup hy)).mpr h)

/-- The address i drops above the first of a segment on a trunk. -/
def Segment.point (g : Segment) (t : Trunk) (i : Nat) : Addr := ⟨t, Fin.ofNat 32 (g.2.1.toNat + i)⟩

/-- The points of a segment that the part has (R33). -/
theorem Segment.segmentPoints_eq {g : Segment} (h : g.fits) :
    segmentPoints g.1.toNat g.2.1.toNat g.2.2.toNat = some g.points := by
  obtain ⟨ht, hc, hle⟩ := h
  have hcount : g.2.2.toNat ≠ 0 := fun h0 => hc (BitVec.eq_of_toNat_eq h0)
  obtain ⟨t, htrunk⟩ : ∃ t : Trunk, t.val = g.1.toNat := ⟨⟨g.1.toNat, by omega⟩, rfl⟩
  have hdrop {i : Nat} (hi : i < g.2.2.toNat) : (g.point t i).drop.val = g.2.1.toNat + i :=
    Nat.mod_eq_of_lt (by omega)
  have haddr : ∀ i ∈ List.range g.2.2.toNat, addr? g.1.toNat (g.2.1.toNat + i) = some (g.point t i) := by
    intro i hi
    have hi := List.mem_range.mp hi
    rw [addr?, ← htrunk, ← hdrop hi, fin?_val, fin?_val]
    rfl
  rw [segmentPoints, if_neg hcount, mapM_eq_some_map haddr]
  refine congrArg some (eq_of_pairwise_idx ?_ g.pairwise_points fun a => ?_)
  · rw [List.pairwise_map]
    refine List.pairwise_lt_range.imp_of_mem fun {i j} hi hj hlt => ?_
    rw [Fin.lt_def]
    show 32 * t.val + (g.point t i).drop.val < 32 * t.val + (g.point t j).drop.val
    rw [hdrop (List.mem_range.mp hi), hdrop (List.mem_range.mp hj)]
    omega
  · rw [Segment.mem_points, List.mem_map]
    constructor
    · rintro ⟨i, hi, rfl⟩
      have hi := List.mem_range.mp hi
      rw [hdrop hi]
      exact ⟨htrunk, by omega, by omega⟩
    · rintro ⟨hat, hlow, hhigh⟩
      refine ⟨a.drop.val - g.2.1.toNat, List.mem_range.mpr (by omega), ?_⟩
      obtain ⟨u, d⟩ := a
      have hu : t = u := Fin.ext (htrunk.trans hat.symm)
      have hd : (g.point t (d.val - g.2.1.toNat)).drop = d := by
        refine Fin.ext ?_
        rw [hdrop (by dsimp only at hhigh hlow; omega)]
        dsimp only at hlow
        omega
      rw [← hu]
      exact congrArg (Addr.mk t) hd

/-- A segment with a point that the part does not have, or with none, has no points (R33). -/
theorem Segment.segmentPoints_eq_none {g : Segment}
    (h : 1 < g.1.toNat ∨ g.2.2 = 0 ∨ 32 < g.2.1.toNat + g.2.2.toNat) :
    segmentPoints g.1.toNat g.2.1.toNat g.2.2.toNat = none := by
  unfold segmentPoints
  by_cases hc : g.2.2.toNat = 0
  · exact if_pos hc
  · rw [if_neg hc]
    refine mapM_eq_none (x := g.2.2.toNat - 1) (List.mem_range.mpr (by omega)) (addr?_eq_none ?_)
    obtain h | h | h := h
    · exact .inl h
    · exact absurd (congrArg BitVec.toNat h) hc
    · exact .inr (by omega)

/-- Reading one segment more: the first from its three bytes, the others from those after it. -/
theorem segmentsPoints_cons (g : Segment) (segments : List Segment) :
    segmentsPoints (segments.length + 1) (segmentBytes (g :: segments)) =
      (segmentPoints g.1.toNat g.2.1.toNat g.2.2.toNat).bind fun xs =>
        (segmentsPoints segments.length (segmentBytes segments)).map (xs ++ ·) := by
  have htrunk : u8 (segmentBytes (g :: segments)) 0 = g.1.toNat := rfl
  have hfirst : u8 (segmentBytes (g :: segments)) 1 = g.2.1.toNat := rfl
  have hcount : u8 (segmentBytes (g :: segments)) 2 = g.2.2.toNat := rfl
  have hrest : (segmentBytes (g :: segments)).drop 3 = segmentBytes segments := rfl
  rw [segmentsPoints, htrunk, hfirst, hcount, hrest]
  cases segmentPoints g.1.toNat g.2.1.toNat g.2.2.toNat <;>
    cases segmentsPoints segments.length (segmentBytes segments) <;> rfl

/-- The points of segments that the part has, in segment order (R32, R33). -/
theorem segmentsPoints_eq {segments : List Segment} (h : ∀ g ∈ segments, g.fits) :
    segmentsPoints segments.length (segmentBytes segments) = some (segments.flatMap Segment.points) := by
  induction segments with
  | nil => rfl
  | cons g segments ih =>
    obtain ⟨hg, h⟩ := List.forall_mem_cons.mp h
    rw [List.length_cons, segmentsPoints_cons, Segment.segmentPoints_eq hg, ih h]
    rfl

/-- One segment that the part does not have refuses them all (R33). -/
theorem segmentsPoints_eq_none {segments : List Segment}
    (h : ∃ g ∈ segments, 1 < g.1.toNat ∨ g.2.2 = 0 ∨ 32 < g.2.1.toNat + g.2.2.toNat) :
    segmentsPoints segments.length (segmentBytes segments) = none := by
  induction segments with
  | nil =>
    obtain ⟨g, hg, -⟩ := h
    cases hg
  | cons g segments ih =>
    rw [List.length_cons, segmentsPoints_cons]
    obtain ⟨x, hx, hbad⟩ := h
    obtain rfl | hx := List.mem_cons.mp hx
    · rw [Segment.segmentPoints_eq_none hbad]
      rfl
    · rw [ih ⟨x, hx, hbad⟩]
      cases segmentPoints g.1.toNat g.2.1.toNat g.2.2.toNat <;> rfl

theorem segmentBytes_length (segments : List Segment) : (segmentBytes segments).length = 3 * segments.length := by
  simp [segmentBytes, List.length_flatMap, Nat.mul_comm]

/-! ### The verdict (R33, R180) -/

/-- The checks from the points on: their number, the tag, a FREE slot (R33). -/
def State.judgePoints (s : State) (tag : Byte) (points : List Addr) : SurveyVerdict :=
  if 24 < points.length then .refused .badField
  else if (s.slotOfTag tag).isSome then .refused .duplicateTag
  else s.freeSlot.elim (.refused .surveyFull) (.accepted · points)

/-- A payload of up to eight segments passes the checks before the points (R33, R180). -/
theorem State.judgeSurvey_segments (s : State) (tag : Byte) {segments : List Segment} (h1 : 1 ≤ segments.length)
    (h8 : segments.length ≤ 8) :
    s.judgeSurvey tag (byte segments.length :: segmentBytes segments) =
      (segmentsPoints segments.length (segmentBytes segments)).elim (.refused .badField) (s.judgePoints tag) := by
  have hcount : u8 (byte segments.length :: segmentBytes segments) 0 = segments.length := byte_toNat (by omega)
  have hlength : (byte segments.length :: segmentBytes segments).length = 1 + 3 * segments.length := by
    rw [List.length_cons, segmentBytes_length, Nat.add_comm]
  rw [State.judgeSurvey, hcount, if_neg (by simp), if_neg (by omega), if_neg (by rw [hlength]; simp), List.drop_succ_cons,
    List.drop_zero]
  cases segmentsPoints segments.length (segmentBytes segments) with
  | none => rfl
  | some points =>
    dsimp only [Option.elim, State.judgePoints]
    cases s.freeSlot <;> rfl

theorem State.freeSlot_eq_none {s : State} (h : ∀ k, s.slot k ≠ .free) : s.freeSlot = none :=
  List.find?_eq_none.mpr fun k _ hk => h k (beq_iff_eq.mp hk)

/-- The lowest FREE slot (R34). -/
theorem State.freeSlot_eq_some {s : State} {k : SlotId} (h : s.slot k = .free) (hlow : ∀ j, j < k → s.slot j ≠ .free) :
    s.freeSlot = some k := by
  obtain ⟨pre, post, hlist, hpre⟩ := exists_append_of_pairwise (List.pairwise_lt_finRange 4) (List.mem_finRange k)
  refine List.find?_eq_some_iff_append.mpr ⟨beq_iff_eq.mpr h, pre, post, hlist, fun j hj => ?_⟩
  simpa using hlow j (hpre j hj)

/-! ### Refusals -/

/-- A Survey request that its checks refuse is answered with the status, and nothing else changes (R33). -/
theorem execSurvey_refused {s s0 : State} {tag : Byte} {p : List Byte} {status : Status}
    (hb : s.begins ⟨0x19, tag, p⟩ s0) (hj : s0.judgeSurvey tag p = .refused status) :
    exec (.survey tag p) s = .next (s0.answered (replyTo 0x19 tag status [])) := by
  show whenAdmitted _ _ s = _
  rw [whenAdmitted_of_begins hb, State.runSurvey, hj]
  dsimp only
  rw [finish_completeReply _ _ _ _ hb.notDue, Reply.bare, replyFrame_eq_replyTo (by decide)]

/-- A Survey request that its checks accept. -/
theorem execSurvey_accepted {s s0 : State} {tag : Byte} {p : List Byte} {k : SlotId} {points : List Addr}
    (hb : s.begins ⟨0x19, tag, p⟩ s0) (hj : s0.judgeSurvey tag p = .accepted k points) :
    exec (.survey tag p) s = .next (s0.acceptSurvey tag k points).arbitrate := by
  show whenAdmitted _ _ s = _
  rw [whenAdmitted_of_begins hb, State.runSurvey, hj]
  rfl

/-- The refusals of R33 that come before the segments are read (R180). -/
theorem State.judgeSurvey_badCount (s : State) (tag : Byte) {p : List Byte} :
    (p = [] → s.judgeSurvey tag p = .refused .badLength)
      ∧ (p ≠ [] → u8 p 0 = 0 ∨ 8 < u8 p 0 → s.judgeSurvey tag p = .refused .badField)
      ∧ (1 ≤ u8 p 0 → u8 p 0 ≤ 8 → p.length ≠ 1 + 3 * u8 p 0 → s.judgeSurvey tag p = .refused .badLength) := by
  unfold State.judgeSurvey
  refine ⟨fun hp => if_pos (by simp [hp]), fun hp hc => ?_, fun h1 h8 hl => ?_⟩
  · rw [if_neg (by simpa using hp), if_pos hc]
  · have hp : p ≠ [] := by
      rintro rfl
      exact absurd h1 (by decide)
    rw [if_neg (by simpa using hp), if_neg (by omega), if_pos hl]

end Sys2Proof.Machine
end

section
/-! An accepted survey order (R34 to R37): its items join the trunks that run, its other points settle at once, and
with no point left the order completes. -/

namespace Sys2Proof.Machine

open Sys2Proof

/-! ### Items join a running trunk (R8, R9) -/

theorem Engine.append_halted (e : Engine) (i : Item) : (e.append i).halted = e.halted := by
  unfold Engine.append
  obtain ⟨h, -⟩ | ⟨j, rest, -, -, -, h⟩ := Engine.takeHead_cases { e with waitList := e.waitList ++ [i] } <;> rw [h]

/-- A busy engine adds every item to its tail. -/
theorem Engine.foldl_append_of_not_free (items : List Item) {e : Engine} (hh : e.halted = false)
    (hf : e.free = false) : items.foldl Engine.append e = { e with waitList := e.waitList ++ items } := by
  induction items generalizing e with
  | nil => simp
  | cons i items ih =>
    rw [List.foldl_cons, Engine.append_eq hh (by simp [hf]), if_neg (by simp [hf]),
      ih (e := { e with waitList := e.waitList ++ [i] }) hh hf]
    simp

/-- Items that join one after another join as `Engine.joined` says (R8, R9). -/
theorem Engine.sound.foldl_append {e : Engine} (h : e.sound) (hh : e.halted = false) (items : List Item) :
    items.foldl Engine.append e = e.joined items := by
  unfold Engine.joined
  by_cases hfree : e.free = true
  · have hw : e.waitList = [] := (h.free ((e.free_iff).mp hfree).2).2 hh
    rw [if_pos hfree]
    cases items with
    | nil => rfl
    | cons i items =>
      rw [List.foldl_cons, Engine.append_eq hh (fun _ => hw), if_pos hfree]
      exact Engine.foldl_append_of_not_free items hh (Engine.free_of_inFlight rfl)
  · rw [if_neg hfree]
    exact Engine.foldl_append_of_not_free items hh (by simpa using hfree)

theorem Engine.joined_nil (e : Engine) : e.joined [] = e := by
  unfold Engine.joined
  rw [List.append_nil]
  exact ite_self e

/-! ### Points that settle at once (R15, R35, R36) -/

/-- What settling does with a point does not depend on the trunks. -/
theorem State.settleHalted_engines (s : State) (es : Table Engine 2) (i : Item) :
    ({ s with engines := es } : State).settleHalted i = { s.settleHalted i with engines := es } := by
  unfold State.settleHalted
  cases i.origin with
  | scan => rfl
  | survey k n =>
    show State.settlePoint _ k n _ = { s.settlePoint k n _ with engines := es }
    unfold State.settlePoint
    rw [show ({ s with engines := es } : State).slot k = s.slot k from rfl]
    cases s.slot k with
    | held q =>
      dsimp only
      unfold State.holdOrder
      split <;> rfl
    | free => rfl
    | closing m => rfl
    | reporting => rfl

theorem State.settleAllHalted_engines (s : State) (es : Table Engine 2) (items : List Item) :
    ({ s with engines := es } : State).settleAllHalted items = { s.settleAllHalted items with engines := es } := by
  unfold State.settleAllHalted
  induction items generalizing s with
  | nil => rfl
  | cons i items ih => rw [List.foldl_cons, List.foldl_cons, State.settleHalted_engines, ih]

/-- The outcome of a point on a HALTED trunk (R15). -/
def haltedOutcome : PointOutcome := ⟨.trunkHalted, none⟩

/-- The item of a point of the order in slot k (R34). -/
def pointItem (k : SlotId) (x : Addr × Nat) : Item := newItem x.1.drop (.survey k x.2)

/-- The points given, each with the outcome of a HALTED trunk. -/
def haltedPoints (xs : List (Addr × Nat)) : List (Nat × PointOutcome) := xs.map fun x => (x.2, haltedOutcome)

theorem haltedPoints_append (xs : List (Addr × Nat)) (x : Addr × Nat) :
    haltedPoints (xs ++ [x]) = haltedPoints xs ++ [(x.2, haltedOutcome)] := List.map_append

theorem SurveyOrder.settleAll_append (q : SurveyOrder) (ys : List (Nat × PointOutcome)) (y : Nat × PointOutcome) :
    q.settleAll (ys ++ [y]) = (q.settleAll ys).settle y.1 y.2 := by
  simp only [SurveyOrder.settleAll, SurveyOrder.settle, List.foldl_append, List.foldl_cons, List.foldl_nil,
    List.length_append, List.length_singleton, Nat.sub_sub]

theorem SurveyOrder.settleAll_outstanding (q : SurveyOrder) (xs : List (Addr × Nat)) :
    (q.settleAll (haltedPoints xs)).outstanding = q.outstanding - xs.length := by
  rw [SurveyOrder.settleAll, haltedPoints, List.length_map]

theorem State.settleAllHalted_append (s : State) (k : SlotId) (xs : List (Addr × Nat)) (x : Addr × Nat) :
    s.settleAllHalted ((xs ++ [x]).map (pointItem k)) =
      (s.settleAllHalted (xs.map (pointItem k))).settlePoint k x.2 haltedOutcome := by
  rw [List.map_append, State.settleAllHalted, List.foldl_append]
  rfl

theorem State.setSlot_setSlot (s : State) (k : SlotId) (o o' : OrderSlot) :
    (s.setSlot k o).setSlot k o' = s.setSlot k o' :=
  congrArg (fun ks => { s with slots := ks }) (Table.set_set ..)

theorem State.setSlot_self {s : State} {k : SlotId} {o : OrderSlot} (h : s.slot k = o) : s.setSlot k o = s := by
  subst h
  exact congrArg (fun ks => { s with slots := ks }) (Table.set_get_self ..)

/-- A point settles in the order that its slot holds (R35, R36). -/
theorem State.settlePoint_of_held {s : State} {k : SlotId} {q : SurveyOrder} (hq : s.slot k = .held q) (n : Nat)
    (x : PointOutcome) : s.settlePoint k n x = s.holdOrder k (q.settle n x) := by
  rw [State.settlePoint, hq]

/-- Points settle in an order that is held on while others are outstanding (R35). -/
theorem State.settleAllHalted_held {s : State} {k : SlotId} {q : SurveyOrder} (hq : s.slot k = .held q)
    (xs : List (Addr × Nat)) (h : xs.length < max 1 q.outstanding) :
    s.settleAllHalted (xs.map (pointItem k)) = s.setSlot k (.held (q.settleAll (haltedPoints xs))) := by
  induction xs using List.reverseRecOn with
  | nil => exact (State.setSlot_self hq).symm
  | append_singleton xs x ih =>
    rw [List.length_append, List.length_singleton] at h
    have hleft : ((q.settleAll (haltedPoints xs)).settle x.2 haltedOutcome).outstanding ≠ 0 := by
      rw [SurveyOrder.settle, SurveyOrder.settleAll_outstanding]
      dsimp only
      omega
    rw [State.settleAllHalted_append, ih (by omega), State.settlePoint_of_held (State.slot_setSlot_same ..),
      State.holdOrder, if_neg hleft, State.setSlot_setSlot, haltedPoints_append, SurveyOrder.settleAll_append]

/-- With its last outstanding point the order completes (R36). -/
theorem State.settleAllHalted_completes {s : State} {k : SlotId} {q : SurveyOrder} (hq : s.slot k = .held q)
    {xs : List (Addr × Nat)} (h : xs.length = q.outstanding) (hne : xs ≠ []) :
    s.settleAllHalted (xs.map (pointItem k)) =
      (s.setSlot k .reporting).queueFrame (surveyFrame k (q.settleAll (haltedPoints xs))) := by
  obtain ⟨xs, x, rfl⟩ := (List.eq_nil_or_concat' xs).resolve_left hne
  rw [List.length_append, List.length_singleton] at h
  have hnone : ((q.settleAll (haltedPoints xs)).settle x.2 haltedOutcome).outstanding = 0 := by
    rw [SurveyOrder.settle, SurveyOrder.settleAll_outstanding]
    dsimp only
    omega
  rw [State.settleAllHalted_append, State.settleAllHalted_held hq xs (by omega),
    State.settlePoint_of_held (State.slot_setSlot_same ..), State.holdOrder, if_pos hnone, State.setSlot_setSlot,
    haltedPoints_append, SurveyOrder.settleAll_append]

/-! ### The points of an order are offered (R9, R15, R34) -/

/-- Offered points: those on HALTED trunks settle, the others join their trunks. -/
theorem State.foldl_offerSurvey {k : SlotId} {halted : Trunk → Bool} (xs : List (Addr × Nat)) {s : State}
    (hh : ∀ t, (s.engine t).halted = halted t) :
    ∃ es, xs.foldl (fun s x => s.offerSurvey x.1.trunk (pointItem k x)) s =
        { s.settleAllHalted ((xs.filter fun x => halted x.1.trunk).map (pointItem k)) with engines := es }
      ∧ ∀ t, es.get t = if halted t then s.engine t
          else ((xs.filter fun x => x.1.trunk == t).map (pointItem k)).foldl Engine.append (s.engine t) := by
  induction xs generalizing s with
  | nil => exact ⟨s.engines, rfl, fun t => (ite_self _).symm⟩
  | cons x xs ih =>
    rw [List.foldl_cons]
    by_cases hx : halted x.1.trunk = true
    · have hoffer : s.offerSurvey x.1.trunk (pointItem k x) = s.settleHalted (pointItem k x) :=
        if_pos ((hh _).trans hx)
      have hengine := (s.settleHalted_ordersOnly (pointItem k x)).engine
      obtain ⟨es, h, hes⟩ := ih (s := s.settleHalted (pointItem k x)) fun t => by rw [hengine, hh]
      refine ⟨es, ?_, fun t => ?_⟩
      · rw [hoffer, h, List.filter_cons_of_pos (p := fun x : Addr × Nat => halted x.1.trunk) hx]
        rfl
      · rw [hes, hengine]
        by_cases ht : halted t = true
        · rw [if_pos ht, if_pos ht]
        · have hne : x.1.trunk ≠ t := fun h => ht (h ▸ hx)
          rw [if_neg ht, if_neg ht, List.filter_cons_of_neg (by simpa using hne)]
    · have hoffer : s.offerSurvey x.1.trunk (pointItem k x) =
          s.setEngine x.1.trunk ((s.engine x.1.trunk).append (pointItem k x)) := if_neg (by rwa [hh])
      obtain ⟨es, h, hes⟩ := ih (s := s.setEngine x.1.trunk ((s.engine x.1.trunk).append (pointItem k x))) fun t => by
        rw [State.engine_setEngine]
        split
        · next ht => rw [ht, Engine.append_halted, hh]
        · exact hh t
      refine ⟨es, ?_, fun t => ?_⟩
      · rw [hoffer, h, List.filter_cons_of_neg (p := fun x : Addr × Nat => halted x.1.trunk) hx]
        exact congrArg (fun u : State => { u with engines := es }) (State.settleAllHalted_engines s _ _)
      · rw [hes, State.engine_setEngine]
        by_cases ht : halted t = true
        · have hne : t ≠ x.1.trunk := fun h => hx (h ▸ ht)
          rw [if_pos ht, if_pos ht, if_neg hne]
        · rw [if_neg ht, if_neg ht]
          by_cases hxt : x.1.trunk = t
          · rw [if_pos hxt.symm, List.filter_cons_of_pos (by simpa using hxt), hxt]
            rfl
          · rw [if_neg (Ne.symm hxt), List.filter_cons_of_neg (by simpa using hxt)]

/-! ### What a new order comes to (R34, R35) -/

/-- The outcomes of points, from a list that is settled up to them: each that p names takes the outcome. -/
theorem foldl_set_zipIdx (p : Addr → Bool) (x : PointOutcome) (points : List Addr)
    (settled : List (Option PointOutcome)) :
    (((points.zipIdx settled.length).filter fun y => p y.1).map fun y => (y.2, x)).foldl
        (fun os y => os.set y.1 (some y.2)) (settled ++ points.map fun _ => none)
      = settled ++ points.map fun a => if p a then some x else none := by
  induction points generalizing settled with
  | nil => rfl
  | cons a points ih =>
    have hnext (o : Option PointOutcome) := ih (settled ++ [o])
    simp only [List.length_append, List.length_singleton, List.append_assoc, List.singleton_append] at hnext
    rw [List.zipIdx_cons, List.map_cons, List.map_cons]
    by_cases ha : p a = true
    · rw [List.filter_cons_of_pos (p := fun y : Addr × Nat => p y.1) ha, if_pos ha, List.map_cons, List.foldl_cons,
        List.set_append_right _ _ (Nat.le_refl _), Nat.sub_self, List.set_cons_zero]
      exact hnext (some x)
    · rw [List.filter_cons_of_neg (p := fun y : Addr × Nat => p y.1) ha, if_neg ha]
      exact hnext none

/-- A new order after its points on HALTED trunks have settled (R15, R34). -/
theorem newOrder_settleAll (tag : Byte) (points : List Addr) (p : Addr → Bool) :
    (newOrder tag points).settleAll (haltedPoints (points.zipIdx.filter fun x => p x.1)) =
      { tag := tag, points := points, outcomes := points.map fun a => if p a then some haltedOutcome else none,
        outstanding := (points.filter fun a => !p a).length } := by
  have houtcomes := foldl_set_zipIdx p haltedOutcome points []
  have hcount : (points.zipIdx.filter fun x => p x.1).length = (points.filter p).length := by
    conv_rhs => rw [← List.zipIdx_map_fst 0 points, List.filter_map, List.length_map]
    rfl
  have hleft : points.length - (points.filter p).length = (points.filter fun a => !p a).length := by
    rw [List.length_eq_length_filter_add (l := points) p, Nat.add_sub_cancel_left]
  simp only [SurveyOrder.settleAll, newOrder, haltedPoints, List.length_map, hcount, hleft]
  exact congrArg (fun os => SurveyOrder.mk tag points os _) houtcomes

/-- The report of an order all of whose points are on HALTED trunks (R37). -/
theorem haltedOrder_report (tag : Byte) (points : List Addr) (n : Nat) :
    SurveyOrder.report ⟨tag, points, points.map fun _ => some haltedOutcome, n⟩ =
      [byte points.length, byte points.length] ++ points.flatMap fun a =>
        [trunkCode a.trunk, byte a.drop.val, 7, 0xFF, 0x80, 0x00, 0xFF, 0xFF, 0] := by
  rw [SurveyOrder.report]
  refine congrArg ([byte points.length, byte points.length] ++ ·) ?_
  conv_rhs => rw [← List.zipIdx_map_fst 0 points, List.flatMap_map]
  refine List.flatMap_congr fun x hx => ?_
  have hi : x.2 < points.length := by simpa using List.snd_lt_of_mem_zipIdx hx
  have hout : (points.map fun _ => some haltedOutcome).getD x.2 none = some haltedOutcome := by
    simp [List.getD_eq_getElem?_getD, hi]
  show surveyEntry x.1 (List.getD _ x.2 none) = _
  rw [hout]
  rfl

/-! ### An accepted order (R34, R36) -/

/-- The part with a new order held and its reply completed, nothing offered yet (R34 steps 1 and 2). -/
def State.holdNew (s : State) (tag : Byte) (k : SlotId) (points : List Addr) : State :=
  (s.setSlot k (.held (newOrder tag points))).queueFrame (replyTo 0x19 tag .ok [byte k.val, byte points.length])

/-- An accepted order: the points on HALTED trunks settle, the others join their trunks (R9, R15, R34). -/
theorem State.acceptSurvey_eq {s : State} (hs : ∀ t, (s.engine t).sound) (tag : Byte) (k : SlotId)
    (points : List Addr) :
    ∃ es, s.acceptSurvey tag k points =
        { (s.holdNew tag k points).settleAllHalted
            ((points.zipIdx.filter fun x => (s.engine x.1.trunk).halted).map (pointItem k)) with engines := es }
      ∧ ∀ t, es.get t = if (s.engine t).halted then s.engine t
          else (s.engine t).joined ((points.zipIdx.filter fun x => x.1.trunk == t).map (pointItem k)) := by
  obtain ⟨es, h, hes⟩ := State.foldl_offerSurvey (k := k) (halted := fun t => (s.engine t).halted) points.zipIdx
    (s := s.holdNew tag k points) fun t => rfl
  refine ⟨es, ?_, fun t => ?_⟩
  · rw [← h, State.acceptSurvey, State.completeReply, replyFrame_eq_replyTo (by decide)]
    rfl
  · rw [hes]
    split
    · rfl
    · next ht => exact (hs t).foldl_append (by simpa using ht) _

theorem State.slot_holdNew (s : State) (tag : Byte) (k : SlotId) (points : List Addr) :
    (s.holdNew tag k points).slot k = .held (newOrder tag points) := State.slot_setSlot_same ..

/-- An order with a point on a trunk that runs is held, its points on HALTED trunks settled (R34, R35). -/
theorem State.acceptSurvey_held {s : State} (hs : ∀ t, (s.engine t).sound) (hd : s.port.resetDue = false) (tag : Byte)
    (k : SlotId) {points : List Addr} (hrun : ∃ a ∈ points, (s.engine a.trunk).halted = false) :
    ∃ es, (s.acceptSurvey tag k points).arbitrate =
        { (s.setSlot k (.held
            { tag := tag, points := points
              outcomes := points.map fun a => if (s.engine a.trunk).halted then some haltedOutcome else none
              outstanding := (points.filter fun a => !(s.engine a.trunk).halted).length })).answered
            (replyTo 0x19 tag .ok [byte k.val, byte points.length]) with engines := es }
      ∧ ∀ t, es.get t = if (s.engine t).halted then s.engine t
          else (s.engine t).joined ((points.zipIdx.filter fun x => x.1.trunk == t).map (pointItem k)) := by
  obtain ⟨es, h, hes⟩ := State.acceptSurvey_eq hs tag k points
  obtain ⟨a, ha, hah⟩ := hrun
  have hfewer : (points.zipIdx.filter fun x => (s.engine x.1.trunk).halted).length < points.length := by
    obtain ⟨x, hx, rfl⟩ := List.mem_map.mp ((List.zipIdx_map_fst 0 points).symm ▸ ha)
    rw [← List.length_zipIdx (l := points) (i := 0)]
    exact List.length_filter_lt_length_iff_exists.mpr ⟨x, hx, by simp [hah]⟩
  refine ⟨es, ?_, hes⟩
  rw [h, State.settleAllHalted_held (s.slot_holdNew tag k points) _ (by simp only [newOrder]; omega),
    newOrder_settleAll tag points fun a => (s.engine a.trunk).halted]
  exact (congrArg State.arbitrate (congrArg (fun ks : Table OrderSlot 4 =>
    ({ s with slots := ks, engines := es } : State).queueFrame _) (Table.set_set ..))).trans
    (State.arbitrate_queueFrame _ _ hd)

/-- An order all of whose points are on HALTED trunks completes, and its report goes out behind its reply (R36, R37). -/
theorem State.acceptSurvey_completes {s : State} (hs : ∀ t, (s.engine t).sound) (hd : s.port.resetDue = false)
    (tag : Byte) (k : SlotId) {points : List Addr} (hne : points ≠ [])
    (hhalted : ∀ a ∈ points, (s.engine a.trunk).halted = true) :
    (s.acceptSurvey tag k points).arbitrate =
      ((s.setSlot k .reporting).queueFrame (replyTo 0x19 tag .ok [byte k.val, byte points.length])).answered
        { role := .report k, kind := 0x80, tag := tag,
          payload := [byte points.length, byte points.length] ++ points.flatMap fun a =>
            [trunkCode a.trunk, byte a.drop.val, 7, 0xFF, 0x80, 0x00, 0xFF, 0xFF, 0] } := by
  obtain ⟨es, h, hes⟩ := State.acceptSurvey_eq hs tag k points
  have hmem (x : Addr × Nat) (hx : x ∈ points.zipIdx) : (s.engine x.1.trunk).halted = true :=
    hhalted _ (List.fst_mem_of_mem_zipIdx hx)
  have hall : (points.zipIdx.filter fun x => (s.engine x.1.trunk).halted) = points.zipIdx :=
    List.filter_eq_self.mpr hmem
  have hengines : es = s.engines := Table.ext_get fun t => by
    rw [hes]
    split
    · rfl
    · next ht =>
      have hnone : (points.zipIdx.filter fun x => x.1.trunk == t) = [] :=
        List.filter_eq_nil_iff.mpr fun x hx hxt => ht (beq_iff_eq.mp hxt ▸ hmem x hx)
      rw [hnone, List.map_nil, Engine.joined_nil]
      rfl
  have horder := newOrder_settleAll tag points fun a => (s.engine a.trunk).halted
  have houtcomes : (points.map fun a => if (s.engine a.trunk).halted then some haltedOutcome else none) =
      points.map fun _ => some haltedOutcome :=
    List.map_congr_left fun a ha => if_pos (hhalted a ha)
  rw [hall, houtcomes] at horder
  rw [h, hall, State.settleAllHalted_completes (s.slot_holdNew tag k points) List.length_zipIdx (by simpa using hne),
    horder, surveyFrame, haltedOrder_report, hengines]
  exact (congrArg State.arbitrate (congrArg (fun ks : Table OrderSlot 4 =>
    (({ s with slots := ks } : State).queueFrame _).queueFrame _) (Table.set_set ..))).trans
    (State.arbitrate_queueFrame _ _ hd)

/-! ### The statement (R32 to R37, R180) -/

/-- Segments that the part has, at least one, have a point (R33). -/
theorem flatMap_points_ne_nil {segments : List Segment} (h1 : 1 ≤ segments.length) (h : ∀ g ∈ segments, g.fits) :
    segments.flatMap Segment.points ≠ [] := by
  have hlength := segmentsPoints_length (by omega) (segmentsPoints_eq h)
  intro hnil
  rw [hnil] at hlength
  exact absurd hlength (by decide)

/-- Settles O28: the checks are those of `State.judgeSurvey_segments`; the points of an accepted order that are on
HALTED trunks settle, the others join their trunks, and an order with no point left completes. -/
theorem surveyAcceptedOrRefused : Obligations.SurveyAcceptedOrRefused := by
  unfold Obligations.SurveyAcceptedOrRefused
  constructor
  · intro s s0 tag p hb
    obtain ⟨hnil, hcount, hlength⟩ := s0.judgeSurvey_badCount tag (p := p)
    exact ⟨fun hp => execSurvey_refused hb (hnil hp), fun hp hc => execSurvey_refused hb (hcount hp hc),
      fun h1 h8 hl => execSurvey_refused hb (hlength h1 h8 hl)⟩
  · intro s s0 tag segments p points hb h1 h8 hp hpoints
    have hjudge : s0.judgeSurvey tag p =
        (segmentsPoints segments.length (segmentBytes segments)).elim (.refused .badField) (s0.judgePoints tag) :=
      hp ▸ s0.judgeSurvey_segments tag h1 h8
    refine ⟨fun hbad => execSurvey_refused hb (by rw [hjudge, segmentsPoints_eq_none hbad]; rfl), fun hfits => ?_⟩
    have hread : s0.judgeSurvey tag p = s0.judgePoints tag points := by
      rw [hjudge, segmentsPoints_eq hfits, hpoints]
      rfl
    unfold State.judgePoints at hread
    refine ⟨fun hmany => ?_, fun hfew hheld => ?_, fun hfew htag hfull => ?_, fun k hfew htag hfree hlow hsound => ?_⟩
    · exact execSurvey_refused hb (by rw [hread, if_pos hmany])
    · obtain ⟨k, o, ho, ht⟩ := hheld
      exact execSurvey_refused hb (by rw [hread, if_neg (Nat.not_lt.mpr hfew), if_pos (State.slotOfTag_isSome ho ht)])
    · refine execSurvey_refused hb ?_
      rw [hread, if_neg (Nat.not_lt.mpr hfew), State.slotOfTag_eq_none htag, if_neg (by simp),
        State.freeSlot_eq_none hfull]
      rfl
    · have hexec : exec (.survey tag p) s = .next (s0.acceptSurvey tag k points).arbitrate := by
        refine execSurvey_accepted hb ?_
        rw [hread, if_neg (Nat.not_lt.mpr hfew), State.slotOfTag_eq_none htag, if_neg (by simp),
          State.freeSlot_eq_some hfree hlow]
        rfl
      refine ⟨_, rfl, fun hrun => ?_, fun hhalted => ?_⟩
      · obtain ⟨es, haccept, hes⟩ := State.acceptSurvey_held hsound hb.notDue tag k hrun
        exact ⟨_, hexec.trans (congrArg _ haccept), rfl, State.slot_setSlot_same ..,
          fun j hj => State.slot_setSlot_of_ne _ _ hj, hes⟩
      · have hne : points ≠ [] := hpoints ▸ flatMap_points_ne_nil h1 hfits
        refine ⟨_, hexec.trans (congrArg _ (State.acceptSurvey_completes hsound hb.notDue tag k hne hhalted)), rfl,
          State.slot_setSlot_same .., fun j hj => State.slot_setSlot_of_ne _ _ hj, ?_⟩
        rw [State.answered_outgoing, State.answered_outgoing]
        exact congrArg (· ++ [_]) (List.append_assoc ..).symm

end Sys2Proof.Machine
end

section
/-! Every step keeps what each block's operations keep: a predicate that is of neither the queue, the trunks, the order
slots nor the port, through the requests, the field events and the second (`KeptByBlocks.step`). -/

namespace Sys2Proof.Machine

open Sys2Proof

/-! ### Operations on the trunks, the order slots and the port alone -/

theorem State.setPort_trunksOnly (s : State) (p : Port) : s.trunksOnly (s.setPort p) := ⟨s.engines, s.slots, p, rfl⟩

theorem State.setSlot_trunksOnly (s : State) (k : SlotId) (o : OrderSlot) : s.trunksOnly (s.setSlot k o) :=
  (s.setSlot_ordersOnly k o).trunksOnly

theorem State.enginesOnly.trunksOnly {s t : State} (h : s.enginesOnly t) : s.trunksOnly t := by
  obtain ⟨es, rfl⟩ := h
  exact ⟨es, s.slots, s.port, rfl⟩

theorem State.arrive_trunksOnly (s : State) (r : Request) : s.trunksOnly (s.arrive r) := by
  unfold State.arrive State.refuseArrival
  repeat' split
  exacts [s.setPort_trunksOnly _, s.setPort_trunksOnly _, .refl s]

theorem State.offerSurvey_trunksOnly (s : State) (t : Trunk) (i : Item) : s.trunksOnly (s.offerSurvey t i) := by
  unfold State.offerSurvey
  split
  exacts [(s.settleHalted_ordersOnly i).trunksOnly, s.setEngine_trunksOnly ..]

/-- An accepted order touches the trunks, its slot and the port (R34). -/
theorem State.acceptSurvey_trunksOnly (s : State) (tag : Byte) (k : SlotId) (points : List Addr) :
    s.trunksOnly (s.acceptSurvey tag k points) := by
  have hoffered : ∀ (xs : List (Addr × Nat)) (s : State),
      s.trunksOnly (xs.foldl (fun s x => s.offerSurvey x.1.trunk (newItem x.1.drop (.survey k x.2))) s) := by
    intro xs
    induction xs with
    | nil => exact .refl
    | cons x xs ih => exact fun s => (s.offerSurvey_trunksOnly ..).trans (ih _)
  exact ((s.setSlot_trunksOnly ..).trans (State.setPort_trunksOnly ..)).trans (hoffered _ _)

theorem State.sentFrame_trunksOnly (s : State) : s.trunksOnly s.sentFrame := by
  unfold State.sentFrame State.afterFrame
  split
  · refine (s.setPort_trunksOnly { s.port with line := none, wire := [] }).trans ?_
    split
    exacts [State.setSlot_trunksOnly .., State.setPort_trunksOnly .., .refl _, .refl _, .refl _]
  · exact .refl s

/-! ### The result of an attempt (R5, R6) -/

/-- What an attempt's result holds for the address at which the attempt ends: it is of this second, and its reading
carries an RH exactly where the probe defined there is AIR (R5 check 7, R6). -/
structure State.attempted (s : State) (a : Addr) (res : AttemptResult) : Prop where
  time : res.time = s.uptime
  rh   : ∀ raw c, res.reading = some raw → (s.probe a).config = some c → (raw.rh.isSome = true ↔ c.kind = .air)

theorem State.attempted_bareResult (s : State) (a : Addr) (o : ProbeOutcome) :
    s.attempted a (bareResult o s.uptime) :=
  ⟨rfl, fun _ _ h => nomatch h⟩

theorem State.attempted_judgeAnswer (s : State) (a : Addr) (d : Drop) (b : List Byte) :
    s.attempted a (judgeAnswer (s.kindAt a) d b s.uptime) := by
  have hkind := BitVec.isLt ((b.getD 1 0).extractLsb' 2 2)
  obtain ⟨houtcome, htime, -, hreading, hpresent⟩ := judgeAnswer_holds (s.kindAt a) d b s.uptime hkind rfl
  refine ⟨htime, fun raw c hraw hc => ?_⟩
  have hgood := hpresent.mp (by rw [hraw]; rfl)
  have hdefined : s.kindAt a = some c.kind := by rw [State.kindAt, hc]; rfl
  rw [houtcome, hdefined] at hgood
  obtain ⟨-, hrh, -⟩ := hreading raw hraw
  rw [hrh, checksOutcome_accepted hgood hkind]
  cases c.kind <;> simp

/-- The trunks and the port have no part in what a result holds. -/
theorem State.attempted.of_trunksOnly {s t : State} {a : Addr} {res : AttemptResult} (h : s.attempted a res)
    (ht : s.trunksOnly t) : t.attempted a res := by
  obtain ⟨es, ks, p, rfl⟩ := ht
  exact ⟨h.time, h.rh⟩

/-! ### Predicates that every block's operations keep -/

/-- P is of neither the queue, the trunks, the order slots nor the port, and of the Scan Timer only of the max reading
age; and the operations of the other blocks keep it. -/
structure KeptByBlocks (P : State → Prop) : Prop where
  trunks     : ∀ {s t : State}, s.trunksOnly t → P s → P t
  queue      : ∀ {s : State} (q : List Instr), P s → P { s with pending := q }
  timer      : ∀ {s : State} (t : ScanTimer), t.maxAge = s.scan.maxAge → P s → P (s.setScan t)
  unloaded   : ∀ {s : State} (power : Power) (store : Store) (pending : List Instr), power ≠ .running →
    store.contents = s.store.contents → P s → P (State.unloaded power store pending)
  booting    : ∀ {s : State}, s.power = .loading → P s → P { s with uptime := s.uptime + 1 }
  started    : ∀ {s : State}, P s → P (({ s with defaulted := !s.store.valid } : State).startedFrom s.store.toLoad)
  beginKeep  : ∀ {s : State} (tag : Byte), P s → P (s.beginKeep tag)
  keepDone   : ∀ {s : State} (agrees : Bool), P s → P (s.keepDone agrees)
  restarted  : ∀ {s : State}, P s → P s.restarted
  work       : ∀ v ∈ requestServices, ∀ (p : List Byte) (s : State), P s → P (v.work p s).1
  outcome    : ∀ {s : State} (a : Addr) (res : AttemptResult) (o : ProbeOutcome), s.attempted a res → P s →
    P (s.handToProbe a res o)
  expireAge  : ∀ {s : State} (a : Addr), P s → P (s.expireAge a)
  expireDwell : ∀ {s : State} (z : ZoneId), P s → P (s.expireDwell z)
  dutyFrame  : ∀ {s : State}, P s → P { s with lines := s.lines.map LineRecord.frameStarted }
  onTimeEnd  : ∀ {s : State} (l : LineId), P s → P (s.setOutLine l (s.outLine l).onTimeEnded)
  startRound : ∀ {s : State}, P s → P s.startRound
  closeGate  : ∀ {s : State} (cycles : Nat), P s → P (s.closeGate cycles)
  second     : ∀ {s : State}, (∀ a, ¬ s.ageIsDue a) → P s →
    P { s with uptime := s.uptime + 1, scan := s.scan.tick, zones := s.zones.map ZoneRecord.tick }

/-- After a fold that makes Q so of each element and never undoes it, Q is so of every element of the list. -/
theorem State.foldl_forall {α : Type} {f : State → α → State} {Q : State → α → Prop} (hmakes : ∀ s x, Q (f s x) x)
    (hkeeps : ∀ s x y, Q s y → Q (f s x) y) (xs : List α) (s : State) : ∀ x ∈ xs, Q (xs.foldl f s) x := by
  have hstays : ∀ (xs : List α) (s : State) (y : α), Q s y → Q (xs.foldl f s) y := by
    intro xs
    induction xs with
    | nil => exact fun _ _ h => h
    | cons x xs ih => exact fun s y h => ih _ y (hkeeps s x y h)
  induction xs generalizing s with
  | nil => exact fun _ h => nomatch h
  | cons x xs ih => exact List.forall_mem_cons.mpr ⟨hstays xs _ x (hmakes s x), ih _⟩

/-- After every expiry that was due has been taken, no age expiry is due (R51, assumption 18). -/
theorem State.takeDue_ages (s : State) (a : Addr) : ¬ s.takeDue.ageIsDue a := by
  have htaken (s : State) (a b : Addr) (h : b = a ∨ s.ageDue b = false) : (s.takeDueAge a).ageDue b = false := by
    unfold State.takeDueAge
    split
    · exact State.expireAge_not_due h
    · next hd => exact h.elim (fun hb => by simpa [hb] using hd) id
  have hall := State.foldl_forall (f := State.takeDueAge) (Q := fun s a => s.ageDue a = false)
    (fun s a => htaken s a a (.inl rfl)) (fun s a b h => htaken s a b (.inr h)) allAddrs
    ((List.finRange 24).foldl State.takeDueDwell s.startDuePeriod) a (mem_allAddrs a)
  rw [State.ageIsDue_iff]
  exact fun h => Bool.false_ne_true (hall.symm.trans h)

namespace KeptByBlocks

variable {P : State → Prop} (K : KeptByBlocks P) {s : State}

include K

theorem port (p : Port) (h : P s) : P (s.setPort p) := K.trunks (s.setPort_trunksOnly p) h

theorem arbitrate (h : P s) : P s.arbitrate := K.trunks s.arbitrate_trunksOnly h

theorem leadsTo_finish (h : P s) : leadsTo P (finish s) := leadsTo_next (K.arbitrate h)

theorem leadsTo_fieldEvent (f : State → State) (hf : P (f s)) (h : P s) : leadsTo P (fieldEvent f s) := by
  unfold fieldEvent
  split
  exacts [K.leadsTo_finish hf, leadsTo_next h]

/-! #### The Scan Timer and the trunks -/

theorem startPeriod (h : P s) : P s.startPeriod :=
  K.trunks (s.setScan s.scan.periodStarted).scanCycle_enginesOnly.trunksOnly (K.timer _ rfl h)

theorem startDuePeriod (h : P s) : P s.startDuePeriod := by
  unfold State.startDuePeriod
  split
  exacts [K.startPeriod h, h]

theorem resumeScan (h : P s) : P s.resumeScan := by
  unfold State.resumeScan
  split
  exacts [K.startPeriod h, h]

/-- An item that leaves its trunk hands its outcome to the Probe Table (R12). -/
theorem finalise (t : Trunk) (i : Item) {res : AttemptResult} (o : ProbeOutcome) (hr : s.attempted ⟨t, i.drop⟩ res)
    (h : P s) : P (s.finalise t i res o) := by
  have hleft := s.setEngine_trunksOnly t (s.engine t).itemLeft
  rw [State.finalise, State.handOut_eq]
  exact K.trunks (State.settleItem_ordersOnly ..).trunksOnly (K.outcome _ res o (hr.of_trunksOnly hleft) (K.trunks hleft h))

/-- An attempt that ends touches more than trunks, slots and port only where an outcome is final (R10 to R14). -/
theorem endAttempt (t : Trunk) (i : Item) {res : AttemptResult} (hr : s.attempted ⟨t, i.drop⟩ res) (h : P s) :
    P (s.endAttempt t i res) := by
  unfold State.endAttempt
  dsimp only
  generalize (s.engine t).transactionEnded res (s.definedAt ⟨t, i.drop⟩) = e
  have hset := s.setEngine_trunksOnly t e
  have hfinal (o : ProbeOutcome) := K.finalise t i o (hr.of_trunksOnly hset) (K.trunks hset h)
  split
  · unfold State.haltTrunk
    exact K.trunks (((State.setEngine_trunksOnly ..).trans (State.settleAllHalted_ordersOnly ..).trunksOnly).trans
      (State.raise_trunksOnly ..)) (hfinal _)
  · have hretry : P ((s.setEngine t e).retryOrEnd t i res) := by
      unfold State.retryOrEnd
      split
      exacts [K.trunks (hset.trans (State.setEngine_trunksOnly ..)) h, hfinal _]
    unfold State.disposeItem
    cases res.outcome with
    | noAnswer => exact hretry
    | badCheck => exact hretry
    | notReady =>
      show P ((s.setEngine t e).requeueOrEnd t i res)
      unfold State.requeueOrEnd
      split
      exacts [K.trunks (hset.trans (State.setEngine_trunksOnly ..)) h, hfinal _]
    | good => exact hfinal _
    | tainted => exact hfinal _
    | kindMismatch => exact hfinal _
    | notReadyLimit => exact K.trunks hset h
    | trunkHalted => exact K.trunks hset h

theorem receiveAnswer (t : Trunk) (b : List Byte) (h : P s) : P (s.receiveAnswer t b) := by
  unfold State.receiveAnswer
  repeat' split
  exacts [K.endAttempt t _ (s.attempted_judgeAnswer ..) h, h, h]

theorem timeoutAnswer (t : Trunk) (b : List Byte) (h : P s) : P (s.timeoutAnswer t b) := by
  unfold State.timeoutAnswer
  repeat' split
  exacts [K.endAttempt t _ (s.attempted_bareResult ..) h, h, K.trunks (s.setEngine_trunksOnly ..) h, h, h, h, h, h]

/-! #### Requests -/

theorem completeReply (kind tag : Byte) (r : Reply) (h : P s) : P (s.completeReply kind tag r) := K.port _ h

/-- Whatever request is executed keeps P. -/
theorem execute (r : Request) (h : P s) : P (s.execute r) := by
  unfold State.execute
  split
  · unfold State.runKeepSettings
    split
    exacts [K.beginKeep _ h, K.completeReply _ _ _ h]
  · split
    · unfold State.runWarmRestart
      split
      exacts [K.port _ (K.port _ h), K.completeReply _ _ _ h]
    · split
      · unfold State.runSurvey
        split
        exacts [K.completeReply _ _ _ h, K.trunks (s.acceptSurvey_trunksOnly ..) h]
      · split
        · next v hv =>
          unfold Service.run
          split
          exacts [K.completeReply _ _ _ (K.work v (List.mem_of_find?_eq_some hv) _ s h), K.completeReply _ _ _ h]
        · exact K.completeReply _ _ _ h

theorem startNext (h : P s) : P s.startNext := by
  unfold State.startNext
  split
  exacts [K.arbitrate (K.execute _ (K.port _ h)), h, h]

theorem serveWaiting (h : P s) : P s.serveWaiting := by
  have hup : ∀ n (s : State), P s → P (State.serveUpTo n s) := by
    intro n
    induction n with
    | zero => exact fun _ h => h
    | succ n ih => exact fun s h => ih _ (K.startNext h)
  exact hup _ s h

theorem leadsTo_servingEvent (f : State → State) (hf : P (f s)) (h : P s) : leadsTo P (servingEvent f s) := by
  unfold servingEvent
  split
  exacts [leadsTo_next (K.serveWaiting (K.arbitrate hf)), leadsTo_next h]

/-- A request row keeps P where the execution of its request does (R161, R162). -/
theorem leadsTo_whenAdmitted {r : Request} {run : State → State} (hrun : ∀ s, P s → P (run s)) (h : P s) :
    leadsTo P (whenAdmitted r run s) := by
  obtain hn | ha | ⟨s0, ⟨-, -, hb⟩, hr⟩ := whenAdmitted_cases r run s
  · rw [hn]
    exact leadsTo_next h
  · rw [ha]
    exact K.leadsTo_finish (K.trunks (s.arrive_trunksOnly r) h)
  · rw [hr]
    obtain ⟨-, -, rfl⟩ | ⟨rest, -, rfl⟩ := hb
    exacts [K.leadsTo_finish (hrun _ h), K.leadsTo_finish (hrun _ (K.port _ h))]

/-- A row that is the execution of its request where it is admitted (R162). -/
theorem leadsTo_row (r : Request) {o : Host.Outcome State Fault Refusal}
    (ho : o = whenAdmitted r (fun s => s.execute r) s) (h : P s) : leadsTo P o :=
  ho ▸ K.leadsTo_whenAdmitted (fun _ h => K.execute r h) h

/-- A row that does nothing where its payload is another row's (assumption 21). -/
theorem leadsTo_sharedRow (r : Request) (other : Bool) (h : P s) :
    leadsTo P (if other then .next s else whenAdmitted r (fun s => s.execute r) s) := by
  split
  exacts [leadsTo_next h, K.leadsTo_row r rfl h]

/-! #### Every command -/

theorem receive (bytes : List Byte) (h : P s) : P (s.receive bytes) :=
  KeptByWork.foldl State.arriveOne
    (fun s r h => K.serveWaiting (K.arbitrate (K.trunks (s.arrive_trunksOnly r) h))) _ (K.port _ h)

theorem resetIfDue (h : P s) : P s.resetIfDue := by
  unfold State.resetIfDue
  split
  exacts [K.resumeScan (K.restarted h), h]

/-- What is due is taken, and then the second counts (R101). -/
theorem secondPassed (h : P s) : P s.secondPassed := by
  refine K.second s.takeDue_ages ?_
  refine KeptByWork.foldl _ (fun s a h => ?_) _ (KeptByWork.foldl _ (fun s z h => ?_) _ (K.startDuePeriod h))
  · unfold State.takeDueAge
    split
    exacts [K.arbitrate (K.expireAge a h), h]
  · unfold State.takeDueDwell
    split
    exacts [K.arbitrate (K.expireDwell z h), h]

theorem exec (c : Instr) (h : P s) : leadsTo P (exec c s) := by
  cases c with
  | powerOn => exact leadsTo_next (K.unloaded .loading s.store s.pending (by decide) rfl h)
  | settingsLoad =>
    show leadsTo P (execSettingsLoad s)
    unfold execSettingsLoad
    split
    exacts [K.leadsTo_finish (K.resumeScan (K.startRound (K.started h))), leadsTo_next h]
  | frameArrival bytes =>
    show leadsTo P (execFrameArrival bytes s)
    unfold execFrameArrival
    split
    exacts [leadsTo_next (K.receive bytes h), leadsTo_next h]
  | frameGapTimeout => exact K.leadsTo_fieldEvent (fun s => s.setPort { s.port with rx := [] }) (K.port _ h) h
  | frameSent => exact K.leadsTo_fieldEvent State.sentFrame (K.trunks s.sentFrame_trunksOnly h) h
  | unknownKind kind tag p =>
    show leadsTo P (execUnknownKind kind tag p s)
    unfold execUnknownKind
    split
    exacts [leadsTo_next h, K.leadsTo_whenAdmitted (fun _ h => K.completeReply _ _ _ h) h]
  | keepSettingsDone agrees => exact K.leadsTo_servingEvent _ (K.keepDone agrees h) h
  | warmRestartReset => exact K.leadsTo_servingEvent _ (K.resetIfDue h) h
  | scanSetupContinuous tag p => exact K.leadsTo_sharedRow ⟨0x18, tag, p⟩ (otherScanRow p .continuous) h
  | scanSetupSingle tag p => exact K.leadsTo_sharedRow ⟨0x18, tag, p⟩ (otherScanRow p .single) h
  | scanSetupStopped tag p => exact K.leadsTo_sharedRow ⟨0x18, tag, p⟩ (otherScanRow p .stopped) h
  | leakSetupEnable tag p => exact K.leadsTo_sharedRow ⟨0x30, tag, p⟩ (otherLeakRow p true) h
  | leakSetupDisable tag p => exact K.leadsTo_sharedRow ⟨0x30, tag, p⟩ (otherLeakRow p false) h
  | periodStart => exact K.leadsTo_fieldEvent State.startDuePeriod (K.startDuePeriod h) h
  | gapExpiry t =>
    exact K.leadsTo_fieldEvent (fun s => s.setEngine t (s.engine t).gapEnded) (K.trunks (s.setEngine_trunksOnly ..) h) h
  | transactionOpen t =>
    exact K.leadsTo_fieldEvent (fun s => s.setEngine t (s.engine t).opened) (K.trunks (s.setEngine_trunksOnly ..) h) h
  | answerReceived t b => exact K.leadsTo_fieldEvent (fun s => s.receiveAnswer t b) (K.receiveAnswer t b h) h
  | answerTimeout t b => exact K.leadsTo_fieldEvent (fun s => s.timeoutAnswer t b) (K.timeoutAnswer t b h) h
  | ageExpiry a => exact K.leadsTo_fieldEvent (fun s => s.expireAge a) (K.expireAge a h) h
  | dwellExpiry z => exact K.leadsTo_fieldEvent (fun s => s.expireDwell z) (K.expireDwell z h) h
  | dutyFrameStart =>
    exact K.leadsTo_fieldEvent (fun s => { s with lines := s.lines.map LineRecord.frameStarted }) (K.dutyFrame h) h
  | dutyOnTimeEnd l =>
    exact K.leadsTo_fieldEvent (fun s => s.setOutLine l (s.outLine l).onTimeEnded) (K.onTimeEnd l h) h
  | roundStart =>
    refine K.leadsTo_fieldEvent (fun s => if s.leak.position.isSome then s else s.startRound) ?_ h
    split
    exacts [h, K.startRound h]
  | gateClose cycles => exact K.leadsTo_fieldEvent (fun s => s.closeGate cycles) (K.closeGate cycles h) h
  | powerLoss ended =>
    refine leadsTo_next (K.unloaded _ _ _ (by decide) ?_ h)
    unfold State.storeAtLoss
    split
    · split <;> rfl
    · rfl
    · rfl
  | uptimeSecond =>
    show leadsTo P (execUptimeSecond s)
    unfold execUptimeSecond
    split
    · exact leadsTo_next h
    · next hp => exact leadsTo_next (K.booting hp h)
    · exact leadsTo_next (K.secondPassed h)
  | identify tag p => exact K.leadsTo_row ⟨0x01, tag, p⟩ rfl h
  | summary tag p => exact K.leadsTo_row ⟨0x02, tag, p⟩ rfl h
  | keepSettings tag p => exact K.leadsTo_row ⟨0x03, tag, p⟩ rfl h
  | warmRestart tag p => exact K.leadsTo_row ⟨0x04, tag, p⟩ rfl h
  | noticeMask tag p => exact K.leadsTo_row ⟨0x05, tag, p⟩ rfl h
  | defineProbe tag p => exact K.leadsTo_row ⟨0x10, tag, p⟩ rfl h
  | retireProbe tag p => exact K.leadsTo_row ⟨0x11, tag, p⟩ rfl h
  | probeQuery tag p => exact K.leadsTo_row ⟨0x12, tag, p⟩ rfl h
  | trunkRestart tag p => exact K.leadsTo_row ⟨0x13, tag, p⟩ rfl h
  | trunkSetup tag p => exact K.leadsTo_row ⟨0x14, tag, p⟩ rfl h
  | survey tag p => exact K.leadsTo_row ⟨0x19, tag, p⟩ rfl h
  | surveyCancel tag p => exact K.leadsTo_row ⟨0x1A, tag, p⟩ rfl h
  | mapPoint tag p => exact K.leadsTo_row ⟨0x20, tag, p⟩ rfl h
  | mapSpan tag p => exact K.leadsTo_row ⟨0x21, tag, p⟩ rfl h
  | unmapPoint tag p => exact K.leadsTo_row ⟨0x22, tag, p⟩ rfl h
  | unmapSpan tag p => exact K.leadsTo_row ⟨0x23, tag, p⟩ rfl h
  | mapQuery tag p => exact K.leadsTo_row ⟨0x24, tag, p⟩ rfl h
  | zoneSetup tag p => exact K.leadsTo_row ⟨0x28, tag, p⟩ rfl h
  | zoneOn tag p => exact K.leadsTo_row ⟨0x29, tag, p⟩ rfl h
  | zoneOff tag p => exact K.leadsTo_row ⟨0x2A, tag, p⟩ rfl h
  | zoneQuery tag p => exact K.leadsTo_row ⟨0x2B, tag, p⟩ rfl h
  | leakRecalibrate tag p => exact K.leadsTo_row ⟨0x31, tag, p⟩ rfl h
  | leakQuery tag p => exact K.leadsTo_row ⟨0x32, tag, p⟩ rfl h
  | lineSetup tag p => exact K.leadsTo_row ⟨0x34, tag, p⟩ rfl h
  | lineRelease tag p => exact K.leadsTo_row ⟨0x35, tag, p⟩ rfl h
  | lineQuery tag p => exact K.leadsTo_row ⟨0x36, tag, p⟩ rfl h
  | eventList tag p => exact K.leadsTo_row ⟨0x38, tag, p⟩ rfl h
  | eventQuery tag p => exact K.leadsTo_row ⟨0x39, tag, p⟩ rfl h
  | eventAck tag p => exact K.leadsTo_row ⟨0x3A, tag, p⟩ rfl h

/-- Every step keeps P. -/
theorem step {t : State} (h : P s) (ht : step s = .next t) : P t := by
  unfold Machine.step at ht
  split at ht
  · cases ht
    exact h
  · next c rest _ => exact K.exec c (K.queue rest h) t ht

end KeptByBlocks

end Sys2Proof.Machine
end

section
/-! What a step can do to the probe records, the map and the map in store: everything else is a frame
(`State.keepsProbes`), and a predicate that the few operations on them keep is kept by every step
(`KeptByProbes.blocks`). -/

namespace Sys2Proof.Machine

open Sys2Proof

/-! ### Operations that leave the probe records and the map alone -/

/-- t has the probe records, the map and the map in store of s, with the clock, the power and the max reading age by
which a reading's age is judged (R50). -/
structure State.keepsProbes (s t : State) : Prop where
  probes : t.probes = s.probes
  map    : t.map = s.map
  stored : t.store.contents.map = s.store.contents.map
  power  : t.power = s.power
  uptime : t.uptime = s.uptime
  maxAge : t.scan.maxAge = s.scan.maxAge

theorem State.keepsProbes.refl (s : State) : s.keepsProbes s := ⟨rfl, rfl, rfl, rfl, rfl, rfl⟩

theorem State.keepsProbes.trans {s t v : State} (h : s.keepsProbes t) (h' : t.keepsProbes v) : s.keepsProbes v :=
  ⟨h'.probes.trans h.probes, h'.map.trans h.map, h'.stored.trans h.stored, h'.power.trans h.power,
    h'.uptime.trans h.uptime, h'.maxAge.trans h.maxAge⟩

theorem State.keepsProbes.probe {s t : State} (h : s.keepsProbes t) (a : Addr) : t.probe a = s.probe a := by
  rw [State.probe, h.probes]
  rfl

theorem State.evaluationKeeps.keepsProbes {s t : State} (h : s.evaluationKeeps t) : s.keepsProbes t :=
  ⟨h.probes, h.map, by rw [h.store], h.power, h.uptime, by rw [h.scan]⟩

theorem State.handedOn.keepsProbes {s t : State} (h : s.handedOn t) : s.keepsProbes t := h.keeps.keepsProbes

theorem State.trunksOnly.keepsProbes {s t : State} (h : s.trunksOnly t) : s.keepsProbes t := by
  obtain ⟨es, ks, p, rfl⟩ := h
  exact ⟨rfl, rfl, rfl, rfl, rfl, rfl⟩

theorem State.setZone_keepsProbes (s : State) (z : ZoneId) (r : ZoneRecord) : s.keepsProbes (s.setZone z r) :=
  ⟨rfl, rfl, rfl, rfl, rfl, rfl⟩

theorem State.setLeak_keepsProbes (s : State) (l : LeakUnit) : s.keepsProbes (s.setLeak l) :=
  ⟨rfl, rfl, rfl, rfl, rfl, rfl⟩

theorem State.evaluateAt_keepsProbes (s : State) (a : Addr) : s.keepsProbes (s.evaluateAt a) :=
  (s.evaluateAt_keeps a).keepsProbes

theorem State.expireDwell_keepsProbes (s : State) (z : ZoneId) : s.keepsProbes (s.expireDwell z) := by
  unfold State.expireDwell
  split
  exacts [(s.setZone_keepsProbes ..).trans (State.evaluate_keeps ..).keepsProbes, .refl s]

theorem State.changeChannel_keepsProbes (s : State) (c : ChannelId) (r : Channel) :
    s.keepsProbes (s.changeChannel c r) := by
  have hset : s.keepsProbes (s.setChannel c r) := ⟨rfl, rfl, rfl, rfl, rfl, rfl⟩
  have hraise : s.keepsProbes ((s.setChannel c r).raiseLeak c (s.channel c).state r.state) := by
    unfold State.raiseLeak
    split
    exacts [hset.trans (State.raise_trunksOnly ..).keepsProbes, hset]
  unfold State.changeChannel
  dsimp only
  repeat' split
  exacts [hset, (hraise.trans (State.setLeak_keepsProbes _ _)).trans (State.evaluateAll_keeps ..).keepsProbes,
    hraise.trans (State.setLeak_keepsProbes _ _)]

theorem State.resetChannel_keepsProbes (s : State) (c : ChannelId) (r : Channel) :
    s.keepsProbes (s.resetChannel c r) := by
  refine .trans ?_ (State.changeChannel_keepsProbes _ c r)
  unfold State.discardGate
  split
  exacts [s.setLeak_keepsProbes _, .refl s]

theorem State.closeGate_keepsProbes (s : State) (cycles : Nat) : s.keepsProbes (s.closeGate cycles) := by
  unfold State.closeGate
  split
  · exact .refl s
  · refine .trans ?_ (State.setLeak_keepsProbes _ _)
    split
    exacts [.refl s, s.changeChannel_keepsProbes ..]

theorem State.keepDone_keepsProbes (s : State) (agrees : Bool) : s.keepsProbes (s.keepDone agrees) := by
  unfold State.keepDone State.endKeep
  split
  · cases agrees <;> exact ⟨rfl, rfl, rfl, rfl, rfl, rfl⟩
  · exact .refl s
  · exact .refl s

theorem ScanTimer.tick_maxAge (t : ScanTimer) : t.tick.maxAge = t.maxAge := by
  unfold ScanTimer.tick
  repeat' split
  all_goals rfl

theorem State.setScanMode_keepsProbes (s : State) (mode : ScanMode) (period : Nat) :
    s.keepsProbes (s.setScanMode mode period) := by
  obtain ⟨t, es, h⟩ := s.setScanMode_eq mode period
  have hmaxAge : (s.setScanMode mode period).scan.maxAge = s.scan.maxAge := by
    rw [s.setScanMode_scan]
    cases mode with
    | continuous => dsimp only; split <;> rfl
    | single => rfl
    | stopped => rfl
  exact ⟨by rw [h], by rw [h], by rw [h], by rw [h], by rw [h], hmaxAge⟩

/-! ### The requests that leave them alone -/

/-- The requests whose work is on the probe records, the map or the max reading age (R42, R44, R52, R62 to R65). -/
def probeServices : List Service :=
  [defineProbeService, retireProbeService, scanSetupService, mapPointService, mapSpanService, unmapPointService,
   unmapSpanService]

theorem noticeMaskWork_keepsProbes (p : List Byte) (s : State) : s.keepsProbes (noticeMaskWork p s).1 := by
  unfold noticeMaskWork
  split <;> exact ⟨rfl, rfl, rfl, rfl, rfl, rfl⟩

theorem trunkRestartWork_keepsProbes (p : List Byte) (s : State) : s.keepsProbes (trunkRestartWork p s).1 := by
  unfold trunkRestartWork
  repeat' split
  exacts [.refl s, ((s.setEngine_trunksOnly ..).trans (State.raise_trunksOnly ..)).keepsProbes, .refl s]

theorem trunkSetupWork_keepsProbes (p : List Byte) (s : State) : s.keepsProbes (trunkSetupWork p s).1 := by
  unfold trunkSetupWork
  split <;> exact ⟨rfl, rfl, rfl, rfl, rfl, rfl⟩

theorem surveyCancelWork_keepsProbes (p : List Byte) (s : State) : s.keepsProbes (surveyCancelWork p s).1 := by
  unfold surveyCancelWork
  repeat' split
  all_goals exact ⟨rfl, rfl, rfl, rfl, rfl, rfl⟩

theorem zoneSetupWork_keepsProbes (p : List Byte) (s : State) : s.keepsProbes (zoneSetupWork p s).1 := by
  unfold zoneSetupWork
  dsimp only
  repeat' split
  exacts [.refl s, (s.setZone_keepsProbes ..).trans (State.evaluate_keeps ..).keepsProbes, .refl s]

theorem zoneOnWork_keepsProbes (p : List Byte) (s : State) : s.keepsProbes (zoneOnWork p s).1 := by
  unfold zoneOnWork State.turnOn
  dsimp only
  repeat' split
  exacts [.refl s, .refl s, ((s.setZone_keepsProbes ..).trans (State.setZone_keepsProbes ..)).trans
    (State.handOn_handedOn ..).keepsProbes]

theorem zoneOffWork_keepsProbes (p : List Byte) (s : State) : s.keepsProbes (zoneOffWork p s).1 := by
  unfold zoneOffWork State.turnOff
  repeat' split
  exacts [.refl s, (s.setZone_keepsProbes ..).trans (State.handOn_handedOn ..).keepsProbes, .refl s]

theorem leakSetupWork_keepsProbes (p : List Byte) (s : State) : s.keepsProbes (leakSetupWork p s).1 := by
  unfold leakSetupWork
  split
  exacts [s.resetChannel_keepsProbes .., .refl s]

theorem leakRecalibrateWork_keepsProbes (p : List Byte) (s : State) : s.keepsProbes (leakRecalibrateWork p s).1 := by
  unfold leakRecalibrateWork
  repeat' split
  exacts [.refl s, .refl s, s.resetChannel_keepsProbes ..]

theorem lineSetupWork_keepsProbes (p : List Byte) (s : State) : s.keepsProbes (lineSetupWork p s).1 := by
  unfold lineSetupWork
  split <;> exact ⟨rfl, rfl, rfl, rfl, rfl, rfl⟩

theorem lineReleaseWork_keepsProbes (p : List Byte) (s : State) : s.keepsProbes (lineReleaseWork p s).1 := by
  unfold lineReleaseWork
  repeat' split
  all_goals exact ⟨rfl, rfl, rfl, rfl, rfl, rfl⟩

theorem eventAckWork_keepsProbes (p : List Byte) (s : State) : s.keepsProbes (eventAckWork p s).1 := by
  unfold eventAckWork
  repeat' split
  exacts [.refl s, .refl s, (s.setRecord_eventsOnly ..).handedOn.keepsProbes, .refl s, (s.removeRecord_eventsOnly ..).handedOn.keepsProbes]

/-- Every request that is one step leaves the probe records and the map alone, but those of `probeServices`. -/
theorem work_keepsProbes : ∀ v ∈ requestServices, v ∈ probeServices ∨
    ∀ (p : List Byte) (s : State), s.keepsProbes (v.work p s).1 := by
  simp only [requestServices, List.forall_mem_cons]
  refine ⟨?identify, ?summary, .inr noticeMaskWork_keepsProbes, ?defineProbe, ?retireProbe, ?probeQuery,
    .inr trunkRestartWork_keepsProbes, .inr trunkSetupWork_keepsProbes, ?scanSetup, .inr surveyCancelWork_keepsProbes,
    ?mapPoint, ?mapSpan, ?unmapPoint, ?unmapSpan, ?mapQuery, .inr zoneSetupWork_keepsProbes,
    .inr zoneOnWork_keepsProbes, .inr zoneOffWork_keepsProbes, ?zoneQuery, .inr leakSetupWork_keepsProbes,
    .inr leakRecalibrateWork_keepsProbes, ?leakQuery, .inr lineSetupWork_keepsProbes,
    .inr lineReleaseWork_keepsProbes, ?lineQuery, ?eventList, ?eventQuery, .inr eventAckWork_keepsProbes,
    fun v hv => absurd hv List.not_mem_nil⟩
  case defineProbe | retireProbe | scanSetup | mapPoint | mapSpan | unmapPoint | unmapSpan =>
    exact .inl (by simp [probeServices])
  all_goals exact .inr fun p s => .refl s

/-! ### Predicates that every operation on them keeps -/

/-- The changes of the map that a request can make: a single entry written where the table has room, one removed, a
span's zone replaced, a span added or removed (R62 to R65). -/
inductive ZoneMap.changes (m : ZoneMap) : ZoneMap → Prop where
  | point (a : Addr) (z : ZoneId) (h : (m.single a).isSome = true ∨ m.singlesHeld < 32) :
      m.changes (m.setSingle a (some z))
  | unpoint (a : Addr) : m.changes (m.setSingle a none)
  | rezone (t : Trunk) (base size : Nat) (z : ZoneId) : m.changes (m.rezoneSpan t base size z)
  | span (p : Span) (hbase : p.base < 32) (haligned : alignedSpan p.base p.size = true)
      (hfree : ∀ q ∈ m.spans, q.meets p.trunk p.base p.size = false) (hroom : m.spans.length < 8) :
      m.changes { m with spans := insertSpan p m.spans }
  | unspan (keep : Span → Bool) : m.changes { m with spans := m.spans.filter keep }

/-- P is of the probe records, the map, the map in store, and what a reading's age is judged by; and the operations on
them keep it. -/
structure KeptByProbes (P : State → Prop) : Prop where
  frame     : ∀ {s t : State}, s.keepsProbes t → P s → P t
  unloaded  : ∀ {s : State} (power : Power) (store : Store) (pending : List Instr), power ≠ .running →
    store.contents = s.store.contents → P s → P (State.unloaded power store pending)
  booting   : ∀ {s : State}, s.power = .loading → P s → P { s with uptime := s.uptime + 1 }
  started   : ∀ {s : State}, P s → P (s.startedFrom s.store.toLoad)
  beginKeep : ∀ {s : State} (tag : Byte), P s → P (s.beginKeep tag)
  restarted : ∀ {s : State}, P s → P s.restarted
  stored    : ∀ {s : State} {a : Addr} {c : ProbeConfig} {res : AttemptResult} {raw : RawReading} (o : ProbeOutcome),
    (s.probe a).config = some c → s.attempted a res → res.reading = some raw → P s →
    P (s.setProbe a (s.storedRecord a c o raw res.time))
  failed    : ∀ {s : State} {a : Addr} (o : ProbeOutcome) (answered : Option Kind), (s.probe a).config ≠ none → P s →
    P (s.setProbe a (s.failedRecord a o answered))
  fresh     : ∀ {s : State} (a : Addr) (c : ProbeConfig), P s → P (s.setProbe a (ProbeRecord.fresh c))
  retired   : ∀ {s : State} (a : Addr), P s → P (s.setProbe a ProbeRecord.undefined)
  expired   : ∀ {s : State} (a : Addr), s.ageIsDue a → P s → P (s.setProbe a (s.probe a).lostValidity)
  rejudged  : ∀ {s : State} (age : Nat), P s → P (s.rejudgedUnder age)
  changed   : ∀ {s : State} {m : ZoneMap}, s.map.changes m → P s → P (s.setMap m)
  second    : ∀ {s : State}, (∀ a, ¬ s.ageIsDue a) → P s → P { s with uptime := s.uptime + 1 }

namespace KeptByProbes

variable {P : State → Prop} (K : KeptByProbes P) {s : State}

include K

theorem evaluateAt (a : Addr) (h : P s) : P (s.evaluateAt a) := K.frame (s.evaluateAt_keepsProbes a) h

theorem changeMap {m : ZoneMap} (hm : s.map.changes m) (h : P s) : P (s.changeMap m) :=
  K.frame (State.evaluateAll_keeps ..).keepsProbes (K.changed hm h)

theorem defineProbeWork (p : List Byte) (h : P s) : P (defineProbeWork p s).1 := by
  unfold Machine.defineProbeWork
  split
  exacts [K.evaluateAt _ (K.fresh _ _ h), h]

theorem retireProbeWork (p : List Byte) (h : P s) : P (retireProbeWork p s).1 := by
  unfold Machine.retireProbeWork
  repeat' split
  exacts [h, K.evaluateAt _ (K.retired _ (K.frame (s.setEngine_trunksOnly ..).keepsProbes h)), h]

theorem scanSetupWork (p : List Byte) (h : P s) : P (scanSetupWork p s).1 := by
  unfold Machine.scanSetupWork
  split
  · exact h
  · exact K.frame (State.changeMaxAge_keeps ..).keepsProbes
      (K.rejudged _ (K.frame (s.setScanMode_keepsProbes ..) h))

theorem mapPointWork (p : List Byte) (h : P s) : P (mapPointWork p s).1 := by
  unfold Machine.mapPointWork
  split
  · split
    · next hroom => exact K.changeMap (.point _ _ (by simpa using hroom)) h
    · exact h
  · exact h

theorem unmapPointWork (p : List Byte) (h : P s) : P (unmapPointWork p s).1 := by
  unfold Machine.unmapPointWork
  repeat' split
  exacts [h, h, K.changeMap (.unpoint _) h]

theorem mapSpan {p : Span} (hbase : p.base < 32) (h : P s) : P (s.mapSpan p).1 := by
  unfold State.mapSpan
  split
  · exact h
  · next haligned =>
    split
    · exact K.changeMap (.rezone ..) h
    · split
      · exact h
      · next hfree =>
        split
        · next hroom =>
          have hmeets (q : Span) (hq : q ∈ s.map.spans) := List.find?_eq_none.mp hfree q hq
          exact K.changeMap (.span p hbase (by simpa using haligned) (by simpa using hmeets) hroom) h
        · exact h

theorem mapSpanWork (p : List Byte) (h : P s) : P (mapSpanWork p s).1 := by
  unfold Machine.mapSpanWork
  split
  exacts [K.mapSpan (Fin.isLt _) h, h]

theorem unmapSpanWork (p : List Byte) (h : P s) : P (unmapSpanWork p s).1 := by
  unfold Machine.unmapSpanWork
  repeat' split
  exacts [h, h, K.changeMap (.unspan _) h, h]

/-- The work of every request that is one step keeps P. -/
theorem work (v : Service) (hv : v ∈ requestServices) (p : List Byte) (s : State) (h : P s) : P (v.work p s).1 := by
  obtain hprobe | hkeeps := work_keepsProbes v hv
  · have hall : ∀ v ∈ probeServices, P (v.work p s).1 := by
      simp only [probeServices, List.forall_mem_cons]
      exact ⟨K.defineProbeWork p h, K.retireProbeWork p h, K.scanSetupWork p h, K.mapPointWork p h, K.mapSpanWork p h,
        K.unmapPointWork p h, K.unmapSpanWork p h, fun v hv => absurd hv List.not_mem_nil⟩
    exact hall v hprobe
  · exact K.frame (hkeeps p s) h

/-- What the Probe Table is handed: a reading stored, a failure counted, or nothing (R12, R45, R47, R48). -/
theorem handToProbe (a : Addr) {res : AttemptResult} (o : ProbeOutcome) (hr : s.attempted a res) (h : P s) :
    P (s.handToProbe a res o) := by
  have hwritten (p : ProbeRecord) (raises : Bool) (hp : P (s.setProbe a p)) :
      P ((s.writeProbe a p raises).evaluateAt a) :=
    K.evaluateAt a (K.frame (State.writeProbe_trunksOnly ..).keepsProbes hp)
  have hfailed (c : ProbeConfig) (hc : (s.probe a).config = some c) (o : ProbeOutcome) :
      P ((s.failProbe a o res.kind).evaluateAt a) :=
    hwritten _ _ (K.failed o res.kind (by simp [hc]) h)
  unfold State.handToProbe
  split
  · next c hc =>
    unfold State.applyOutcome
    cases o with
    | good =>
      dsimp only
      split
      · next hraw => exact hwritten _ _ (K.stored .good hc hr hraw h)
      · exact h
    | tainted =>
      dsimp only
      split
      · next hraw => exact hwritten _ _ (K.stored .tainted hc hr hraw h)
      · exact h
    | noAnswer => exact hfailed c hc _
    | badCheck => exact hfailed c hc _
    | kindMismatch => exact hfailed c hc _
    | notReady => exact h
    | notReadyLimit => exact h
    | trunkHalted => exact h
  · exact h

theorem expireAge (a : Addr) (h : P s) : P (s.expireAge a) := by
  unfold State.expireAge
  split
  · next hd => exact K.evaluateAt a (K.expired a ((s.ageIsDue_iff a).mpr hd) h)
  · exact h

/-- What keeps P of the probe records and the map keeps it of every block. -/
theorem blocks : KeptByBlocks P where
  trunks h := K.frame h.keepsProbes
  queue {s} _ := K.frame (s := s) ⟨rfl, rfl, rfl, rfl, rfl, rfl⟩
  timer _ ht := K.frame ⟨rfl, rfl, rfl, rfl, rfl, ht⟩
  unloaded := K.unloaded
  booting := K.booting
  started {s} h :=
    K.started (s := { s with defaulted := !s.store.valid }) (K.frame (s := s) ⟨rfl, rfl, rfl, rfl, rfl, rfl⟩ h)
  beginKeep := K.beginKeep
  keepDone agrees := K.frame (State.keepDone_keepsProbes _ agrees)
  restarted := K.restarted
  work := K.work
  outcome a _ o hr h := K.handToProbe a o hr h
  expireAge := K.expireAge
  expireDwell z := K.frame (State.expireDwell_keepsProbes _ z)
  dutyFrame {s} := K.frame (s := s) ⟨rfl, rfl, rfl, rfl, rfl, rfl⟩
  onTimeEnd _ := K.frame ⟨rfl, rfl, rfl, rfl, rfl, rfl⟩
  startRound := K.frame (State.setLeak_keepsProbes _ _)
  closeGate cycles := K.frame (State.closeGate_keepsProbes _ cycles)
  second {s} hdue h :=
    K.frame (s := { s with uptime := s.uptime + 1 }) ⟨rfl, rfl, rfl, rfl, rfl, s.scan.tick_maxAge⟩ (K.second hdue h)

end KeptByProbes

end Sys2Proof.Machine
end

section
/-! What a probe record and a map hold (R41, R45, R57, R58, R78, R81): the dew point and the filtered one in their
range, and that each operation on a record or on the map keeps it sound. -/

namespace Sys2Proof.Machine

open Sys2Proof

/-! ### The dew point and the filtered one stay in -2000..5000 (R77, R78, R81) -/

/-- Between the ends of the table the index names the segment of ed (R77). -/
theorem dewIndex_segment {ed : Int} (hlow : 1260 ≤ ed) (hhigh : ed < 123450) :
    dewIndex ed ≤ 13 ∧ satDeci (dewIndex ed) ≤ ed ∧ ed < satDeci (dewIndex ed + 1) := by
  unfold dewIndex
  cases hfind : (List.range 14).reverse.find? fun j => decide (satDeci j ≤ ed) with
  | none => exact absurd (decide_eq_true hlow) (List.find?_eq_none.mp hfind 0 (by decide))
  | some j =>
    obtain ⟨hj, pre, post, hlist, hpre⟩ := List.find?_eq_some_iff_append.mp hfind
    have hmem : j ∈ (List.range 14).reverse := List.mem_of_find?_eq_some hfind
    have hj13 : j ≤ 13 := by simpa [Nat.lt_succ_iff] using hmem
    refine ⟨hj13, of_decide_eq_true hj, ?_⟩
    obtain rfl | hlt := Nat.eq_or_lt_of_le hj13
    · exact hhigh
    · have hsorted : ((List.range 14).reverse).Pairwise (· > ·) := by decide
      have hnext : j + 1 ∈ (List.range 14).reverse := by simpa using Nat.succ_lt_succ hlt
      rw [hlist] at hsorted hnext
      have hbelow := (List.pairwise_cons.mp (List.pairwise_append.mp hsorted).2.1).1
      obtain hin | hin := List.mem_append.mp hnext
      · simpa using hpre _ hin
      · obtain heq | hin := List.mem_cons.mp hin
        · omega
        · exact absurd (hbelow _ hin) (by omega)

theorem dewTd_inRange (ed : Int) : -2000 ≤ dewTd ed ∧ dewTd ed ≤ 5000 := by
  unfold dewTd
  split
  · omega
  · next hlow =>
    split
    · omega
    · next hhigh =>
      obtain ⟨hj, hle, hlt⟩ := dewIndex_segment (ed := ed) (by omega) (by omega)
      generalize dewIndex ed = j at hj hle hlt
      generalize satDeci j = lo at hle hlt
      generalize satDeci (j + 1) = hi at hlt
      have h0 : 0 ≤ 500 * (ed - lo) / (hi - lo) := Int.ediv_nonneg (by omega) (by omega)
      have h1 : 500 * (ed - lo) / (hi - lo) ≤ 500 := Int.ediv_le_of_le_mul (by omega) (by omega)
      omega

/-- A filter step stands between the filtered dew point before it and the new dew point (R81). -/
theorem filterStep_between (k : Nat) (d td : Int) :
    min d td ≤ filterStep k (some d) td ∧ filterStep k (some d) td ≤ max d td := by
  have hshare (x : Int) (hx : 0 ≤ x) : 0 ≤ x.tdiv (2 ^ k) ∧ x.tdiv (2 ^ k) ≤ x :=
    ⟨Int.tdiv_nonneg hx (by positivity), Int.tdiv_le_self _ hx⟩
  show min d td ≤ d + (td - d).tdiv (2 ^ k) ∧ d + (td - d).tdiv (2 ^ k) ≤ max d td
  obtain hup | hdown := Int.le_total d td
  · have := hshare (td - d) (by omega)
    omega
  · have := hshare (d - td) (by omega)
    rw [← Int.neg_sub d td, Int.neg_tdiv]
    omega

theorem filterStep_inRange (k : Nat) {df : Option Int} {td : Int} (hdf : ∀ d, df = some d → -2000 ≤ d ∧ d ≤ 5000)
    (htd : -2000 ≤ td ∧ td ≤ 5000) : -2000 ≤ filterStep k df td ∧ filterStep k df td ≤ 5000 := by
  cases df with
  | none => exact htd
  | some d =>
    have := hdf d rfl
    have := filterStep_between k d td
    omega

/-! ### Probe records (R41) -/

/-- What `ProbeRecord.sound` says of a record with a configuration. -/
structure ProbeRecord.soundFor (p : ProbeRecord) (c : ProbeConfig) : Prop where
  state    : p.state ≠ .undefined
  failures : p.failures ≤ 15
  temp     : ∀ r, p.reading = some r → -4000 ≤ r.temp ∧ r.temp ≤ 8500
  rh       : ∀ r, p.reading = some r → (r.rh.isSome = true ↔ c.kind = .air)
  rhRange  : ∀ r x, p.reading = some r → r.rh = some x → x ≤ 10000
  dew      : p.dew.isSome = true ↔ (p.reading.isSome = true ∧ c.kind = .air)
  dewRange : ∀ w, p.dew = some w → -2000 ≤ w.td ∧ w.td ≤ 5000
  df       : ∀ d, p.df = some d → -2000 ≤ d ∧ d ≤ 5000 ∧ c.kind = .air
  mismatch : p.mismatch.isSome = true → p.last = some .kindMismatch

theorem ProbeRecord.sound_of_config {p : ProbeRecord} {c : ProbeConfig} (h : p.config = some c) :
    p.sound ↔ p.soundFor c := by
  rw [ProbeRecord.sound, h]
  exact ⟨fun ⟨hs, hn, ht, hr, hx, hw, hwr, hd, hm⟩ => ⟨hs, hn, ht, hr, hx, hw, hwr, hd, hm⟩,
    fun h => ⟨h.state, h.failures, h.temp, h.rh, h.rhRange, h.dew, h.dewRange, h.df, h.mismatch⟩⟩

theorem ProbeRecord.sound_of_undefined {p : ProbeRecord} (h : p.config = none) :
    p.sound ↔ p = ProbeRecord.undefined := by
  rw [ProbeRecord.sound, h]

theorem ProbeRecord.undefined_sound : ProbeRecord.undefined.sound := rfl

theorem ProbeRecord.fresh_sound (c : ProbeConfig) : (ProbeRecord.fresh c).sound :=
  (ProbeRecord.sound_of_config rfl).mpr
    { state := fun h => nomatch h
      failures := Nat.zero_le _
      temp := fun _ h => nomatch h
      rh := fun _ h => nomatch h
      rhRange := fun _ _ h => nomatch h
      dew := ⟨fun h => (nomatch h), fun h => (nomatch h.1)⟩
      dewRange := fun _ h => nomatch h
      df := fun _ h => nomatch h
      mismatch := fun h => nomatch h }

theorem ProbeRecord.start_sound (c : Option ProbeConfig) : (ProbeRecord.start c).sound := by
  cases c with
  | none => exact ProbeRecord.undefined_sound
  | some c => exact ProbeRecord.fresh_sound c

/-- Another awaited expiry, and a Df that is absent, as before or the record's Td (R51, R52). -/
theorem ProbeRecord.sound.withDf {p : ProbeRecord} (h : p.sound) {c : ProbeConfig} (hc : p.config = some c)
    (df : Option Int) (expiry : Option Nat) (hdf : df = none ∨ df = p.df ∨ df = p.dew.map (·.td)) :
    ({ p with df := df, expiry := expiry } : ProbeRecord).sound := by
  rw [ProbeRecord.sound_of_config hc] at h
  refine (ProbeRecord.sound_of_config (p := { p with df := df, expiry := expiry }) hc).mpr
    { h with df := fun d hd => ?_ }
  dsimp only at hd
  obtain rfl | rfl | rfl := hdf
  · cases hd
  · exact h.df d hd
  · obtain ⟨w, hw, rfl⟩ := Option.map_eq_some_iff.mp hd
    have hair := (h.dew.mp (by rw [hw]; rfl)).2
    exact ⟨(h.dewRange w hw).1, (h.dewRange w hw).2, hair⟩

theorem ProbeRecord.sound.lostValidity {p : ProbeRecord} (h : p.sound) : p.lostValidity.sound := by
  cases hc : p.config with
  | none =>
    rw [(ProbeRecord.sound_of_undefined hc).mp h]
    exact ProbeRecord.undefined_sound
  | some c => exact h.withDf hc _ _ (.inl rfl)

theorem ProbeRecord.sound.rejudged {p : ProbeRecord} (h : p.sound) (old new uptime : Nat) :
    (p.rejudged old new uptime).sound := by
  unfold ProbeRecord.rejudged
  split
  · exact h.lostValidity
  · next hv =>
    obtain ⟨c, hc⟩ := Option.ne_none_iff_exists'.mp ((p.validAt_iff new uptime).mp hv).1
    exact h.withDf hc _ _ (.inr (.inr rfl))
  · next hv =>
    obtain ⟨c, hc⟩ := Option.ne_none_iff_exists'.mp ((p.validAt_iff new uptime).mp hv).1
    exact h.withDf hc _ _ (.inr (.inl rfl))
  · exact h

/-- The state after a failure is SUSPECT or FAULTED (R47). -/
theorem failedState_ne_undefined (before : ProbeState) (count threshold : Nat) :
    failedState before count threshold ≠ .undefined := by
  unfold failedState
  repeat' split
  all_goals decide

theorem ProbeRecord.sound.failed {p : ProbeRecord} (h : p.sound) (hp : p.config ≠ none) (o : ProbeOutcome)
    (answered : Option Kind) (threshold : Nat) : (p.failed o answered threshold).sound := by
  obtain ⟨c, hc⟩ := Option.ne_none_iff_exists'.mp hp
  have hs := (ProbeRecord.sound_of_config hc).mp h
  refine (ProbeRecord.sound_of_config (p := p.failed o answered threshold) hc).mpr
    { hs with state := failedState_ne_undefined p.state _ threshold, failures := Nat.min_le_right .., df := ?df, mismatch := ?m }
  case df =>
    intro d hd
    simp only [ProbeRecord.failed] at hd
    split at hd
    · cases hd
    · exact hs.df d hd
  case m =>
    intro hm
    simp only [ProbeRecord.failed] at hm ⊢
    split at hm
    · next ho => rw [ho]
    · cases hm

/-- A reading that is stored is in range, with an RH exactly for AIR (R45). -/
theorem storedReading_inRange (c : ProbeConfig) {raw : RawReading} (taken : Nat)
    (hrh : raw.rh.isSome = true ↔ c.kind = .air) :
    (-4000 ≤ (storedReading c raw taken).temp ∧ (storedReading c raw taken).temp ≤ 8500)
      ∧ ((storedReading c raw taken).rh.isSome = true ↔ c.kind = .air)
      ∧ ∀ x, (storedReading c raw taken).rh = some x → x ≤ 10000 := by
  refine ⟨?_, ?_, fun x hx => ?_⟩
  · show -4000 ≤ clamp (-4000) 8500 _ ∧ clamp (-4000) 8500 _ ≤ 8500
    rw [clamp_eq (by decide)]
    omega
  · unfold storedReading
    cases hk : c.kind with
    | air => simp [hrh, hk]
    | surface => simp
  · unfold storedReading at hx
    cases hk : c.kind with
    | air =>
      simp only [hk] at hx
      obtain ⟨rh, -, rfl⟩ := Option.map_eq_some_iff.mp hx
      unfold trimRh
      rw [clamp_eq (by decide)]
      omega
    | surface => simp [hk] at hx

theorem State.storedRecord_sound {s : State} {a : Addr} (h : (s.probe a).sound) {c : ProbeConfig}
    (hc : (s.probe a).config = some c) (o : ProbeOutcome) {raw : RawReading} (taken : Nat)
    (hrh : raw.rh.isSome = true ↔ c.kind = .air) : (s.storedRecord a c o raw taken).sound := by
  have hs := (ProbeRecord.sound_of_config hc).mp h
  obtain ⟨htemp, hkind, hrange⟩ := storedReading_inRange c taken hrh
  obtain ⟨hstate, hfailures, -, hmismatch, hconfig, -⟩ := s.storedRecord_rest a c o raw taken
  have hreading : (s.storedRecord a c o raw taken).reading = some (storedReading c raw taken) := by
    rw [State.storedRecord, ProbeRecord.stored, ProbeRecord.withDew_eq]
  have hholds := s.storedRecord_holdsReading a o taken fun hk => Option.isSome_iff_exists.mp (hrh.mpr hk)
  have hsurface : c.kind ≠ .air → c.kind = .surface := by cases c.kind <;> simp
  have hdewRange : ∀ w, (s.storedRecord a c o raw taken).dew = some w →
      (-2000 ≤ w.td ∧ w.td ≤ 5000) ∧ c.kind = .air := by
    intro w hw
    by_cases hk : c.kind = .air
    · obtain ⟨-, -, -, x, -, -, hdew, -⟩ := hholds.air hk
      rw [hdew] at hw
      cases hw
      exact ⟨dewTd_inRange _, hk⟩
    · obtain ⟨-, -, hdew, -⟩ := hholds.surface (hsurface hk)
      exact absurd (hs.dew.mp (by rw [← hdew, hw]; rfl)).2 hk
  refine (ProbeRecord.sound_of_config (hconfig.trans hc)).mpr
    { state := by rw [hstate]; decide
      failures := by rw [hfailures]; exact Nat.zero_le _
      temp := fun r hr => by rw [hreading] at hr; cases hr; exact htemp
      rh := fun r hr => by rw [hreading] at hr; cases hr; exact hkind
      rhRange := fun r x hr hx => by rw [hreading] at hr; cases hr; exact hrange x hx
      dew := ⟨fun hd => ?_, fun hr => ?_⟩
      dewRange := fun w hw => (hdewRange w hw).1
      df := fun d hd => ?_
      mismatch := fun hm => by rw [hmismatch] at hm; cases hm }
  · obtain ⟨w, hw⟩ := Option.isSome_iff_exists.mp hd
    exact ⟨by rw [hreading]; rfl, (hdewRange w hw).2⟩
  · obtain ⟨-, -, -, x, -, -, hdew, -⟩ := hholds.air hr.2
    rw [hdew]
    rfl
  · by_cases hk : c.kind = .air
    · obtain ⟨-, -, -, x, -, -, -, hdf⟩ := hholds.air hk
      rw [hdf] at hd
      cases hd
      have := filterStep_inRange (s.filterWeight a) (fun d hd => ⟨(hs.df d hd).1, (hs.df d hd).2.1⟩)
        (dewTd_inRange (dewEd (dewEsd (dewTc (storedReading c raw taken).temp)) x))
      exact ⟨this.1, this.2, hk⟩
    · obtain ⟨-, -, -, hdf⟩ := hholds.surface (hsurface hk)
      exact hs.df d (hdf ▸ hd)

/-! ### The map (R57, R58) -/

theorem ZoneMap.empty_sound : ZoneMap.empty.sound :=
  ⟨by decide, Nat.zero_le _, fun _ h => absurd h List.not_mem_nil, .nil⟩

theorem ZoneMap.single_setSingle (m : ZoneMap) (a b : Addr) (z : Option ZoneId) :
    (m.setSingle a z).single b = if b = a then z else m.single b := by
  refine (Table.get_set ..).trans ?_
  by_cases hb : b = a
  · rw [hb, if_pos rfl, if_pos rfl]
  · rw [if_neg fun h => hb (Addr.idx_inj h), if_neg hb]
    rfl

/-- No more single entries are held than stand on a list of addresses that has them all. -/
theorem ZoneMap.singlesHeld_le {m : ZoneMap} {xs : List Addr} (h : ∀ b, (m.single b).isSome = true → b ∈ xs) :
    m.singlesHeld ≤ xs.length := by
  have hnodup : allAddrs.Nodup := pairwise_allAddrs.imp fun h heq => absurd (heq ▸ h) (lt_irrefl _)
  exact ((hnodup.filter _).subperm fun b hb => h b (List.mem_filter.mp hb).2).length_le

theorem alignedSpan_size {base size : Nat} (h : alignedSpan base size = true) : 0 < size := by
  unfold alignedSpan at h
  simp only [Bool.and_eq_true, List.contains_iff_mem, List.mem_cons, List.not_mem_nil, or_false] at h
  omega

/-- Two spans stand apart: on different trunks, or one before the other (R58). -/
theorem Span.disjoint_iff (p q : Span) :
    p.disjoint q ↔ p.trunk.val ≠ q.trunk.val ∨ q.base + q.size ≤ p.base ∨ p.base + p.size ≤ q.base := by
  unfold Span.disjoint Span.meets
  simp only [Bool.and_eq_true, decide_eq_true_eq, Fin.ext_iff]
  omega

theorem Span.disjoint.symm {p q : Span} (h : p.disjoint q) : q.disjoint p := by
  rw [Span.disjoint_iff] at h ⊢
  omega

theorem Span.before.trans {p q r : Span} (h : p.before q = true) (h' : q.before r = true) : p.before r = true := by
  unfold Span.before at *
  simp only [decide_eq_true_eq] at *
  omega

/-- Of two spans apart one stands before the other in the order of trunk and base (R69). -/
theorem Span.before_or_before {p q : Span} (hp : p.base < 32 ∧ 0 < p.size) (hq : q.base < 32 ∧ 0 < q.size)
    (h : p.disjoint q) : p.before q = true ∨ q.before p = true := by
  rw [Span.disjoint_iff] at h
  unfold Span.before
  simp only [decide_eq_true_eq]
  omega

theorem mem_insertSpan {p q : Span} {xs : List Span} : q ∈ insertSpan p xs ↔ q = p ∨ q ∈ xs := by
  induction xs with
  | nil => simp [insertSpan]
  | cons x xs ih =>
    unfold insertSpan
    split
    · simp
    · simp only [List.mem_cons, ih]
      tauto

theorem length_insertSpan (p : Span) (xs : List Span) : (insertSpan p xs).length = xs.length + 1 := by
  induction xs with
  | nil => rfl
  | cons x xs ih =>
    unfold insertSpan
    split
    · rfl
    · rw [List.length_cons, ih, List.length_cons]

/-- A span that stands apart from those of an ordered list takes its place in the order (R63, R69). -/
theorem pairwise_insertSpan {p : Span} {xs : List Span}
    (h : xs.Pairwise fun p q => p.before q = true ∧ p.disjoint q)
    (hp : ∀ q ∈ xs, p.disjoint q ∧ (p.before q = true ∨ q.before p = true)) :
    (insertSpan p xs).Pairwise fun p q => p.before q = true ∧ p.disjoint q := by
  induction xs with
  | nil => exact List.pairwise_singleton _ _
  | cons x xs ih =>
    obtain ⟨hx, hxs⟩ := List.pairwise_cons.mp h
    obtain ⟨⟨hpx, hor⟩, hpxs⟩ := List.forall_mem_cons.mp hp
    unfold insertSpan
    split
    · next hbefore =>
      refine List.pairwise_cons.mpr ⟨List.forall_mem_cons.mpr ⟨⟨hbefore, hpx⟩, fun q hq => ?_⟩, h⟩
      exact ⟨Span.before.trans hbefore (hx q hq).1, (hpxs q hq).1⟩
    · next hbefore =>
      refine List.pairwise_cons.mpr ⟨fun q hq => ?_, ih hxs hpxs⟩
      obtain rfl | hq := mem_insertSpan.mp hq
      exacts [⟨hor.resolve_left hbefore, hpx.symm⟩, hx q hq]

/-- Every change of the map keeps it sound (R57, R58, R62 to R65). -/
theorem ZoneMap.sound.changed {m n : ZoneMap} (h : m.sound) (hc : m.changes n) : n.sound := by
  obtain ⟨hsingles, hlength, haligned, hordered⟩ := h
  cases hc with
  | point a z hroom =>
    refine ⟨?_, hlength, haligned, hordered⟩
    have hheld (b : Addr) (hb : (m.single b).isSome = true) : b ∈ allAddrs.filter fun a => (m.single a).isSome :=
      List.mem_filter.mpr ⟨mem_allAddrs b, hb⟩
    obtain hone | hroom := hroom
    · refine (ZoneMap.singlesHeld_le fun b hb => hheld b ?_).trans hsingles
      rw [ZoneMap.single_setSingle] at hb
      split at hb
      · next heq => rw [heq]; exact hone
      · exact hb
    · refine (ZoneMap.singlesHeld_le (xs := a :: allAddrs.filter fun a => (m.single a).isSome) fun b hb => ?_).trans hroom
      rw [ZoneMap.single_setSingle] at hb
      split at hb
      · next heq => rw [heq]; exact List.mem_cons_self
      · exact List.mem_cons_of_mem _ (hheld b hb)
  | unpoint a =>
    refine ⟨(ZoneMap.singlesHeld_le fun b hb => List.mem_filter.mpr ⟨mem_allAddrs b, ?_⟩).trans hsingles, hlength,
      haligned, hordered⟩
    rw [ZoneMap.single_setSingle] at hb
    split at hb
    · cases hb
    · exact hb
  | rezone t base size z =>
    have hsame (p : Span) : ∃ y, (if p.isAt t base size then { p with zone := z } else p) = { p with zone := y } := by
      split
      exacts [⟨z, rfl⟩, ⟨p.zone, rfl⟩]
    refine ⟨hsingles, (List.length_map ..).trans_le hlength, fun q hq => ?_, ?_⟩
    · obtain ⟨p, hp, rfl⟩ := List.mem_map.mp hq
      obtain ⟨y, hy⟩ := hsame p
      rw [hy]
      exact haligned p hp
    · refine List.pairwise_map.mpr (hordered.imp fun {p q} hpq => ?_)
      obtain ⟨y, hy⟩ := hsame p
      obtain ⟨x, hx⟩ := hsame q
      rw [hy, hx]
      exact hpq
  | span p hbase hp hfree hroom =>
    refine ⟨hsingles, (length_insertSpan ..).trans_le hroom, fun q hq => ?_, pairwise_insertSpan hordered fun q hq => ?_⟩
    · obtain rfl | hq := mem_insertSpan.mp hq
      exacts [⟨hp, hbase⟩, haligned q hq]
    · have hapart : q.disjoint p := by simp [Span.disjoint, hfree q hq]
      exact ⟨hapart.symm, Span.before_or_before ⟨hbase, alignedSpan_size hp⟩
        ⟨(haligned q hq).2, alignedSpan_size (haligned q hq).1⟩ hapart.symm⟩
  | unspan keep =>
    exact ⟨hsingles, (List.length_filter_le ..).trans hlength, fun q hq => haligned q (List.mem_filter.mp hq).1,
      hordered.filter _⟩

/-! ### Every step keeps both -/

/-- One record is replaced by a sound one. -/
theorem State.probesSound.setProbe {s : State} (h : s.probesSound) {a : Addr} {p : ProbeRecord} (hp : p.sound) :
    (s.setProbe a p).probesSound := by
  intro b
  by_cases hb : b = a
  · rw [hb, State.probe_setProbe_same]
    exact hp
  · rw [State.probe_setProbe_of_ne _ _ hb]
    exact h b

/-- The probe records, the map and the map in store. -/
def State.recordsSound (s : State) : Prop := s.probesSound ∧ s.mapSound

theorem Store.toLoad_map_sound {s : Store} (h : s.contents.map.sound) : s.toLoad.map.sound := by
  unfold Store.toLoad
  split
  exacts [h, ZoneMap.empty_sound]

/-- Every operation on the probe records and the map keeps them sound. -/
theorem recordsSound_keptByProbes : KeptByProbes State.recordsSound where
  frame hk h := ⟨fun a => by rw [hk.probe]; exact h.1 a, by rw [hk.map]; exact h.2.1, by rw [hk.stored]; exact h.2.2⟩
  unloaded power store pending _ hs h := by
    refine ⟨fun a => ?_, ZoneMap.empty_sound, ?_⟩
    · show (Table.get (Table.all 64 ProbeRecord.undefined) a.idx).sound
      rw [Table.get_all]
      exact ProbeRecord.undefined_sound
    · show store.contents.map.sound
      rw [hs]
      exact h.2.2
  booting _ h := h
  started {s} h := by
    refine ⟨fun a => ?_, Store.toLoad_map_sound h.2.2, h.2.2⟩
    show (Table.get (s.store.toLoad.probes.map ProbeRecord.start) a.idx).sound
    rw [Table.get_map]
    exact ProbeRecord.start_sound _
  beginKeep _ h := ⟨h.1, h.2.1, h.2.1⟩
  restarted {s} h := by
    refine ⟨fun a => ?_, h.2⟩
    show (Table.get (s.probes.map fun p => ProbeRecord.start p.config) a.idx).sound
    rw [Table.get_map]
    exact ProbeRecord.start_sound _
  stored o hc hr hraw h := ⟨h.1.setProbe (State.storedRecord_sound (h.1 _) hc o _ (hr.rh _ _ hraw hc)), h.2⟩
  failed o answered hc h := ⟨h.1.setProbe ((h.1 _).failed hc o answered _), h.2⟩
  fresh a c h := ⟨h.1.setProbe (ProbeRecord.fresh_sound c), h.2⟩
  retired a h := ⟨h.1.setProbe ProbeRecord.undefined_sound, h.2⟩
  expired a _ h := ⟨h.1.setProbe (h.1 a).lostValidity, h.2⟩
  rejudged {s} age h := ⟨fun a => by rw [s.rejudgedUnder_probe]; exact (h.1 a).rejudged .., h.2⟩
  changed hm h := ⟨h.1, h.2.1.changed hm, h.2.2⟩
  second _ h := h

end Sys2Proof.Machine
end

section
/-! The ages of the readings (R50 to R52, assumption 18): each record alone, then every step, which keeps the records
and the maps too. -/

namespace Sys2Proof.Machine

open Sys2Proof

/-! ### One record -/

/-- What `State.agesSound` says of one record at an uptime second under a max reading age. -/
structure ProbeRecord.aged (p : ProbeRecord) (maxAge uptime : Nat) : Prop where
  taken   : ∀ r, p.reading = some r → r.taken ≤ uptime
  awaited : ∀ x, p.expiry = some x → uptime ≤ x ∧ p.config ≠ none ∧ p.state ≠ .faulted
    ∧ ∃ r, p.reading = some r ∧ (x = uptime ∨ x = r.taken + maxAge + 1)
  valid   : ∀ r, p.validAt maxAge uptime = true → p.reading = some r → p.expiry = some (r.taken + maxAge + 1)
  df      : p.df ≠ none → p.expiry ≠ none

theorem State.agesSound_iff (s : State) :
    s.agesSound ↔ (s.power = .running → ∀ a, (s.probe a).aged s.scan.maxAge s.uptime) :=
  ⟨fun h hp a => ⟨(h hp a).1, (h hp a).2.1, (h hp a).2.2.1, (h hp a).2.2.2⟩,
    fun h hp a => ⟨(h hp a).taken, (h hp a).awaited, (h hp a).valid, (h hp a).df⟩⟩

/-- A record without a reading awaits nothing and has no Df. -/
theorem ProbeRecord.aged_of_blank {p : ProbeRecord} (hr : p.reading = none) (he : p.expiry = none) (hd : p.df = none)
    (maxAge uptime : Nat) : p.aged maxAge uptime where
  taken := fun _ h => nomatch hr.symm.trans h
  awaited := fun _ h => nomatch he.symm.trans h
  valid := fun _ _ h => nomatch hr.symm.trans h
  df := fun h => absurd hd h

theorem ProbeRecord.start_aged (c : Option ProbeConfig) (maxAge uptime : Nat) :
    (ProbeRecord.start c).aged maxAge uptime := by
  cases c with
  | none => exact ProbeRecord.aged_of_blank rfl rfl rfl ..
  | some c => exact ProbeRecord.aged_of_blank rfl rfl rfl ..

/-- A reading that is stored in this second awaits its expiry (R45, R51). -/
theorem State.storedRecord_aged (s : State) (a : Addr) {c : ProbeConfig} (hc : (s.probe a).config = some c)
    (o : ProbeOutcome) (raw : RawReading) : (s.storedRecord a c o raw s.uptime).aged s.scan.maxAge s.uptime := by
  obtain ⟨hstate, -, -, -, hconfig, hexpiry⟩ := s.storedRecord_rest a c o raw s.uptime
  have hreading : (s.storedRecord a c o raw s.uptime).reading = some (storedReading c raw s.uptime) := by
    rw [State.storedRecord, ProbeRecord.stored, ProbeRecord.withDew_eq]
  refine ⟨fun r hr => ?_, fun x hx => ?_, fun r _ hr => ?_, fun _ => by simp [hexpiry]⟩
  · rw [hreading] at hr
    cases hr
    exact le_refl _
  · rw [hexpiry] at hx
    cases hx
    exact ⟨by omega, by simp [hconfig, hc], by simp [hstate], _, hreading, .inr rfl⟩
  · rw [hreading] at hr
    cases hr
    exact hexpiry

/-- A failure leaves the reading's age as it was, or makes the record FAULTED with nothing awaited (R47, R50). -/
theorem ProbeRecord.aged.failed {p : ProbeRecord} {maxAge uptime : Nat} (h : p.aged maxAge uptime)
    (o : ProbeOutcome) (answered : Option Kind) (threshold : Nat) :
    (p.failed o answered threshold).aged maxAge uptime := by
  by_cases hf : failedState p.state (min (p.failures + 1) 15) threshold = .faulted
  · have hstate : (p.failed o answered threshold).state = .faulted := hf
    refine ⟨h.taken, fun x hx => ?_, fun r hv => absurd hstate ((ProbeRecord.validAt_iff ..).mp hv).2.1, fun hd => ?_⟩
    · simp [ProbeRecord.failed, hf] at hx
    · simp [ProbeRecord.failed, hf] at hd
  · have hbefore : p.state ≠ .faulted := fun hp => hf (if_pos hp)
    have hsame : (p.failed o answered threshold).expiry = p.expiry ∧ (p.failed o answered threshold).df = p.df := by
      simp [ProbeRecord.failed, hf]
    refine ⟨h.taken, fun x hx => ?_, fun r hv hr => ?_, fun hd => ?_⟩
    · obtain ⟨hle, hc, -, hr⟩ := h.awaited x (hsame.1 ▸ hx)
      exact ⟨hle, hc, hf, hr⟩
    · obtain ⟨hc, -, hr'⟩ := (ProbeRecord.validAt_iff ..).mp hv
      rw [hsame.1]
      exact h.valid r ((ProbeRecord.validAt_iff ..).mpr ⟨hc, hbefore, hr'⟩) hr
    · rw [hsame.1]
      exact h.df (hsame.2 ▸ hd)

/-- A record that is not valid may lose its Df and await nothing more (R51). -/
theorem ProbeRecord.aged.lostValidity {p : ProbeRecord} {maxAge uptime : Nat} {new : Nat} (h : p.aged maxAge uptime)
    (hv : p.validAt new uptime = false) : p.lostValidity.aged new uptime where
  taken := h.taken
  awaited := fun _ hx => nomatch hx
  valid := fun _ hv' => absurd (hv.symm.trans hv') Bool.false_ne_true
  df := fun hd => absurd rfl hd

/-- A record whose awaited expiry is due is not valid (R50, R51). -/
theorem ProbeRecord.aged.invalid_of_due {p : ProbeRecord} {maxAge uptime x : Nat} (h : p.aged maxAge uptime)
    (hx : p.expiry = some x) (hdue : x ≤ uptime) : p.validAt maxAge uptime = false := by
  rw [← Bool.not_eq_true]
  intro hv
  obtain ⟨-, -, r, hr, hage⟩ := (ProbeRecord.validAt_iff ..).mp hv
  have := Option.some.inj (hx.symm.trans (h.valid r hv hr))
  omega

/-- A valid reading that awaits the expiry of the max reading age in force (R51, R52). -/
theorem ProbeRecord.aged_of_valid {p : ProbeRecord} {maxAge uptime : Nat} (htaken : ∀ r, p.reading = some r → r.taken ≤ uptime)
    (hv : p.validAt maxAge uptime = true) (hexpiry : p.expiry = p.expiryUnder maxAge) : p.aged maxAge uptime := by
  obtain ⟨hc, hs, r, hr, hage⟩ := (ProbeRecord.validAt_iff ..).mp hv
  rw [ProbeRecord.expiryUnder_of_reading hr] at hexpiry
  refine ⟨htaken, fun x hx => ?_, fun r' _ hr' => ?_, fun _ => by simp [hexpiry]⟩
  · rw [hexpiry] at hx
    cases hx
    exact ⟨by omega, hc, hs, r, hr, .inr rfl⟩
  · rw [hr] at hr'
    cases hr'
    exact hexpiry

/-- A record stays aged when it is re-judged under a new max reading age (R52): where it was not valid before and is not
now, an expiry that it still awaits is of this second. -/
theorem ProbeRecord.aged.rejudged {p : ProbeRecord} {old uptime : Nat} (h : p.aged old uptime) (new : Nat) :
    (p.rejudged old new uptime).aged new uptime := by
  cases hold : p.validAt old uptime with
  | true =>
    cases hnew : p.validAt new uptime with
    | true =>
      rw [ProbeRecord.rejudged_valid hold hnew]
      exact ProbeRecord.aged_of_valid h.taken hnew rfl
    | false =>
      rw [ProbeRecord.rejudged_lost hold hnew]
      exact h.lostValidity hnew
  | false =>
    cases hnew : p.validAt new uptime with
    | true =>
      rw [ProbeRecord.rejudged_regained hold hnew]
      exact ProbeRecord.aged_of_valid h.taken hnew rfl
    | false =>
      rw [ProbeRecord.rejudged_invalid hold hnew]
      refine ⟨h.taken, fun x hx => ?_, fun _ hv => absurd (hnew.symm.trans hv) Bool.false_ne_true, h.df⟩
      obtain ⟨hle, hc, hs, r, hr, hwhen⟩ := h.awaited x hx
      have hover : ¬ uptime ≤ r.taken + old := fun hage =>
        Bool.false_ne_true (hold.symm.trans ((ProbeRecord.validAt_iff ..).mpr ⟨hc, hs, r, hr, hage⟩))
      exact ⟨hle, hc, hs, r, hr, .inl (by omega)⟩

/-- A second passes over a record whose awaited expiry is not due (R51, R101). -/
theorem ProbeRecord.aged.second {p : ProbeRecord} {maxAge uptime : Nat} (h : p.aged maxAge uptime)
    (hdue : ∀ x, p.expiry = some x → uptime < x) : p.aged maxAge (uptime + 1) := by
  refine ⟨fun r hr => (h.taken r hr).trans (Nat.le_succ _), fun x hx => ?_, fun r hv hr => h.valid r ?_ hr, h.df⟩
  · obtain ⟨-, hc, hs, r, hr, hwhen⟩ := h.awaited x hx
    have hlt := hdue x hx
    exact ⟨hlt, hc, hs, r, hr, .inr (by omega)⟩
  · obtain ⟨hc, hs, r, hr, hage⟩ := (ProbeRecord.validAt_iff ..).mp hv
    exact (ProbeRecord.validAt_iff ..).mpr ⟨hc, hs, r, hr, by omega⟩

/-! ### Every step -/

/-- One record is replaced by one that is aged. -/
theorem State.agesSound.setProbe {s : State} (h : s.agesSound) {a : Addr} {p : ProbeRecord}
    (hp : (s.probe a).aged s.scan.maxAge s.uptime → p.aged s.scan.maxAge s.uptime) : (s.setProbe a p).agesSound := by
  rw [State.agesSound_iff] at h ⊢
  intro hrun b
  by_cases hb : b = a
  · rw [hb, State.probe_setProbe_same]
    exact hp (h hrun a)
  · rw [State.probe_setProbe_of_ne _ _ hb]
    exact h hrun b

/-- Every operation on the probe records and the max reading age keeps the ages sound. -/
theorem agesSound_keptByProbes : KeptByProbes State.agesSound where
  frame hk h := by
    rw [State.agesSound_iff] at h ⊢
    intro hrun a
    rw [hk.probe, hk.maxAge, hk.uptime]
    exact h (hk.power ▸ hrun) a
  unloaded power store pending hp _ _ := fun hrun => absurd hrun hp
  booting {s} hp _ := fun hrun => absurd (hp.symm.trans hrun) (by decide)
  started {s} _ := by
    rw [State.agesSound_iff]
    intro _ a
    show (Table.get (s.store.toLoad.probes.map ProbeRecord.start) a.idx).aged _ _
    rw [Table.get_map]
    exact ProbeRecord.start_aged ..
  beginKeep _ h := h
  restarted {s} _ := by
    rw [State.agesSound_iff]
    intro _ a
    show (Table.get (s.probes.map fun p => ProbeRecord.start p.config) a.idx).aged _ _
    rw [Table.get_map]
    exact ProbeRecord.start_aged ..
  stored {s a c res raw} o hc hr _ h := by
    rw [hr.time]
    exact h.setProbe fun _ => s.storedRecord_aged a hc o raw
  failed o answered _ h := h.setProbe fun ha => ha.failed o answered _
  fresh a c h := h.setProbe fun _ => ProbeRecord.start_aged (some c) ..
  retired a h := h.setProbe fun _ => ProbeRecord.start_aged none ..
  expired a hdue h := by
    obtain ⟨x, hx, hle⟩ := hdue
    exact h.setProbe fun ha => ha.lostValidity (ha.invalid_of_due hx hle)
  rejudged {s} age h := by
    rw [State.agesSound_iff] at h ⊢
    intro hrun a
    rw [s.rejudgedUnder_probe]
    exact (h hrun a).rejudged age
  changed _ h := h
  second {s} hdue h := by
    rw [State.agesSound_iff] at h ⊢
    exact fun hrun a => (h hrun a).second fun x hx => Nat.lt_of_not_le fun hle => hdue a ⟨x, hx, hle⟩

/-- Settles O54: the records and maps by `recordsSound_keptByProbes`, the ages by `agesSound_keptByProbes`. -/
theorem stepKeepsProbesAndMap : Obligations.StepKeepsProbesAndMap :=
  ⟨fun _ _ hprobes hmap hstep => recordsSound_keptByProbes.blocks.step ⟨hprobes, hmap⟩ hstep,
    fun _ _ hages hstep => agesSound_keptByProbes.blocks.step hages hstep⟩

end Sys2Proof.Machine
end

section
/-! Define Probe and Retire Probe (R42 to R44), an age expiry (R50, R51), and what an evaluation writes (R53, R60, R93 to
R95). -/

namespace Sys2Proof.Machine

open Sys2Proof

/-! ### Fields that name what the part has (R177, R178) -/

theorem addr?_val (a : Addr) : addr? a.trunk.val a.drop.val = some a := by
  rw [addr?, fin?_val, fin?_val]

theorem addr?_bytes (a : Addr) (rest : List Byte) :
    addr? (u8 (trunkCode a.trunk :: byte a.drop.val :: rest) 0) (u8 (trunkCode a.trunk :: byte a.drop.val :: rest) 1) =
      some a := by
  have htrunk : u8 (trunkCode a.trunk :: byte a.drop.val :: rest) 0 = a.trunk.val := byte_toNat (by omega)
  have hdrop : u8 (trunkCode a.trunk :: byte a.drop.val :: rest) 1 = a.drop.val := byte_toNat (by omega)
  rw [htrunk, hdrop, addr?_val]

theorem kind?_code (k : Kind) : kind? k.code.toNat = some k := by cases k <;> rfl

/-! ### Define Probe and Retire Probe (R42 to R44) -/

/-- The RH trim as applied, in the clamp of R42. -/
theorem appliedRhTrim_eq (k : Kind) (trim : Int) :
    appliedRhTrim k trim = if k = .air then max (-1000) (min 1000 trim) else 0 := by
  cases k with
  | air => exact clamp_eq (by decide) trim
  | surface => rfl

theorem State.evaluateAt_executing (s : State) (a : Addr) :
    (s.evaluateAt a).port.executing = s.port.executing := by
  rw [(s.evaluateAt_keeps a).port]

theorem State.definedAt_iff (s : State) (a : Addr) : s.definedAt a = true ↔ (s.probe a).config ≠ none :=
  Option.isSome_iff_ne_none

/-- Settles O18: the work of both requests, with the clamps of R42. -/
theorem defineAndRetireProbe : Obligations.DefineAndRetireProbe := by
  refine ⟨fun s s0 tag p a k hb hl ha hd hk tTrim rhTrim ht hr => ?_, fun s s0 tag a hb => ⟨fun hc => ?_, fun hc => ?_⟩⟩
  · refine runRequest_answered (v := defineProbeService) (by decide) hb hl ?_ (State.evaluateAt_executing ..)
    show defineProbeWork p s0 = _
    unfold defineProbeWork
    rw [ha, hd, hk, addr?_val, kind?_code]
    dsimp only
    rw [clamp_eq (by decide), appliedRhTrim_eq, ← ht, ← hr]
    have hstatus : takenStatus (tTrim != s16 p 3 || rhTrim != s16 p 5) =
        if tTrim = s16 p 3 ∧ rhTrim = s16 p 5 then .ok else .adjusted := by
      by_cases h : tTrim = s16 p 3 ∧ rhTrim = s16 p 5
      · rw [if_pos h, h.1, h.2, bne_self_eq_false, bne_self_eq_false]
        rfl
      · rw [if_neg h, takenStatus, if_pos]
        simpa only [Bool.or_eq_true, bne_iff_ne, ← not_and_or] using h
    rw [hstatus]
    rfl
  · refine runRequest_answered (v := retireProbeService) (by decide) hb rfl ?_ rfl
    show retireProbeWork _ s0 = _
    unfold retireProbeWork
    rw [addr?_bytes]
    exact if_neg fun h => (s0.definedAt_iff a).mp h hc
  · refine runRequest_answered (v := retireProbeService) (by decide) hb rfl ?_ (State.evaluateAt_executing ..)
    show retireProbeWork _ s0 = _
    unfold retireProbeWork
    rw [addr?_bytes]
    exact if_pos ((s0.definedAt_iff a).mpr hc)

/-! ### An age expiry (R50, R51) -/

/-- Settles O19: a due expiry writes one record and has its zone evaluated; another does nothing. -/
theorem ageExpiryDropsDf : Obligations.AgeExpiryDropsDf := by
  intro s a hrun hl
  refine ⟨fun t ht hle => ?_, fun hlater => ?_⟩
  · have hdue : s.ageDue a = true := (s.ageIsDue_iff a).mp ⟨t, ht, hle⟩
    refine ⟨(s.expireAge a).arbitrate, if_pos hrun, ?_, ?_, fun b hb => ?_⟩
    · rw [State.expireAge, if_pos hdue]
      rfl
    · rw [State.arbitrate_probe, State.expireAge_probe, if_pos ⟨rfl, hdue⟩]
      rfl
    · rw [State.arbitrate_probe, State.expireAge_probe, if_neg fun h => hb h.1]
  · have hnot : ¬ s.ageIsDue a := fun ⟨t, ht, hle⟩ => absurd (hlater t ht) (Nat.not_lt.mpr hle)
    have hself : s.expireAge a = s := if_neg fun h => hnot ((s.ageIsDue_iff a).mpr h)
    exact (fieldEvent_of_lineSound (f := fun s => s.expireAge a) hrun hl (by rw [hself])).trans (congrArg _ hself)

/-! ### What an evaluation writes (R53, R60, R94, R95) -/

theorem greatest_eq_some {xs : List Int} {d : Int} : greatest xs = some d ↔ d ∈ xs ∧ ∀ e ∈ xs, e ≤ d := by
  have hmax : greatest xs = xs.max? := by cases xs <;> rfl
  rw [hmax, List.max?_eq_some_iff]

theorem least_eq_some {xs : List Int} {d : Int} : least xs = some d ↔ d ∈ xs ∧ ∀ e ∈ xs, d ≤ e := by
  have hmin : least xs = xs.min? := by cases xs <;> rfl
  rw [hmin, List.min?_eq_some_iff]

theorem least_eq_none {xs : List Int} : least xs = none ↔ xs = [] := by
  cases xs <;> simp [least]

/-- The members of a zone are the defined probes that look up to it (R60). -/
theorem State.mem_members (s : State) (z : ZoneId) (a : Addr) :
    a ∈ s.members z ↔ (s.probe a).config ≠ none ∧ s.map.lookup a = some z := by
  simp [State.members, mem_allAddrs, State.definedAt, Option.isSome_iff_ne_none]

theorem State.offersDew_iff (s : State) (a : Addr) :
    s.offersDew a = true ↔ s.kindAt a = some .air ∧ s.valid a = true ∧ s.taintedAt a = false := by
  simp [State.offersDew, and_assoc]

theorem State.validAir_iff (s : State) (a : Addr) :
    s.validAir a = true ↔ s.kindAt a = some .air ∧ s.valid a = true := by
  simp [State.validAir]

theorem State.validSurface_iff (s : State) (a : Addr) :
    s.validSurface a = true ↔ s.kindAt a = some .surface ∧ s.valid a = true := by
  simp [State.validSurface]

/-- D is the greatest Df that a member offers (R94 step 1). -/
theorem State.zoneDew_eq_some (s : State) (z : ZoneId) (d : Int) : s.zoneDew z = some d ↔
    (∃ a ∈ s.members z, s.kindAt a = some .air ∧ s.valid a = true ∧ s.taintedAt a = false
      ∧ (s.probe a).df = some d)
    ∧ ∀ a ∈ s.members z, s.kindAt a = some .air → s.valid a = true → s.taintedAt a = false →
        ∀ e, (s.probe a).df = some e → e ≤ d := by
  rw [State.zoneDew, greatest_eq_some]
  simp only [List.mem_filterMap, List.mem_filter, State.offersDew_iff]
  refine and_congr ⟨?_, ?_⟩ ⟨?_, ?_⟩
  · rintro ⟨a, ⟨ha, hk, hv, ht⟩, hd⟩
    exact ⟨a, ha, hk, hv, ht, hd⟩
  · rintro ⟨a, ha, hk, hv, ht, hd⟩
    exact ⟨a, ⟨ha, hk, hv, ht⟩, hd⟩
  · exact fun h a ha hk hv ht e he => h e ⟨a, ⟨ha, hk, hv, ht⟩, he⟩
  · rintro h e ⟨a, ⟨ha, hk, hv, ht⟩, he⟩
    exact h a ha hk hv ht e he

/-- The least T' of the valid surface members (R94 step 2). -/
def State.leastSurface (s : State) (z : ZoneId) : Option Int :=
  least (((s.members z).filter s.validSurface).filterMap fun a => (s.probe a).reading.map (·.temp))

theorem State.zoneSurface_eq (s : State) (z : ZoneId) : s.zoneSurface z =
    match s.leastSurface z with
    | some t => some ⟨t, .probe⟩
    | none => (s.zone z).cfg.design.map fun t => ⟨t, .design⟩ := by
  unfold State.zoneSurface State.leastSurface
  rfl

theorem State.leastSurface_eq_some (s : State) (z : ZoneId) (v : Int) : s.leastSurface z = some v ↔
    (∃ a ∈ s.members z, s.kindAt a = some .surface ∧ s.valid a = true
      ∧ ∃ x, (s.probe a).reading = some x ∧ x.temp = v)
    ∧ ∀ a ∈ s.members z, s.kindAt a = some .surface → s.valid a = true →
        ∀ x, (s.probe a).reading = some x → v ≤ x.temp := by
  rw [State.leastSurface, least_eq_some]
  simp only [List.mem_filterMap, List.mem_filter, State.validSurface_iff, Option.map_eq_some_iff]
  refine and_congr ⟨?_, ?_⟩ ⟨?_, ?_⟩
  · rintro ⟨a, ⟨ha, hk, hv⟩, hx⟩
    exact ⟨a, ha, hk, hv, hx⟩
  · rintro ⟨a, ha, hk, hv, hx⟩
    exact ⟨a, ⟨ha, hk, hv⟩, hx⟩
  · exact fun h a ha hk hv x hx => h _ ⟨a, ⟨ha, hk, hv⟩, x, hx, rfl⟩
  · rintro h e ⟨a, ⟨ha, hk, hv⟩, x, hx, rfl⟩
    exact h a ha hk hv x hx

/-- A valid surface member has a reading (R50), so that none of them leaves S to the design value (R94 step 2). -/
theorem State.leastSurface_eq_none (s : State) (z : ZoneId) : s.leastSurface z = none ↔
    ∀ a ∈ s.members z, s.kindAt a = some .surface → s.valid a = false := by
  rw [State.leastSurface, least_eq_none, List.filterMap_eq_nil_iff]
  simp only [List.mem_filter, State.validSurface_iff]
  refine ⟨fun h a ha hk => ?_, fun h a ⟨ha, hk, hv⟩ => absurd ((h a ha hk).symm.trans hv) Bool.false_ne_true⟩
  rw [← Bool.not_eq_true]
  intro hv
  obtain ⟨-, -, x, hx, -⟩ := (ProbeRecord.validAt_iff ..).mp hv
  exact absurd (h a ⟨ha, hk, hv⟩) (by simp [hx])

theorem State.zoneSurface_eq_probe (s : State) (z : ZoneId) (v : Int) :
    s.zoneSurface z = some ⟨v, .probe⟩ ↔ s.leastSurface z = some v := by
  rw [s.zoneSurface_eq]
  cases s.leastSurface z <;> simp

theorem State.zoneSurface_eq_design (s : State) (z : ZoneId) (v : Int) :
    s.zoneSurface z = some ⟨v, .design⟩ ↔ s.leastSurface z = none ∧ (s.zone z).cfg.design = some v := by
  rw [s.zoneSurface_eq]
  cases s.leastSurface z <;> simp

/-- The WET condition, spelled (R95). -/
theorem State.wetCondition_iff (s : State) (z : ZoneId) : s.wetCondition z = true ↔
    (∃ c : ChannelId, (s.zone z).cfg.leakMask.getLsbD c.val = true ∧ (s.channel c).state = .wet)
    ∨ ((s.zone z).cfg.wetElement = true ∧ ∃ a ∈ s.members z, s.kindAt a = some .air ∧ s.valid a = true
        ∧ s.taintedAt a = true) := by
  simp [State.wetCondition, ZoneConfig.watches, State.validAir_iff, and_assoc]

/-- Settles O38: the record that an evaluation leaves is `State.zoneEvaluated`, and its values are those above. -/
theorem evaluationWritesOneZone : Obligations.EvaluationWritesOneZone := by
  intro s z cause r hr
  refine ⟨s.evaluate_keeps z cause, fun y hy => ?_, fun he => ?_, s.mem_members z, fun he => ?_⟩
  · rw [State.zone_evaluate, if_neg fun h => hy h.1]
  · exact if_neg (by simp [he])
  · rw [State.zone_evaluate, if_pos ⟨rfl, he⟩] at hr
    subst hr
    refine ⟨he, rfl, s.zoneDew_eq_some z, fun v => ?_, fun v => ?_, ?_, rfl, rfl, fun wet hwet => ?_⟩
    · exact (s.zoneSurface_eq_probe z v).trans (s.leastSurface_eq_some z v)
    · exact (s.zoneSurface_eq_design z v).trans (and_congr_left' (s.leastSurface_eq_none z))
    · show margin ((s.zoneSurface z).map (·.value)) (s.zoneDew z) =
        match s.zoneSurface z, s.zoneDew z with
        | some x, some d => some (x.value - d)
        | _, _ => none
      cases s.zoneSurface z <;> cases s.zoneDew z <;> rfl
    · rw [Bool.eq_iff_iff.mpr (hwet.trans (s.wetCondition_iff z).symm)]
      rfl

end Sys2Proof.Machine
end

section
/-! The nine requests that only read, and the layouts of the record bodies (R55, R69, R107, R123, R141, R156, R169, R170,
R180 to R182). -/

namespace Sys2Proof.Machine

open Sys2Proof

/-! ### Requests that only read -/

/-- A request that only reads, where its execution begins: its answer is sent and nothing else changes (R162). -/
theorem runRequest_readOnly {kind : Byte} (hk : kind ∈ requestKinds) {length : Nat} {answer : List Byte → State → Reply}
    {s s0 : State} {tag : Byte} {p : List Byte} (hb : s.begins ⟨kind, tag, p⟩ s0) (hl : p.length = length)
    {status : Status} {body : List Byte} (ha : answer p s0 = ⟨status, body⟩) :
    runRequest ⟨kind, length, readOnly answer⟩ tag p s = .next (s0.answered (replyTo kind tag status body)) :=
  runRequest_answered (v := ⟨kind, length, readOnly answer⟩) hk hb hl (congrArg (Prod.mk s0) ha) rfl

/-- A one-byte field that holds the number of one of n things. -/
theorem fin?_byte {n : Nat} (hn : n ≤ 256) (i : Fin n) : fin? n (u8 [byte i.val] 0) = some i := by
  rw [show u8 [byte i.val] 0 = i.val from byte_toNat (by omega), fin?_val]

/-! ### Records counted (R170) -/

theorem Table.items_eq {α : Type} {n : Nat} (t : Table α n) : t.items = (List.finRange n).map t.get := by
  refine List.ext_getElem (by simp [t.size_eq]) fun i h1 h2 => ?_
  simp [Table.get]

theorem State.probes_items (s : State) : s.probes.items = allAddrs.map s.probe := by
  have hall : List.finRange 64 = allAddrs.map Addr.idx := by decide
  rw [Table.items_eq, hall, List.map_map]
  rfl

theorem State.probesIn_eq (s : State) (p : ProbeState) :
    s.probesIn p = (allAddrs.filter fun a => (s.probe a).state == p).length := by
  rw [State.probesIn, s.probes_items, List.filter_map, List.length_map]
  rfl

theorem State.zonesIn_eq (s : State) (g : Grade) :
    s.zonesIn g = ((List.finRange 24).filter fun z => (s.zone z).grade == g).length := by
  rw [State.zonesIn, Table.items_eq, List.filter_map, List.length_map]
  rfl

/-! ### Fields that may be absent (R177, R178) -/

theorem optCode_outcome (x : Option ProbeOutcome) :
    optCode (x.map (·.code)) = match x with | some o => o.code | none => 0xFF := by
  cases x <;> rfl

theorem optCode_kind (x : Option Kind) :
    optCode (x.map (·.code)) = match x with | some k => k.code | none => 0xFF := by
  cases x <;> rfl

theorem optCode_cause (x : Option ClearCause) :
    optCode (x.map (·.code)) = match x with | some c => c.code | none => 0xFF := by
  cases x <;> rfl

theorem optCode_zone (x : Option ZoneId) :
    optCode (x.map fun z => byte z.val) = match x with | some z => byte z.val | none => 0xFF := by
  cases x <;> rfl

theorem optSigned_eq (x : Option Int) : optSigned x = match x with | some y => sbe16 y | none => [0x80, 0] := by
  cases x <;> rfl

theorem optWord_eq (x : Option Nat) : optWord x = match x with | some y => be16 y | none => [0xFF, 0xFF] := by
  cases x <;> rfl

theorem optLong_eq (x : Option Nat) :
    optLong x = match x with | some y => be32 y | none => [0xFF, 0xFF, 0xFF, 0xFF] := by
  cases x <;> rfl

theorem boolByte_isSome (x : Option EventKind) :
    boolByte x.isSome = match x with | some _ => 1 | none => 0 := by
  cases x <;> rfl

theorem sbe16_zero : sbe16 0 = [0, 0] := by decide

theorem flagByte_eq (bit0 bit1 : Bool) :
    flagByte bit0 bit1 = (if bit0 then (1 : Byte) else 0) + (if bit1 then 2 else 0) := by
  cases bit0 <;> cases bit1 <;> rfl

/-- The rate the leak unit asks for is the slow one exactly where nothing is active and nothing is wet (R107, R123). -/
theorem LeakUnit.wanted_code (u : LeakUnit) : u.wanted.code =
    if u.activeZones = 0 ∧ u.wetChannels = 0 then Rate.slow.code else Rate.fast.code := by
  unfold LeakUnit.wanted
  by_cases h : u.activeZones = 0 ∧ u.wetChannels = 0
  · simp [h]
  · have hany : u.activeZones > 0 ∨ u.wetChannels > 0 := by omega
    simp [h, hany]

/-! ### The nine requests and the layouts -/

/-- Settles O15: each request that only reads is `runRequest_readOnly` of its answer, written in the obligation's words;
each record body is the field lemmas above, after a split on the groups of fields that are absent together. -/
theorem queriesOnlyAnswer : Obligations.QueriesOnlyAnswer := by
  intro s s0 tag
  refine ⟨fun hb => ?identify, fun hb => ?summary, fun a hb => ?probeQuery, fun hb => ?mapQuery, fun z hb => ?zoneQuery,
    fun c hb => ?leakQuery, fun l hb => ?lineQuery, fun hb => ?eventList, fun p hb hl hn => ?eventQuery,
    fun a => ?probeBody, fun z => ?zoneBody, fun c => ?zoneConfig, fun e => ?eventRecord, fun p => ?eventBody,
    fun c => ?capture, fun t => ?trunkBody, fun c => ?leakBody, fun l r hr => ?lineBody, fun a o => ?surveyEntry⟩
  case identify =>
    refine runRequest_readOnly (by decide) hb rfl ?_
    unfold identifyAnswer State.flagsByte
    rw [flagByte_eq]
    cases s0.defaulted <;> rfl
  case summary =>
    refine runRequest_readOnly (by decide) hb rfl ?_
    unfold summaryAnswer State.flagsByte
    simp only [State.probesIn_eq, State.zonesIn_eq, flagByte_eq]
    cases s0.defaulted <;> rfl
  case probeQuery =>
    refine runRequest_readOnly (by decide) hb rfl ?_
    unfold probeQueryAnswer
    rw [addr?_bytes]
  case mapQuery => exact runRequest_readOnly (by decide) hb rfl rfl
  case zoneQuery =>
    refine runRequest_readOnly (by decide) hb rfl ?_
    unfold zoneQueryAnswer
    rw [fin?_byte (by decide), List.append_assoc]
    rfl
  case leakQuery =>
    refine runRequest_readOnly (by decide) hb rfl ?_
    unfold leakQueryAnswer
    rw [fin?_byte (by decide), ← LeakUnit.wanted_code]
  case lineQuery =>
    refine runRequest_readOnly (by decide) hb rfl ?_
    unfold lineQueryAnswer
    rw [fin?_byte (by decide)]
  case eventList =>
    exact runRequest_readOnly (by decide) hb rfl rfl
  case eventQuery =>
    have hanswer : eventQueryAnswer p s0 = match s0.findNumber (u16 p 0) with
      | some (place, e) =>
        ⟨.ok, byte place.val :: (e.bytes ++ [byte e.capture.length] ++ e.capture.flatMap Capture.bytes)⟩
      | none => Reply.bare .notFound := if_neg hn
    cases hf : s0.findNumber (u16 p 0) with
    | none =>
      rw [hf] at hanswer
      exact runRequest_readOnly (by decide) hb hl hanswer
    | some x =>
      rw [hf] at hanswer
      exact runRequest_readOnly (by decide) hb hl hanswer
  case probeBody =>
    unfold State.probeBody
    dsimp only
    cases (s0.probe a).config <;> cases (s0.probe a).reading <;> cases (s0.probe a).dew
    all_goals
      simp only [Option.isSome_none, Option.isSome_some, Option.getD_none, Option.getD_some, sbe16_zero,
        Option.map_none, Option.map_some, Option.bind_none, Option.bind_some, optSigned_eq, optWord_eq, optLong_eq,
        optCode_outcome, optCode_kind, optCode_zone, flagByte_eq,
        List.append_assoc, List.cons_append, List.nil_append] <;> with_unfolding_all rfl
  case zoneBody =>
    unfold State.zoneBody State.recordOfZone
    dsimp only
    cases (s0.zone z).s <;> cases (s0.zone z).dwell <;> cases s0.findZone z
    all_goals
      simp only [Option.map_none, Option.map_some, optSigned_eq, boolByte_isSome,
        List.append_assoc, List.cons_append, List.nil_append] <;> with_unfolding_all rfl
  case zoneConfig =>
    unfold ZoneConfig.bytes
    rw [optSigned_eq]
    rfl
  case eventRecord =>
    unfold EventRecord.bytes
    simp only [flagByte_eq, optCode_cause, optSigned_eq, optLong_eq] <;> with_unfolding_all rfl
  case eventBody =>
    unfold State.eventBody State.recordAt
    cases (s0.place p).record with
    | some e => rfl
    | none => cases (s0.place p).last <;> rfl
  case capture =>
    unfold Capture.bytes
    simp only [flagByte_eq, optSigned_eq, optWord_eq, optLong_eq] <;> with_unfolding_all rfl
  case trunkBody =>
    unfold State.trunkBody Engine.state
    dsimp only
    cases (s0.engine t).halted <;> cases (s0.engine t).inFlight <;> cases (s0.engine t).waitList
    all_goals rfl
  case leakBody =>
    unfold State.leakBody
    simp only [optWord_eq] <;> with_unfolding_all rfl
  case lineBody =>
    subst hr
    rfl
  case surveyEntry =>
    unfold surveyEntry
    simp only [Option.bind_some]
    cases o.result.bind (·.reading)
    all_goals
      simp only [Option.map_none, Option.map_some, Option.bind_none, Option.bind_some, optCode_kind, flagByte_eq,
        optSigned_eq, optWord_eq, List.append_assoc, List.cons_append, List.nil_append] <;> with_unfolding_all rfl

end Sys2Proof.Machine
end

section
/-! The Zone Map (R57 to R66): the lookup, what a change of the map evaluates, and the requests for single entries and
for spans. -/

namespace Sys2Proof.Machine

open Sys2Proof

/-! ### A change of the map (R66, R67) -/

/-- The zones a new map alters are those that lose or gain a member (R66). -/
theorem State.mem_remapped (s : State) (new : ZoneMap) (z : ZoneId) : z ∈ s.remapped new ↔
    ∃ a, s.definedAt a = true ∧ ¬ (s.map.lookup a = some z ↔ new.lookup a = some z) := by
  have hmember (a : Addr) : (s.map.lookup a ≠ new.lookup a ∧ (s.map.lookup a = some z ∨ new.lookup a = some z)) ↔
      ¬ (s.map.lookup a = some z ↔ new.lookup a = some z) := by
    refine ⟨?_, fun h => ⟨fun heq => h (by rw [heq]), by tauto⟩⟩
    rintro ⟨hne, hold | hnew⟩ hiff
    · exact hne (hold.trans (hiff.mp hold).symm)
    · exact hne ((hiff.mpr hnew).trans hnew.symm)
  simp [State.remapped, mem_allAddrs, ← hmember, and_assoc]

theorem State.changeMap_keeps (s : State) (new : ZoneMap) : (s.setMap new).evaluationKeeps (s.changeMap new) :=
  State.evaluateAll_keeps ..

theorem State.changeMap_executing (s : State) (new : ZoneMap) :
    (s.changeMap new).port.executing = s.port.executing := by
  rw [(s.changeMap_keeps new).port]
  rfl

/-- An enabled zone that the change alters is evaluated on the new map, every other zone is as it was (R66). -/
theorem State.changeMap_zone (s : State) (new : ZoneMap) (z : ZoneId) : (s.changeMap new).zone z =
    if z ∈ s.remapped new ∧ (s.zone z).enabled = true then (s.setMap new).zoneEvaluated z .ordinary else s.zone z :=
  State.zone_evaluateAll ((List.nodup_finRange 24).filter _) (s.setMap new) z

/-- Settles O32: what all evaluations keep is kept, and the zones evaluated are those of `State.mem_remapped`. -/
theorem mapChangeEvaluatesAlteredZones : Obligations.MapChangeEvaluatesAlteredZones := by
  intro s new
  have hk := s.changeMap_keeps new
  refine ⟨hk.map, hk.probes, hk.engines, hk.scan, hk.slots, fun z hsame => ?_, fun z a hdef halters hon => ?_,
    fun hsame => ?_⟩
  · rw [s.changeMap_zone, if_neg]
    rintro ⟨hz, -⟩
    obtain ⟨a, hdef, halters⟩ := (s.mem_remapped new z).mp hz
    exact halters (hsame a hdef)
  · rw [s.changeMap_zone, if_pos ⟨(s.mem_remapped new z).mpr ⟨a, hdef, halters⟩, hon⟩]
    rfl
  · have hnone : s.remapped new = [] := by
      refine List.eq_nil_iff_forall_not_mem.mpr fun z hz => ?_
      obtain ⟨a, hdef, halters⟩ := (s.mem_remapped new z).mp hz
      exact halters (by rw [hsame a hdef])
    rw [State.changeMap, hnone]
    rfl

/-! ### The lookup (R59) -/

theorem ZoneMap.lookup_of_single {m : ZoneMap} {a : Addr} {z : ZoneId} (h : m.single a = some z) :
    m.lookup a = some z := by
  rw [ZoneMap.lookup, h]

theorem ZoneMap.lookup_of_no_single {m : ZoneMap} {a : Addr} (h : m.single a = none) :
    m.lookup a = (m.spanOf a).map (·.zone) := by
  rw [ZoneMap.lookup, h]

/-- The lookup reads the single entry of its own address, and the spans. -/
theorem ZoneMap.lookup_congr {m n : ZoneMap} {a : Addr} (hsingle : n.single a = m.single a)
    (hspans : n.spans = m.spans) : n.lookup a = m.lookup a := by
  rw [ZoneMap.lookup, ZoneMap.lookup, ZoneMap.spanOf, ZoneMap.spanOf, hsingle, hspans]

/-- The lookup's answer at an address without a single entry, as a reply carries it (R178). -/
theorem ZoneMap.answerBytes_of_no_single {m : ZoneMap} {a : Addr} (h : m.single a = none) :
    m.answerBytes a = match m.spans.find? (·.covers a) with
      | some q => [byte q.zone.val, 2]
      | none => [0xFF, 0] := by
  rw [ZoneMap.answerBytes, ZoneMap.lookup_of_no_single h, ZoneMap.sourceCode, h, ZoneMap.spanOf]
  cases m.spans.find? (·.covers a) <;> rfl

/-! ### Single entries (R57, R62, R64) -/

theorem ZoneMap.single_setSingle_same (m : ZoneMap) (a : Addr) (z : Option ZoneId) :
    (m.setSingle a z).single a = z := by
  rw [ZoneMap.single_setSingle, if_pos rfl]

theorem ZoneMap.single_setSingle_of_ne (m : ZoneMap) {a b : Addr} (z : Option ZoneId) (h : b ≠ a) :
    (m.setSingle a z).single b = m.single b := by
  rw [ZoneMap.single_setSingle, if_neg h]

theorem nodup_allAddrs : allAddrs.Nodup := pairwise_allAddrs.imp fun h heq => absurd (heq ▸ h) (lt_irrefl _)

/-- A single entry written is one more where the address held none (R62). -/
theorem ZoneMap.singlesHeld_setSingle (m : ZoneMap) (a : Addr) (z : ZoneId) :
    (m.setSingle a (some z)).singlesHeld = if m.single a = none then m.singlesHeld + 1 else m.singlesHeld := by
  have hheld (b : Addr) : ((m.setSingle a (some z)).single b).isSome = true ↔ b = a ∨ (m.single b).isSome = true := by
    rw [ZoneMap.single_setSingle]
    by_cases hb : b = a <;> simp [hb]
  unfold ZoneMap.singlesHeld
  split
  · next hnone =>
    have hfresh : a ∉ allAddrs.filter fun b => (m.single b).isSome := by simp [hnone]
    have hnodup := List.nodup_cons.mpr ⟨hfresh, nodup_allAddrs.filter _⟩
    refine ((List.perm_ext_iff_of_nodup (nodup_allAddrs.filter _) hnodup).mpr fun b => ?_).length_eq
    simp only [List.mem_filter, List.mem_cons, hheld, mem_allAddrs, true_and]
  · next hsome =>
    refine congrArg List.length (List.filter_congr fun b _ => Bool.eq_iff_iff.mpr ((hheld b).trans ⟨?_, .inr⟩))
    rintro (rfl | hb)
    exacts [Option.isSome_iff_ne_none.mpr hsome, hb]

/-- Map Point's work on an address and a zone the part has (R62). -/
theorem mapPointWork_eq (s : State) (a : Addr) (z : ZoneId) :
    mapPointWork [trunkCode a.trunk, byte a.drop.val, byte z.val] s =
      if s.map.single a ≠ none ∨ s.map.singlesHeld < 32 then
        (s.changeMap (s.map.setSingle a (some z)),
          ⟨.ok, [trunkCode a.trunk, byte a.drop.val, byte z.val] ++ s.map.answerBytes a ++
            [byte (s.map.setSingle a (some z)).singlesHeld]⟩)
      else (s, ⟨.tableFull, []⟩) := by
  have hzone : fin? 24 (u8 [trunkCode a.trunk, byte a.drop.val, byte z.val] 2) = some z := fin?_byte (by decide) z
  unfold mapPointWork
  rw [addr?_bytes, hzone]
  simp only [Bool.or_eq_true, decide_eq_true_eq, Option.isSome_iff_ne_none]
  rfl

/-- Unmap Point's work where a single entry stands (R64). -/
theorem unmapPointWork_of_single {s : State} {a : Addr} {z : ZoneId} (h : s.map.single a = some z) :
    unmapPointWork [trunkCode a.trunk, byte a.drop.val] s =
      (s.changeMap (s.map.setSingle a none),
        ⟨.ok, [trunkCode a.trunk, byte a.drop.val, byte z.val] ++ (s.map.setSingle a none).answerBytes a⟩) := by
  unfold unmapPointWork
  rw [addr?_bytes]
  simp only [h]

theorem unmapPointWork_of_no_single {s : State} {a : Addr} (h : s.map.single a = none) :
    unmapPointWork [trunkCode a.trunk, byte a.drop.val] s = (s, ⟨.notFound, []⟩) := by
  unfold unmapPointWork
  rw [addr?_bytes]
  simp only [h]
  rfl

/-- Settles O30: the map with one single entry written or removed, and what the lookup then gives. -/
theorem mapAndUnmapPoint : Obligations.MapAndUnmapPoint := by
  refine ⟨fun s s0 tag a z p hp hb => ?mapPoint, fun s s0 tag a p hp hb => ?unmapPoint⟩
  case mapPoint =>
    subst hp
    refine ⟨fun hnone hfull => ?_, fun hroom => ?_⟩
    · exact runRequest_answered (v := mapPointService) (by decide) hb rfl
        ((mapPointWork_eq s0 a z).trans (if_neg (by simp [hnone, hfull]))) rfl
    · refine ⟨s0.map.setSingle a (some z), rfl, s0.map.single_setSingle_same a _,
        fun b hb' => s0.map.single_setSingle_of_ne _ hb',
        fun b hb' => ZoneMap.lookup_congr (s0.map.single_setSingle_of_ne _ hb') rfl,
        ZoneMap.lookup_of_single (s0.map.single_setSingle_same a _), ?_⟩
      refine runRequest_answered (v := mapPointService) (by decide) hb rfl ?_ (State.changeMap_executing ..)
      refine ((mapPointWork_eq s0 a z).trans (if_pos hroom)).trans ?_
      rw [ZoneMap.answerBytes, optCode_zone, ZoneMap.singlesHeld_setSingle]
      rfl
  case unmapPoint =>
    subst hp
    refine ⟨fun hnone => ?_, fun z hsingle => ?_⟩
    · exact runRequest_answered (v := unmapPointService) (by decide) hb rfl (unmapPointWork_of_no_single hnone) rfl
    · have hgone := s0.map.single_setSingle_same a none
      refine ⟨s0.map.setSingle a none, rfl, hgone, fun b hb' => s0.map.single_setSingle_of_ne _ hb', ?_⟩
      refine runRequest_answered (v := unmapPointService) (by decide) hb rfl ?_ (State.changeMap_executing ..)
      refine (unmapPointWork_of_single hsingle).trans ?_
      rw [ZoneMap.answerBytes_of_no_single hgone]
      rfl

/-! ### Spans (R58) -/

theorem Span.covers_iff (q : Span) (a : Addr) :
    q.covers a = true ↔ q.trunk = a.trunk ∧ q.base ≤ a.drop.val ∧ a.drop.val < q.base + q.size := by
  simp [Span.covers, and_assoc]

/-- Two ranges that are not empty meet where they share a drop (R58). -/
theorem Span.meets_iff {q : Span} {size : Nat} (t : Trunk) (base : Nat) (hq : 0 < q.size) (hsize : 0 < size) :
    q.meets t base size = true ↔
      q.trunk = t ∧ ∃ d, q.base ≤ d ∧ d < q.base + q.size ∧ base ≤ d ∧ d < base + size := by
  simp only [Span.meets, Bool.and_eq_true, decide_eq_true_eq, and_assoc]
  refine and_congr_right fun _ => ⟨fun h => ⟨max q.base base, by omega⟩, ?_⟩
  rintro ⟨d, hd⟩
  omega

theorem Span.isAt_iff (q : Span) (t : Trunk) (base size : Nat) :
    q.isAt t base size = true ↔ q = ⟨t, base, size, q.zone⟩ := by
  obtain ⟨t', base', size', z⟩ := q
  simp [Span.isAt, and_assoc]

theorem alignedSpan_iff (base size : Nat) : alignedSpan base size = true ↔ size ∈ [2, 4, 8, 16, 32] ∧ size ∣ base := by
  rw [alignedSpan, Bool.and_eq_true, List.contains_iff_mem, beq_iff_eq, Nat.dvd_iff_mod_eq_zero]

/-! ### The spans of a map that obeys R57 and R58 -/

theorem ZoneMap.sound.size_pos {m : ZoneMap} (h : m.sound) {q : Span} (hq : q ∈ m.spans) : 0 < q.size := by
  obtain ⟨-, -, haligned, -⟩ := h
  exact alignedSpan_size (haligned q hq).1

/-- Of the spans of a sound map no two meet (R57). -/
theorem ZoneMap.sound.eq_of_meets {m : ZoneMap} (h : m.sound) {p q : Span} (hp : p ∈ m.spans) (hq : q ∈ m.spans)
    (hmeets : p.meets q.trunk q.base q.size = true) : p = q := by
  obtain ⟨-, -, -, hordered⟩ := h
  have hsymm : Std.Symm Span.disjoint := ⟨fun _ _ => Span.disjoint.symm⟩
  by_contra hne
  exact (hordered.imp And.right).forall hp hq hne hmeets

theorem ZoneMap.sound.eq_of_covers {m : ZoneMap} (h : m.sound) {p q : Span} {a : Addr} (hp : p ∈ m.spans)
    (hq : q ∈ m.spans) (hpa : p.covers a = true) (hqa : q.covers a = true) : p = q := by
  obtain ⟨hpt, hplow, hphigh⟩ := (p.covers_iff a).mp hpa
  obtain ⟨hqt, hqlow, hqhigh⟩ := (q.covers_iff a).mp hqa
  exact h.eq_of_meets hp hq ((Span.meets_iff _ _ (h.size_pos hp) (h.size_pos hq)).mpr
    ⟨hpt.trans hqt.symm, a.drop.val, hplow, hphigh, hqlow, hqhigh⟩)

/-- At most one span of a sound map has a given trunk, base and size. -/
theorem ZoneMap.sound.isAt_iff {m : ZoneMap} (h : m.sound) {t : Trunk} {base size : Nat} {z : ZoneId} {q : Span}
    (hz : ⟨t, base, size, z⟩ ∈ m.spans) (hq : q ∈ m.spans) :
    q.isAt t base size = true ↔ q = ⟨t, base, size, z⟩ := by
  refine (q.isAt_iff t base size).trans ⟨fun heq => ?_, fun heq => by rw [heq]⟩
  have hpos : 0 < size := h.size_pos hz
  refine h.eq_of_meets hq hz ((Span.meets_iff _ _ (h.size_pos hq) hpos).mpr ?_)
  rw [heq]
  exact ⟨rfl, base, by dsimp only; omega⟩

/-- A search finds an entry where there is one. -/
theorem exists_find?_of_exists {α : Type} {p : α → Bool} {xs : List α} (h : ∃ x ∈ xs, p x = true) :
    ∃ y ∈ xs, p y = true ∧ xs.find? p = some y := by
  obtain ⟨y, hfind⟩ := Option.isSome_iff_exists.mp (List.find?_isSome.mpr h)
  exact ⟨y, List.mem_of_find?_eq_some hfind, List.find?_some hfind, hfind⟩

/-- The lookup of a sound map, without regard to the order of the spans (R59). -/
theorem ZoneMap.sound.lookup_iff {m : ZoneMap} (h : m.sound) (a : Addr) (z : ZoneId) : m.lookup a = some z ↔
    m.single a = some z ∨ (m.single a = none ∧ ∃ q ∈ m.spans, q.covers a = true ∧ q.zone = z) := by
  cases hsingle : m.single a with
  | some y => simp [ZoneMap.lookup_of_single hsingle]
  | none =>
    rw [ZoneMap.lookup_of_no_single hsingle, ZoneMap.spanOf, Option.map_eq_some_iff]
    simp only [reduceCtorEq, false_or, true_and]
    refine ⟨?_, ?_⟩
    · rintro ⟨q, hfind, hz⟩
      exact ⟨q, List.mem_of_find?_eq_some hfind, List.find?_some (p := fun p : Span => p.covers a) hfind, hz⟩
    · rintro ⟨q, hq, hcovers, hz⟩
      obtain ⟨p, hp, hpcovers, hfind⟩ := exists_find?_of_exists (p := fun p : Span => p.covers a) ⟨q, hq, hcovers⟩
      exact ⟨p, hfind, h.eq_of_covers hp hq hpcovers hcovers ▸ hz⟩

theorem ZoneMap.sound.spanAt_of_mem {m : ZoneMap} (h : m.sound) {t : Trunk} {base size : Nat} {z : ZoneId}
    (hz : ⟨t, base, size, z⟩ ∈ m.spans) : m.spanAt t base size = some ⟨t, base, size, z⟩ := by
  have hat := (h.isAt_iff hz hz).mpr rfl
  obtain ⟨p, hp, hpat, hfind⟩ := exists_find?_of_exists (p := fun q : Span => q.isAt t base size) ⟨_, hz, hat⟩
  exact hfind.trans (congrArg some ((h.isAt_iff hz hp).mp hpat))

theorem ZoneMap.spanAt_eq_none {m : ZoneMap} {t : Trunk} {base size : Nat}
    (h : ∀ z : ZoneId, ⟨t, base, size, z⟩ ∉ m.spans) : m.spanAt t base size = none :=
  List.find?_eq_none.mpr fun q hq hat => h q.zone ((q.isAt_iff t base size).mp hat ▸ hq)

/-- The spans stand in order, so the first that meets a range has the lowest base of those that do (R63 step 3, R69). -/
theorem ZoneMap.sound.find_meets_lowest {m : ZoneMap} (h : m.sound) {t : Trunk} {base size : Nat} {q : Span}
    (hfind : m.spans.find? (·.meets t base size) = some q) {r : Span} (hr : r ∈ m.spans)
    (hmeets : r.meets t base size = true) : q.base ≤ r.base := by
  obtain ⟨-, -, -, hordered⟩ := h
  obtain ⟨hq, before, after, hspans, hnot⟩ := List.find?_eq_some_iff_append.mp hfind
  have htrunk {p : Span} (hp : p.meets t base size = true) : p.trunk = t := by
    simp only [Span.meets, Bool.and_eq_true, decide_eq_true_eq] at hp
    obtain ⟨⟨ht, -⟩, -⟩ := hp
    exact ht
  rw [hspans] at hr hordered
  obtain hr | rfl | hr := List.mem_append.mp hr |>.imp_right List.mem_cons.mp
  · simpa [hmeets] using hnot r hr
  · exact le_refl _
  · obtain ⟨-, hafter, -⟩ := List.pairwise_append.mp hordered
    obtain ⟨hbefore, -⟩ := List.rel_of_pairwise_cons hafter hr
    simp only [Span.before, decide_eq_true_eq, htrunk hq, htrunk hmeets] at hbefore
    omega

theorem ZoneMap.sound.mem_rezoneSpan {m : ZoneMap} (h : m.sound) {t : Trunk} {base size : Nat} {old : ZoneId}
    (hold : ⟨t, base, size, old⟩ ∈ m.spans) (z : ZoneId) (q : Span) : q ∈ (m.rezoneSpan t base size z).spans ↔
      q = ⟨t, base, size, z⟩ ∨ (q ∈ m.spans ∧ q ≠ ⟨t, base, size, old⟩) := by
  rw [ZoneMap.rezoneSpan, List.mem_map]
  refine ⟨?_, ?_⟩
  · rintro ⟨p, hp, rfl⟩
    split
    · next hat =>
      rw [(h.isAt_iff hold hp).mp hat]
      exact .inl rfl
    · next hat => exact .inr ⟨hp, fun heq => hat ((h.isAt_iff hold hp).mpr heq)⟩
  · rintro (rfl | ⟨hq, hne⟩)
    · exact ⟨_, hold, by rw [if_pos ((h.isAt_iff hold hold).mpr rfl)]⟩
    · exact ⟨q, hq, if_neg fun hat => hne ((h.isAt_iff hold hq).mp hat)⟩

/-- The map without the span of a trunk, base and size (R65). -/
def ZoneMap.withoutSpan (m : ZoneMap) (t : Trunk) (base size : Nat) : ZoneMap :=
  { m with spans := m.spans.filter fun q => !q.isAt t base size }

theorem ZoneMap.sound.mem_withoutSpan {m : ZoneMap} (h : m.sound) {t : Trunk} {base size : Nat} {z : ZoneId}
    (hz : ⟨t, base, size, z⟩ ∈ m.spans) (q : Span) :
    q ∈ (m.withoutSpan t base size).spans ↔ q ∈ m.spans ∧ q ≠ ⟨t, base, size, z⟩ := by
  rw [ZoneMap.withoutSpan, List.mem_filter]
  refine and_congr_right fun hq => ?_
  rw [Bool.not_eq_true', ← Bool.not_eq_true, h.isAt_iff hz hq]

/-! ### Map Span and Unmap Span (R63, R65) -/

theorem mapSpanWork_eq (s : State) (t : Trunk) (base : Fin 32) (size : Fin 256) (z : ZoneId) :
    mapSpanWork [trunkCode t, byte base.val, byte size.val, byte z.val] s = s.mapSpan ⟨t, base.val, size.val, z⟩ := by
  have htrunk : fin? 2 (u8 [trunkCode t, byte base.val, byte size.val, byte z.val] 0) = some t := fin?_trunkCode t
  have hbase : fin? 32 (u8 [trunkCode t, byte base.val, byte size.val, byte z.val] 1) = some base :=
    fin?_byte (by decide) base
  have hsize : u8 [trunkCode t, byte base.val, byte size.val, byte z.val] 2 = size.val := byte_toNat size.isLt
  have hzone : fin? 24 (u8 [trunkCode t, byte base.val, byte size.val, byte z.val] 3) = some z :=
    fin?_byte (by decide) z
  rw [mapSpanWork, htrunk, hbase, hsize, hzone]

section
variable {s : State} {p : Span}

/-- The first check of Map Span (R63 step 1). -/
theorem State.mapSpan_badSpan (h : alignedSpan p.base p.size = false) : s.mapSpan p = (s, ⟨.badSpan, []⟩) := by
  rw [State.mapSpan, h]
  rfl

/-- The same span is given the new zone (R63 step 2). -/
theorem State.mapSpan_same {old : Span} (h : alignedSpan p.base p.size = true)
    (hat : s.map.spanAt p.trunk p.base p.size = some old) :
    s.mapSpan p = (s.changeMap (s.map.rezoneSpan p.trunk p.base p.size p.zone),
      mapSpanReply p (some old.zone) (s.map.rezoneSpan p.trunk p.base p.size p.zone)) := by
  rw [State.mapSpan, h, hat]
  rfl

/-- The first span that intersects the range refuses it (R63 step 3). -/
theorem State.mapSpan_overlap {q : Span} (h : alignedSpan p.base p.size = true)
    (hat : s.map.spanAt p.trunk p.base p.size = none)
    (hmeets : s.map.spans.find? (·.meets p.trunk p.base p.size) = some q) : s.mapSpan p = (s, ⟨.overlap, q.bytes⟩) := by
  rw [State.mapSpan, h, hat, hmeets]
  rfl

/-- A free range is a new span, if the table has room (R63 steps 4 and 5). -/
theorem State.mapSpan_free (h : alignedSpan p.base p.size = true)
    (hat : s.map.spanAt p.trunk p.base p.size = none)
    (hmeets : s.map.spans.find? (·.meets p.trunk p.base p.size) = none) :
    s.mapSpan p = if s.map.spans.length < 8 then
        (s.changeMap { s.map with spans := insertSpan p s.map.spans },
          mapSpanReply p none { s.map with spans := insertSpan p s.map.spans })
      else (s, ⟨.tableFull, []⟩) := by
  rw [State.mapSpan, h, hat, hmeets]
  rfl

end

/-- Unmap Span's work on a trunk and a base the part has (R65). -/
theorem unmapSpanWork_eq (s : State) (t : Trunk) (base : Fin 32) (size : Fin 256) :
    unmapSpanWork [trunkCode t, byte base.val, byte size.val] s =
      if alignedSpan base.val size.val = true then
        match s.map.spanAt t base.val size.val with
        | none => (s, ⟨.notFound, []⟩)
        | some q => (s.changeMap (s.map.withoutSpan t base.val size.val), ⟨.ok, q.bytes⟩)
      else (s, ⟨.badSpan, []⟩) := by
  have htrunk : fin? 2 (u8 [trunkCode t, byte base.val, byte size.val] 0) = some t := fin?_trunkCode t
  have hbase : fin? 32 (u8 [trunkCode t, byte base.val, byte size.val] 1) = some base := fin?_byte (by decide) base
  have hsize : u8 [trunkCode t, byte base.val, byte size.val] 2 = size.val := byte_toNat size.isLt
  rw [unmapSpanWork, htrunk, hbase, hsize]
  dsimp only
  cases alignedSpan base.val size.val <;> cases s.map.spanAt t base.val size.val <;> rfl

/-- The reply to a taken Map Span in the statements' spelling. -/
theorem mapSpanReply_eq (t : Trunk) (base size : Nat) (z : ZoneId) (previous : Option ZoneId) (new : ZoneMap) :
    mapSpanReply ⟨t, base, size, z⟩ previous new = ⟨.ok, [trunkCode t, byte base, byte size, byte z.val] ++
      [(match previous with | some y => byte y.val | none => 0xFF), byte new.spans.length]⟩ := by
  rw [mapSpanReply, optCode_zone]
  rfl

/-- Map Span where its execution begins: what `State.mapSpan` makes of the span is answered (R63). -/
theorem mapSpan_answered {s s0 u : State} {tag : Byte} {t : Trunk} {base : Fin 32} {size : Fin 256} {z : ZoneId}
    {status : Status} {body : List Byte}
    (hb : s.begins ⟨0x21, tag, [trunkCode t, byte base.val, byte size.val, byte z.val]⟩ s0)
    (hw : s0.mapSpan ⟨t, base.val, size.val, z⟩ = (u, ⟨status, body⟩))
    (hu : u.port.executing = s0.port.executing) :
    exec (.mapSpan tag [trunkCode t, byte base.val, byte size.val, byte z.val]) s =
      .next (u.answered (replyTo 0x21 tag status body)) :=
  runRequest_answered (v := mapSpanService) (by decide) hb rfl ((mapSpanWork_eq s0 t base size z).trans hw) hu

/-- Settles O31: what spans cover and where they meet, and the checks of both requests in their order; each map that a
request leaves is sound by `ZoneMap.sound.changed`. -/
theorem mapAndUnmapSpan : Obligations.MapAndUnmapSpan := by
  refine ⟨Span.covers_iff, fun q t base size => Span.meets_iff t base, fun m a z h => h.lookup_iff a z,
    fun s s0 tag t base size z p hp hb hs => ?mapSpan, fun s s0 tag t base size p hp hb hs => ?unmapSpan⟩
  case mapSpan =>
    subst hp
    rw [← alignedSpan_iff]
    refine ⟨fun hbad => ?_, fun hsize hdvd => ?_⟩
    · exact mapSpan_answered hb (State.mapSpan_badSpan (Bool.eq_false_iff.mpr hbad)) rfl
    have haligned := (alignedSpan_iff base.val size.val).mpr ⟨hsize, hdvd⟩
    refine ⟨fun old hold => ?_, fun hnew => ?_⟩
    · refine ⟨s0.map.rezoneSpan t base.val size.val z, rfl, hs.changed (.rezone ..), hs.mem_rezoneSpan hold z, ?_⟩
      refine mapSpan_answered hb ?_ (State.changeMap_executing ..)
      rw [State.mapSpan_same haligned (hs.spanAt_of_mem hold), mapSpanReply_eq, ZoneMap.rezoneSpan, List.length_map]
    have hat := ZoneMap.spanAt_eq_none hnew
    refine ⟨fun hmeets => ?_, fun hfree => ?_⟩
    · obtain ⟨q, hq, hqmeets, hfind⟩ := exists_find?_of_exists hmeets
      exact ⟨q, hq, hqmeets, fun r hr => hs.find_meets_lowest hfind hr,
        mapSpan_answered hb (State.mapSpan_overlap haligned hat hfind) rfl⟩
    have hwork := State.mapSpan_free (p := ⟨t, base.val, size.val, z⟩) haligned hat
      (List.find?_eq_none.mpr fun q hq => by simp [hfree q hq])
    refine ⟨fun hfull => ?_, fun hroom => ?_⟩
    · exact mapSpan_answered hb (hwork.trans (if_neg (by omega))) rfl
    · refine ⟨{ s0.map with spans := insertSpan ⟨t, base.val, size.val, z⟩ s0.map.spans }, rfl,
        hs.changed (.span _ base.isLt haligned hfree hroom), fun q => mem_insertSpan, ?_⟩
      refine mapSpan_answered hb ((hwork.trans (if_pos hroom)).trans ?_) (State.changeMap_executing ..)
      rw [mapSpanReply_eq, length_insertSpan]
  case unmapSpan =>
    subst hp
    rw [← alignedSpan_iff]
    have hwork := unmapSpanWork_eq s0 t base size
    refine ⟨fun hbad => ?_, fun hsize hdvd => ?_⟩
    · exact runRequest_answered (v := unmapSpanService) (by decide) hb rfl (hwork.trans (if_neg hbad)) rfl
    rw [if_pos ((alignedSpan_iff base.val size.val).mpr ⟨hsize, hdvd⟩)] at hwork
    refine ⟨fun hnone => ?_, fun z hz => ?_⟩
    · rw [ZoneMap.spanAt_eq_none hnone] at hwork
      exact runRequest_answered (v := unmapSpanService) (by decide) hb rfl hwork rfl
    · rw [hs.spanAt_of_mem hz] at hwork
      exact ⟨s0.map.withoutSpan t base.val size.val, rfl, hs.changed (.unspan _), hs.mem_withoutSpan hz,
        runRequest_answered (v := unmapSpanService) (by decide) hb rfl hwork (State.changeMap_executing ..)⟩

end Sys2Proof.Machine
end

section
/-! Dew-Point Arithmetic (R72 to R86): the two interpolations over the table, segment by segment, and what follows from
them for every dew point; the filter step; the per-zone duty. -/

namespace Sys2Proof.Machine

open Sys2Proof

/-! ### The table (R72) -/

/-- The width of a segment in decipascals, which is more than its width in centidegrees (R72). -/
theorem satDeci_succ : ∀ i < 14, satDeci i + 660 ≤ satDeci (i + 1) := by decide

theorem satDeci_mono {i j : Nat} (h : i ≤ j) (hj : j ≤ 14) : satDeci i ≤ satDeci j := by
  induction j, h using Nat.le_induction with
  | base => exact le_refl _
  | succ j _ ih =>
    have := ih (by omega)
    have := satDeci_succ j (by omega)
    omega

/-! ### The straight line of a segment -/

/-- The rise along a segment D wide, f of its 500 centidegrees in (R75). -/
theorem rise_bounds {D f : Int} (hD : 0 ≤ D) (hf : 0 ≤ f) (hf' : f ≤ 500) : 0 ≤ D * f / 500 ∧ D * f / 500 ≤ D :=
  ⟨Int.ediv_nonneg (Int.mul_nonneg hD hf) (by decide),
    Int.ediv_le_of_le_mul (by decide) (Int.mul_le_mul_of_nonneg_left hf' hD)⟩

theorem rise_mono {D f f' : Int} (hD : 0 ≤ D) (h : f ≤ f') : D * f / 500 ≤ D * f' / 500 :=
  Int.ediv_le_ediv (by decide) (Int.mul_le_mul_of_nonneg_left h hD)

theorem rise_lt {D f : Int} (hD : 0 < D) (hf : f < 500) : D * f / 500 < D :=
  Int.ediv_lt_of_lt_mul (by decide) (Int.mul_lt_mul_of_pos_left hf hD)

/-- Back along the segment from the floored rise: where 500 is a divisor of the rise it is the f set out from, and else
it may be one below (R78). -/
theorem fall_rise {D f : Int} (hD : 500 ≤ D) :
    f - 1 ≤ 500 * (D * f / 500) / D ∧ 500 * (D * f / 500) / D ≤ f
      ∧ ((500 : Int) ∣ D * f → 500 * (D * f / 500) / D = f) := by
  have hfloor := Int.mul_ediv_add_emod (D * f) 500
  have hrest := Int.emod_lt_of_pos (D * f) (show (0 : Int) < 500 by decide)
  refine ⟨Int.le_ediv_of_mul_le (by omega) ?_, ?_, fun hdvd => ?_⟩
  · rw [Int.sub_mul, Int.one_mul, Int.mul_comm f D]
    omega
  · exact Int.ediv_le_of_le_mul (by omega) (by rw [Int.mul_comm f D]; omega)
  · rw [Int.mul_ediv_cancel' hdvd]
    exact Int.mul_ediv_cancel_left f (by omega)

/-! ### Stages 1 and 2: the saturation pressure (R74, R75) -/

theorem dewTc_eq (t : Int) : dewTc t = max (-2000) (min 5000 t) := clamp_eq (by decide) t

/-- Every clamped temperature stands on a segment, at the end of the last one alone. -/
theorem exists_segment {tc : Int} (hlow : -2000 ≤ tc) (hhigh : tc ≤ 5000) :
    ∃ i f : Nat, i < 14 ∧ (f < 500 ∨ i = 13 ∧ f = 500) ∧ tc = -2000 + 500 * i + f := by
  refine ⟨dewSegment tc, (tc + 2000 - 500 * dewSegment tc).toNat, ?_⟩
  unfold dewSegment
  omega

theorem dewSegment_eq {i f : Nat} (hi : i < 14) (hf : f < 500 ∨ i = 13 ∧ f = 500) :
    dewSegment (-2000 + 500 * i + f) = i := by
  unfold dewSegment
  omega

/-- The saturation pressure along a segment, from either segment at a point of the table (R75). -/
theorem dewEsd_segment {i f : Nat} (hi : i < 14) (hf : f ≤ 500) :
    dewEsd (-2000 + 500 * i + f) = satDeci i + (satDeci (i + 1) - satDeci i) * f / 500 := by
  have hwithin {i f : Nat} (hi : i < 14) (hf : f < 500 ∨ i = 13 ∧ f = 500) :
      dewEsd (-2000 + 500 * i + f) = satDeci i + (satDeci (i + 1) - satDeci i) * f / 500 := by
    rw [dewEsd, dewSegment_eq hi hf]
    congr 3
    omega
  by_cases hend : f = 500 ∧ i ≠ 13
  · obtain ⟨rfl, hne⟩ := hend
    have hnext : (-2000 + 500 * (i : Int) + (500 : Nat)) = -2000 + 500 * (i + 1 : Nat) + (0 : Nat) := by omega
    rw [hnext, hwithin (by omega) (.inl (by decide))]
    have hwhole := Int.mul_ediv_cancel (satDeci (i + 1) - satDeci i) (show (500 : Int) ≠ 0 by decide)
    simp only [Nat.cast_ofNat, Nat.cast_zero, Int.mul_zero, Int.zero_ediv, Int.add_zero, hwhole]
    omega
  · exact hwithin hi (by omega)

theorem dewEsd_mono {tc tc' : Int} (hlow : -2000 ≤ tc) (h : tc ≤ tc') (hhigh : tc' ≤ 5000) :
    dewEsd tc ≤ dewEsd tc' := by
  obtain ⟨i, f, hi, hf, rfl⟩ := exists_segment hlow (by omega)
  obtain ⟨j, g, hj, hg, rfl⟩ := exists_segment (tc := tc') (by omega) hhigh
  rw [dewEsd_segment hi (by omega), dewEsd_segment hj (by omega)]
  have hDi := satDeci_succ i hi
  have hDj := satDeci_succ j hj
  obtain rfl | hlt := Nat.eq_or_lt_of_le (show i ≤ j by omega)
  · have := rise_mono (D := satDeci (i + 1) - satDeci i) (by omega) (show (f : Int) ≤ g by omega)
    omega
  · have := (rise_bounds (D := satDeci (i + 1) - satDeci i) (f := f) (by omega) (by omega) (by omega)).2
    have := (rise_bounds (D := satDeci (j + 1) - satDeci j) (f := g) (by omega) (by omega) (by omega)).1
    have := satDeci_mono (show i + 1 ≤ j from hlt) (by omega)
    omega

/-! ### Stage 4: the dew point of a vapour pressure (R77) -/

/-- The segment of a pressure is the only one that holds it. -/
theorem dewIndex_eq {ed : Int} {j : Nat} (hj : j < 14) (hle : satDeci j ≤ ed) (hlt : ed < satDeci (j + 1)) :
    1260 ≤ ed ∧ ed < 123450 ∧ dewIndex ed = j := by
  have hlow : satDeci 0 ≤ satDeci j := satDeci_mono (Nat.zero_le j) (by omega)
  have hhigh : satDeci (j + 1) ≤ satDeci 14 := satDeci_mono (by omega) (by decide)
  have hends : satDeci 0 = 1260 ∧ satDeci 14 = 123450 := by decide
  obtain ⟨hi, hle', hlt'⟩ := dewIndex_segment (ed := ed) (by omega) (by omega)
  refine ⟨by omega, by omega, ?_⟩
  obtain hbelow | heq | habove := Nat.lt_trichotomy (dewIndex ed) j
  · have := satDeci_mono (show dewIndex ed + 1 ≤ j from hbelow) (by omega)
    omega
  · exact heq
  · have := satDeci_mono (show j + 1 ≤ dewIndex ed from habove) (by omega)
    omega

/-- The dew point along a segment (R77). -/
theorem dewTd_segment {ed : Int} {j : Nat} (hj : j < 14) (hle : satDeci j ≤ ed) (hlt : ed < satDeci (j + 1)) :
    dewTd ed = -2000 + 500 * j + 500 * (ed - satDeci j) / (satDeci (j + 1) - satDeci j) := by
  obtain ⟨hlow, hhigh, hindex⟩ := dewIndex_eq hj hle hlt
  rw [dewTd, if_neg (by omega), if_neg (by omega), hindex]

theorem dewTd_of_low {ed : Int} (h : ed < 1260) : dewTd ed = -2000 := if_pos h

theorem dewTd_of_high {ed : Int} (h : 123450 ≤ ed) : dewTd ed = 5000 := by
  rw [dewTd, if_neg (by omega), if_pos h]

/-- The share of a segment that a pressure in it takes (R77). -/
theorem share_bounds {lo hi ed : Int} (hle : lo ≤ ed) (hlt : ed < hi) :
    0 ≤ 500 * (ed - lo) / (hi - lo) ∧ 500 * (ed - lo) / (hi - lo) < 500 :=
  ⟨Int.ediv_nonneg (by omega) (by omega), Int.ediv_lt_of_lt_mul (by omega) (by omega)⟩

theorem dewTd_mono {ed ed' : Int} (h : ed ≤ ed') : dewTd ed ≤ dewTd ed' := by
  obtain hlow | hlow := lt_or_ge ed 1260
  · rw [dewTd_of_low hlow]
    exact (dewTd_inRange ed').1
  obtain hhigh | hhigh := lt_or_ge ed' 123450
  · obtain ⟨hi, hle, hlt⟩ := dewIndex_segment hlow (by omega)
    obtain ⟨hj, hle', hlt'⟩ := dewIndex_segment (ed := ed') (by omega) hhigh
    rw [dewTd_segment (by omega) hle hlt, dewTd_segment (by omega) hle' hlt']
    generalize dewIndex ed = i at *
    generalize dewIndex ed' = j at *
    obtain hlt'' | rfl | hgt := Nat.lt_trichotomy i j
    · have := share_bounds hle hlt
      have := share_bounds hle' hlt'
      omega
    · have : 500 * (ed - satDeci i) / (satDeci (i + 1) - satDeci i) ≤
          500 * (ed' - satDeci i) / (satDeci (i + 1) - satDeci i) := Int.ediv_le_ediv (by omega) (by omega)
      omega
    · have := satDeci_mono (show j + 1 ≤ i from hgt) (by omega)
      omega
  · rw [dewTd_of_high hhigh]
    exact (dewTd_inRange ed).2

/-- At saturation stage 4 runs stage 2 backwards: it comes back to Tc where the interpolation is exact, and else to at
most one below (R78). -/
theorem dewTd_dewEsd {i f : Nat} (hi : i < 14) (hf : f ≤ 500) :
    -2000 + 500 * i + f - 1 ≤ dewTd (dewEsd (-2000 + 500 * i + f))
      ∧ dewTd (dewEsd (-2000 + 500 * i + f)) ≤ -2000 + 500 * i + f
      ∧ ((500 : Int) ∣ (satDeci (i + 1) - satDeci i) * f →
          dewTd (dewEsd (-2000 + 500 * i + f)) = -2000 + 500 * i + f) := by
  rw [dewEsd_segment hi hf]
  have hD := satDeci_succ i hi
  obtain hlt | rfl := Nat.lt_or_eq_of_le hf
  · obtain ⟨hback, hback', hexact⟩ := fall_rise (D := satDeci (i + 1) - satDeci i) (f := f) (by omega)
    have hrise := rise_bounds (D := satDeci (i + 1) - satDeci i) (f := f) (by omega) (by omega) (by omega)
    have hrise' := rise_lt (D := satDeci (i + 1) - satDeci i) (f := f) (by omega) (by omega)
    rw [dewTd_segment hi (by omega) (by omega), add_sub_cancel_left]
    exact ⟨by omega, by omega, fun hdvd => by rw [hexact hdvd]⟩
  · have hwhole := Int.mul_ediv_cancel (satDeci (i + 1) - satDeci i) (show (500 : Int) ≠ 0 by decide)
    have hpoint : dewTd (satDeci (i + 1)) = -2000 + 500 * i + 500 := by
      obtain rfl | hne := Decidable.eq_or_ne i 13
      · exact dewTd_of_high (by decide)
      · rw [dewTd_segment (j := i + 1) (by omega) (le_refl _) (by have := satDeci_succ (i + 1) (by omega); omega)]
        simp
        omega
    rw [Nat.cast_ofNat, hwhole, add_sub_cancel, hpoint]
    exact ⟨by omega, le_refl _, fun _ => rfl⟩

/-! ### Every dew point (R73 to R78) -/

theorem dewEd_mono {esd esd' : Int} {rh rh' : Nat} (hesd : 0 ≤ esd) (h : esd ≤ esd') (hrh : rh ≤ rh') :
    dewEd esd rh ≤ dewEd esd' rh' :=
  Int.ediv_le_ediv (by decide) (Int.mul_le_mul h (by omega) (by omega) (by omega))

theorem dewEd_saturated (esd : Int) : dewEd esd 10000 = esd := Int.mul_ediv_cancel esd (by decide)

theorem dewEsd_nonneg {tc : Int} (hlow : -2000 ≤ tc) (hhigh : tc ≤ 5000) : 0 ≤ dewEsd tc := by
  have := dewEsd_mono (le_refl (-2000)) hlow hhigh
  have : dewEsd (-2000) = 1260 := by decide
  omega

/-- The dew point never falls as T' or RH' rises (R78). -/
theorem dewPoint_td_mono {t t' : Int} {rh rh' : Nat} (ht : t ≤ t') (hrh : rh ≤ rh') :
    (dewPoint t rh).td ≤ (dewPoint t' rh').td := by
  have hle : dewTc t ≤ dewTc t' := by rw [dewTc_eq, dewTc_eq]; omega
  have hlow : -2000 ≤ dewTc t := by rw [dewTc_eq]; omega
  have hhigh : dewTc t' ≤ 5000 := by rw [dewTc_eq]; omega
  exact dewTd_mono (dewEd_mono (dewEsd_nonneg hlow (by omega)) (dewEsd_mono hlow hle hhigh) hrh)

/-- At saturation the dew point is that of the saturation pressure (R78). -/
theorem dewPoint_td_saturated (t : Int) : (dewPoint t 10000).td = dewTd (dewEsd (dewTc t)) :=
  congrArg dewTd (dewEd_saturated _)

/-- At saturation the dew point is Tc or one below (R78). -/
theorem dewPoint_td_saturated_bounds (t : Int) :
    dewTc t - 1 ≤ (dewPoint t 10000).td ∧ (dewPoint t 10000).td ≤ dewTc t := by
  obtain ⟨i, f, hi, hf, htc⟩ := exists_segment (tc := dewTc t) (by rw [dewTc_eq]; omega) (by rw [dewTc_eq]; omega)
  rw [dewPoint_td_saturated, htc]
  obtain ⟨hlow, hhigh, -⟩ := dewTd_dewEsd hi (f := f) (by omega)
  exact ⟨hlow, hhigh⟩

/-- The width of a segment as the table gives it (R72, R75). -/
theorem satDeci_width (i : Nat) :
    10 * (saturationTable.getD (i + 1) 0 - saturationTable.getD i 0) = satDeci (i + 1) - satDeci i := Int.mul_sub ..

/-- Settles O49: the four stages segment by segment; the bounds from those at saturation, by monotony. -/
theorem dewPointBounds : Obligations.DewPointBounds := by
  refine ⟨?stages, ⟨-1999, by decide, by decide, by decide⟩, fun t rh _ _ hrh => ?bounds⟩
  case stages =>
    intro t rh tc esd ed E i f j _ hE htc hi hf hsum hesd hed
    obtain rfl : E = saturationTable := hE
    have hstages : ed = dewEd (dewEsd (dewTc t)) rh := by
      rw [dewTc_eq, ← htc, hsum, dewEsd_segment hi hf, ← satDeci_width, hed, hesd]
      rfl
    have htd : (dewPoint t rh).td = dewTd ed := congrArg dewTd hstages.symm
    rw [htd]
    refine ⟨?_, ?_, dewTd_of_low, dewTd_of_high, dewTd_segment⟩
    · show decide (dewTc t ≠ t) = true ↔ _
      rw [decide_eq_true_eq, dewTc_eq]
      omega
    · rw [hstages]
      exact decide_eq_true_iff
  case bounds =>
    have hsat := dewPoint_td_saturated_bounds t
    have hbelow := dewPoint_td_mono (le_refl t) hrh
    rw [← dewTc_eq]
    refine ⟨(dewTd_inRange _).1, (dewTd_inRange _).2, hbelow.trans hsat.2, fun h => h ▸ hsat.1, ?exact,
      fun rh' h _ => dewPoint_td_mono (le_refl t) h, fun t' h _ => dewPoint_td_mono h (le_refl rh)⟩
    intro E i f hfull hE hi hf htc hdvd
    obtain rfl : E = saturationTable := hE
    rw [hfull, dewPoint_td_saturated, htc]
    exact (dewTd_dewEsd hi hf).2.2 hdvd

/-! ### The filter step (R81, R83) -/

/-- A filter step down takes the floored share of the difference away, as a step up adds it (R81). -/
theorem filterStep_of_ge (k : Nat) {df td : Int} (h : td ≤ df) :
    filterStep k (some df) td = df - (df - td) / 2 ^ k := by
  rw [filterStep, ← Int.neg_sub df td, Int.neg_tdiv, Int.tdiv_eq_ediv_of_nonneg (by omega)]
  omega

theorem filterStep_of_le (k : Nat) {df td : Int} (h : df ≤ td) :
    filterStep k (some df) td = df + (td - df) / 2 ^ k := by
  rw [filterStep, Int.tdiv_eq_ediv_of_nonneg (by omega)]

/-- Settles O50: a step up and a step down by their floored shares, the rest by `filterStep_between`. -/
theorem filterStepBetween : Obligations.FilterStepBetween := by
  intro k df td
  obtain ⟨hmin, hmax⟩ := filterStep_between k df td
  refine ⟨rfl, filterStep_of_ge k, filterStep_of_le k, hmin, hmax, ?whole, fun hup hdown => ?stands,
    fun hlow hhigh htd htd' => filterStep_inRange k (fun d hd => by cases hd; exact ⟨hlow, hhigh⟩) ⟨htd, htd'⟩⟩
  case whole =>
    rintro (rfl | rfl)
    · simp [filterStep]
    · omega
  case stands =>
    obtain hle | hge := Int.le_total df td
    · rw [filterStep_of_le k hle, Int.ediv_eq_zero_of_lt (by omega) hup, Int.add_zero]
    · rw [filterStep_of_ge k hge, Int.ediv_eq_zero_of_lt (by omega) hdown, Int.sub_zero]

/-! ### The per-zone duty (R85, R86) -/

theorem zoneDuty_of_ge {w a m : Int} (h : w ≤ m) : zoneDuty w a m = 0 := if_pos h

theorem zoneDuty_of_le {w a m : Int} (haw : a < w) (h : m ≤ a) : zoneDuty w a m = 255 := by
  rw [zoneDuty, if_neg (by omega), if_pos h]

/-- Between A and W the duty is the floored share of 255, which it does not reach (R85, R86). -/
theorem zoneDuty_between {w a m : Int} (ha : a < m) (hw : m < w) :
    (zoneDuty w a m : Int) = 255 * (w - m) / (w - a) ∧ zoneDuty w a m ≤ 254 := by
  have hnonneg : 0 ≤ 255 * (w - m) / (w - a) := Int.ediv_nonneg (by omega) (by omega)
  have hbelow : 255 * (w - m) / (w - a) < 255 := Int.ediv_lt_of_lt_mul (by omega) (by omega)
  have hduty : (zoneDuty w a m : Int) = 255 * (w - m) / (w - a) := by
    rw [zoneDuty, if_neg (by omega), if_neg (by omega), Int.toNat_of_nonneg hnonneg]
  exact ⟨hduty, by omega⟩

theorem zoneDuty_le_255 {w a : Int} (haw : a < w) (m : Int) : zoneDuty w a m ≤ 255 := by
  obtain hm | hm := le_or_gt w m
  · simp [zoneDuty_of_ge hm]
  · obtain hm' | hm' := le_or_gt m a
    · exact (zoneDuty_of_le haw hm').le
    · exact (zoneDuty_between hm' hm).2.trans (by decide)

/-- Just below W the share of 255 can still be nothing (R86). -/
theorem zoneDuty_eq_zero {w a m : Int} (hm : m < w) (h : 255 * (w - m) < w - a) : zoneDuty w a m = 0 := by
  have hshare := (zoneDuty_between (a := a) (by omega) hm).1
  rw [Int.ediv_eq_zero_of_lt (by omega) h] at hshare
  exact_mod_cast hshare

theorem zoneDuty_antitone {w a : Int} (haw : a < w) {m m' : Int} (h : m ≤ m') : zoneDuty w a m' ≤ zoneDuty w a m := by
  obtain hw | hw := le_or_gt w m'
  · simp [zoneDuty_of_ge hw]
  obtain ha | ha := le_or_gt m a
  · rw [zoneDuty_of_le haw ha]
    exact zoneDuty_le_255 haw m'
  · have hle : 255 * (w - m') / (w - a) ≤ 255 * (w - m) / (w - a) := Int.ediv_le_ediv (by omega) (by omega)
    rw [← (zoneDuty_between ha (by omega)).1, ← (zoneDuty_between (by omega) hw).1] at hle
    exact_mod_cast hle

/-- Settles O51: each case of R85 by its equation; 255 is reached at or below A alone, since the share stays below. -/
theorem dutyFallsWithMargin : Obligations.DutyFallsWithMargin := by
  intro w a m haw
  refine ⟨zoneDuty_of_ge, zoneDuty_of_le haw, zoneDuty_between, zoneDuty_le_255 haw m,
    ⟨fun h => ?_, zoneDuty_of_le haw⟩, zoneDuty_eq_zero, fun hfar => zoneDuty_eq_zero (by omega) (by omega),
    fun m' => zoneDuty_antitone haw⟩
  by_contra hm
  obtain hw | hw := le_or_gt w m
  · simp [zoneDuty_of_ge hw] at h
  · have := (zoneDuty_between (a := a) (by omega) hw).2
    omega

end Sys2Proof.Machine
end

section
/-! What a step can do to the zone records and the zones in store: most operations evaluate some enabled zones and no
more (`State.reevaluates`), and a predicate of single records that an evaluation and the few others keep is kept by
every step (`KeptByZones.blocks`). -/

namespace Sys2Proof.Machine

open Sys2Proof

/-! ### Operations that evaluate zones and no more -/

/-- t has the zone records of s and the zones in store. -/
structure State.keepsZones (s t : State) : Prop where
  zones  : t.zones = s.zones
  stored : t.store.contents.zones = s.store.contents.zones

theorem State.keepsZones.refl (s : State) : s.keepsZones s := ⟨rfl, rfl⟩

theorem State.keepsZones.trans {s t v : State} (h : s.keepsZones t) (h' : t.keepsZones v) : s.keepsZones v :=
  ⟨h'.zones.trans h.zones, h'.stored.trans h.stored⟩

theorem State.keepsZones.zone {s t : State} (h : s.keepsZones t) (z : ZoneId) : t.zone z = s.zone z := by
  rw [State.zone, h.zones]
  rfl

theorem State.trunksOnly.keepsZones {s t : State} (h : s.trunksOnly t) : s.keepsZones t := by
  obtain ⟨es, ks, p, rfl⟩ := h
  exact ⟨rfl, rfl⟩

theorem State.handedOn.keepsZones {s t : State} (h : s.handedOn t) : s.keepsZones t :=
  ⟨h.zones, by rw [h.keeps.store]⟩

/-- Each zone of t is as in s, or it is enabled and has been evaluated on the probe records of t; the zones in store are
those of s (R93). -/
structure State.reevaluates (s t : State) : Prop where
  stored : t.store.contents.zones = s.store.contents.zones
  zone   : ∀ z, t.zone z = s.zone z ∨ (s.zone z).enabled = true ∧
    ∃ u : State, u.zone z = s.zone z ∧ u.probes = t.probes ∧ t.zone z = u.zoneEvaluated z .ordinary

theorem State.keepsZones.reevaluates {s t : State} (h : s.keepsZones t) : s.reevaluates t :=
  ⟨h.stored, fun z => .inl (h.zone z)⟩

theorem State.reevaluates.refl (s : State) : s.reevaluates s := (State.keepsZones.refl s).reevaluates

theorem State.reevaluates.then_keeps {s t v : State} (h : s.reevaluates t) (hv : t.keepsZones v)
    (hp : v.probes = t.probes) : s.reevaluates v :=
  ⟨hv.stored.trans h.stored, fun z => by rw [hv.zone, hp]; exact h.zone z⟩

theorem State.keepsZones.evaluateAll {s u : State} (h : s.keepsZones u) {zs : List ZoneId} (hn : zs.Nodup) :
    s.reevaluates (u.evaluateAll zs) where
  stored := by rw [(u.evaluateAll_keeps zs).store, h.stored]
  zone z := by
    rw [State.zone_evaluateAll hn, h.zone]
    split
    · next hz => exact .inr ⟨hz.2, u, h.zone z, (u.evaluateAll_keeps zs).probes.symm, rfl⟩
    · exact .inl rfl

theorem State.keepsZones.evaluateAt {s u : State} (h : s.keepsZones u) (a : Addr) :
    s.reevaluates (u.evaluateAt a) where
  stored := by rw [(u.evaluateAt_keeps a).store, h.stored]
  zone z := by
    rw [State.zone_evaluateAt, h.zone]
    split
    · next hz => exact .inr ⟨hz.2, u, h.zone z, (u.evaluateAt_keeps a).probes.symm, rfl⟩
    · exact .inl rfl

theorem State.setProbe_keepsZones (s : State) (a : Addr) (p : ProbeRecord) : s.keepsZones (s.setProbe a p) :=
  ⟨rfl, rfl⟩

theorem State.setLeak_keepsZones (s : State) (l : LeakUnit) : s.keepsZones (s.setLeak l) := ⟨rfl, rfl⟩

theorem State.handToProbe_reevaluates (s : State) (a : Addr) (res : AttemptResult) (o : ProbeOutcome) :
    s.reevaluates (s.handToProbe a res o) := by
  have hwritten (p : ProbeRecord) (raises : Bool) : s.reevaluates ((s.writeProbe a p raises).evaluateAt a) :=
    ((s.setProbe_keepsZones a p).trans (s.writeProbe_trunksOnly a p raises).keepsZones).evaluateAt a
  unfold State.handToProbe State.applyOutcome
  simp only [State.failProbe_eq, State.storeReading_eq]
  split
  · cases o with
    | good => dsimp only; split; exacts [hwritten .., .refl s]
    | tainted => dsimp only; split; exacts [hwritten .., .refl s]
    | noAnswer => exact hwritten ..
    | badCheck => exact hwritten ..
    | kindMismatch => exact hwritten ..
    | notReady => exact .refl s
    | notReadyLimit => exact .refl s
    | trunkHalted => exact .refl s
  · exact .refl s

theorem State.expireAge_reevaluates (s : State) (a : Addr) : s.reevaluates (s.expireAge a) := by
  unfold State.expireAge
  split
  exacts [(s.setProbe_keepsZones ..).evaluateAt a, .refl s]

theorem State.changeMap_reevaluates (s : State) (m : ZoneMap) : s.reevaluates (s.changeMap m) :=
  State.keepsZones.evaluateAll (s := s) (u := s.setMap m) ⟨rfl, rfl⟩ ((List.nodup_finRange 24).filter _)

theorem State.changeMaxAge_reevaluates (s : State) (age : Nat) : s.reevaluates (s.changeMaxAge age) :=
  State.keepsZones.evaluateAll (s := s) (u := s.rejudgedUnder age) ⟨rfl, rfl⟩ (s.nodup_zonesOf _)

theorem State.changeChannel_reevaluates (s : State) (c : ChannelId) (r : Channel) :
    s.reevaluates (s.changeChannel c r) := by
  have hset : s.keepsZones (s.setChannel c r) := ⟨rfl, rfl⟩
  have hraise : s.keepsZones ((s.setChannel c r).raiseLeak c (s.channel c).state r.state) := by
    unfold State.raiseLeak
    split
    exacts [hset.trans (State.raise_trunksOnly ..).keepsZones, hset]
  have hcount : s.keepsZones
      (((s.setChannel c r).raiseLeak c (s.channel c).state r.state).countWetChange (s.channel c).state r.state) :=
    hraise.trans (State.setLeak_keepsZones _ _)
  unfold State.changeChannel
  dsimp only
  split
  · exact hset.reevaluates
  · split
    exacts [hcount.evaluateAll ((List.nodup_finRange 24).filter _), hcount.reevaluates]

theorem State.reevaluates.of_keeps {s t v : State} (h : s.keepsZones t) (h' : t.reevaluates v) : s.reevaluates v :=
  ⟨h'.stored.trans h.stored, fun z => h.zone z ▸ h'.zone z⟩

theorem State.resetChannel_reevaluates (s : State) (c : ChannelId) (r : Channel) :
    s.reevaluates (s.resetChannel c r) := by
  refine .of_keeps ?_ (State.changeChannel_reevaluates _ c r)
  unfold State.discardGate
  split
  exacts [s.setLeak_keepsZones _, .refl s]

theorem State.closeGate_reevaluates (s : State) (cycles : Nat) : s.reevaluates (s.closeGate cycles) := by
  unfold State.closeGate
  split
  · exact .refl s
  · refine .then_keeps ?_ (State.setLeak_keepsZones _ _) rfl
    split
    exacts [.refl s, s.changeChannel_reevaluates ..]

theorem State.keepDone_keepsZones (s : State) (agrees : Bool) : s.keepsZones (s.keepDone agrees) := by
  unfold State.keepDone State.endKeep
  split
  · cases agrees <;> exact ⟨rfl, rfl⟩
  · exact .refl s
  · exact .refl s

/-! ### The requests that evaluate zones and no more -/

/-- The requests whose work sets a zone up or turns it on or off (R89 to R92). -/
def zoneServices : List Service := [zoneSetupService, zoneOnService, zoneOffService]

theorem noticeMaskWork_reevaluates (p : List Byte) (s : State) : s.reevaluates (noticeMaskWork p s).1 := by
  unfold noticeMaskWork
  split <;> exact State.keepsZones.reevaluates ⟨rfl, rfl⟩

theorem trunkRestartWork_reevaluates (p : List Byte) (s : State) : s.reevaluates (trunkRestartWork p s).1 := by
  unfold trunkRestartWork
  repeat' split
  exacts [.refl s, ((s.setEngine_trunksOnly ..).trans (State.raise_trunksOnly ..)).keepsZones.reevaluates, .refl s]

theorem trunkSetupWork_reevaluates (p : List Byte) (s : State) : s.reevaluates (trunkSetupWork p s).1 := by
  unfold trunkSetupWork
  split <;> exact State.keepsZones.reevaluates ⟨rfl, rfl⟩

theorem surveyCancelWork_reevaluates (p : List Byte) (s : State) : s.reevaluates (surveyCancelWork p s).1 := by
  unfold surveyCancelWork
  repeat' split
  all_goals exact State.keepsZones.reevaluates ⟨rfl, rfl⟩

theorem lineSetupWork_reevaluates (p : List Byte) (s : State) : s.reevaluates (lineSetupWork p s).1 := by
  unfold lineSetupWork
  split <;> exact State.keepsZones.reevaluates ⟨rfl, rfl⟩

theorem lineReleaseWork_reevaluates (p : List Byte) (s : State) : s.reevaluates (lineReleaseWork p s).1 := by
  unfold lineReleaseWork
  repeat' split
  all_goals exact State.keepsZones.reevaluates ⟨rfl, rfl⟩

theorem eventAckWork_reevaluates (p : List Byte) (s : State) : s.reevaluates (eventAckWork p s).1 := by
  have hevents {t : State} (h : s.eventsOnly t) : s.reevaluates t := h.handedOn.keepsZones.reevaluates
  unfold eventAckWork
  repeat' split
  exacts [.refl s, .refl s, hevents (s.setRecord_eventsOnly ..), .refl s, hevents (s.removeRecord_eventsOnly ..)]

theorem defineProbeWork_reevaluates (p : List Byte) (s : State) : s.reevaluates (defineProbeWork p s).1 := by
  unfold defineProbeWork
  split
  exacts [(s.setProbe_keepsZones ..).evaluateAt _, .refl s]

theorem retireProbeWork_reevaluates (p : List Byte) (s : State) : s.reevaluates (retireProbeWork p s).1 := by
  unfold retireProbeWork
  repeat' split
  exacts [.refl s, ((s.setEngine_trunksOnly ..).keepsZones.trans (State.setProbe_keepsZones ..)).evaluateAt _, .refl s]

theorem State.setScanMode_keepsZones (s : State) (mode : ScanMode) (period : Nat) :
    s.keepsZones (s.setScanMode mode period) := by
  obtain ⟨t, es, h⟩ := s.setScanMode_eq mode period
  rw [h]
  exact ⟨rfl, rfl⟩

theorem scanSetupWork_reevaluates (p : List Byte) (s : State) : s.reevaluates (scanSetupWork p s).1 := by
  unfold scanSetupWork
  split
  · exact .refl s
  · exact .of_keeps (State.setScanMode_keepsZones ..) (State.changeMaxAge_reevaluates ..)

theorem mapPointWork_reevaluates (p : List Byte) (s : State) : s.reevaluates (mapPointWork p s).1 := by
  unfold mapPointWork
  repeat' split
  exacts [s.changeMap_reevaluates _, .refl s, .refl s]

theorem unmapPointWork_reevaluates (p : List Byte) (s : State) : s.reevaluates (unmapPointWork p s).1 := by
  unfold unmapPointWork
  repeat' split
  exacts [.refl s, .refl s, s.changeMap_reevaluates _]

theorem mapSpanWork_reevaluates (p : List Byte) (s : State) : s.reevaluates (mapSpanWork p s).1 := by
  unfold mapSpanWork State.mapSpan
  repeat' split
  exacts [.refl s, s.changeMap_reevaluates _, .refl s, s.changeMap_reevaluates _, .refl s, .refl s]

theorem unmapSpanWork_reevaluates (p : List Byte) (s : State) : s.reevaluates (unmapSpanWork p s).1 := by
  unfold unmapSpanWork
  repeat' split
  exacts [.refl s, .refl s, s.changeMap_reevaluates _, .refl s]

theorem leakSetupWork_reevaluates (p : List Byte) (s : State) : s.reevaluates (leakSetupWork p s).1 := by
  unfold leakSetupWork
  split
  exacts [s.resetChannel_reevaluates .., .refl s]

theorem leakRecalibrateWork_reevaluates (p : List Byte) (s : State) :
    s.reevaluates (leakRecalibrateWork p s).1 := by
  unfold leakRecalibrateWork
  repeat' split
  exacts [.refl s, .refl s, s.resetChannel_reevaluates ..]

/-- Every request that is one step evaluates zones at most, but those of `zoneServices`. -/
theorem work_reevaluates : ∀ v ∈ requestServices, v ∈ zoneServices ∨
    ∀ (p : List Byte) (s : State), s.reevaluates (v.work p s).1 := by
  simp only [requestServices, List.forall_mem_cons]
  refine ⟨?identify, ?summary, .inr noticeMaskWork_reevaluates, .inr defineProbeWork_reevaluates,
    .inr retireProbeWork_reevaluates, ?probeQuery, .inr trunkRestartWork_reevaluates,
    .inr trunkSetupWork_reevaluates, .inr scanSetupWork_reevaluates, .inr surveyCancelWork_reevaluates,
    .inr mapPointWork_reevaluates, .inr mapSpanWork_reevaluates, .inr unmapPointWork_reevaluates,
    .inr unmapSpanWork_reevaluates, ?mapQuery, ?zoneSetup, ?zoneOn, ?zoneOff, ?zoneQuery,
    .inr leakSetupWork_reevaluates, .inr leakRecalibrateWork_reevaluates, ?leakQuery,
    .inr lineSetupWork_reevaluates, .inr lineReleaseWork_reevaluates, ?lineQuery, ?eventList, ?eventQuery,
    .inr eventAckWork_reevaluates, fun v hv => absurd hv List.not_mem_nil⟩
  case zoneSetup | zoneOn | zoneOff => exact .inl (by simp [zoneServices])
  all_goals exact .inr fun p s => .refl s

/-! ### Predicates of single records that every operation on them keeps -/

/-- ok is so of every zone record, and okStored of every zone in store. -/
def State.zonesAre (s : State) (ok : ZoneRecord → Prop) (okStored : Bool × ZoneConfig → Prop) : Prop :=
  (∀ z, ok (s.zone z)) ∧ ∀ z, okStored (s.store.contents.zones.get z)

/-- ok is kept by an evaluation where R is so of the probe records, and by the few other operations on a zone's record;
okStored is so of what a good record would have stored, and such a zone starts with a good record. -/
structure KeptByZones (R : State → Prop) (ok : ZoneRecord → Prop) (okStored : Bool × ZoneConfig → Prop) : Prop where
  ofProbes  : ∀ {s t : State}, t.probes = s.probes → R s → R t
  evaluated : ∀ {s : State} {z : ZoneId} (cause : EvalCause), R s → (s.zone z).enabled = true → ok (s.zone z) →
    ok (s.zoneEvaluated z cause)
  setUp     : ∀ {r : ZoneRecord} {c : ZoneConfig}, c.inRange → ok r → ok { r with cfg := c }
  undwelled : ∀ {r : ZoneRecord}, ok r → ok { r with dwell := .none }
  turnedOn  : ∀ {r : ZoneRecord}, r.enabled = false → ok r → ok { r with enabled := true, grade := .stale }
  turnedOff : ∀ {r : ZoneRecord}, ok r → ok r.turnedOff
  tick      : ∀ {r : ZoneRecord}, ok r → ok r.tick
  stored    : ∀ {r : ZoneRecord}, ok r → okStored (r.enabled, r.cfg)
  start     : ∀ {x : Bool × ZoneConfig}, okStored x → ok (ZoneRecord.start x.1 x.2)
  default   : okStored (false, ZoneConfig.default)

theorem State.keepsZones.zonesAre {s t : State} (h : s.keepsZones t) {ok : ZoneRecord → Prop}
    {okStored : Bool × ZoneConfig → Prop} (hs : s.zonesAre ok okStored) : t.zonesAre ok okStored :=
  ⟨fun z => by rw [h.zone]; exact hs.1 z, by rw [h.stored]; exact hs.2⟩

theorem State.zonesAre.setZone {s : State} {ok : ZoneRecord → Prop} {okStored : Bool × ZoneConfig → Prop}
    (h : s.zonesAre ok okStored) {z : ZoneId} {r : ZoneRecord} (hr : ok r) : (s.setZone z r).zonesAre ok okStored := by
  refine ⟨fun y => ?_, h.2⟩
  by_cases hy : y = z
  · rw [hy, State.zone_setZone_same]
    exact hr
  · rw [State.zone_setZone_of_ne _ _ hy]
    exact h.1 y

/-- The settings that Zone Setup takes stand in their ranges (R89). -/
theorem ZoneConfig.clamped_inRange {c : ZoneConfig} (h : ¬ c.clamped.w ≤ c.clamped.a) : c.clamped.inRange := by
  have hw : c.clamped.w = max 0 (min 2000 c.w) := clamp_eq (by decide) _
  have ha : c.clamped.a = max (-500) (min 1500 c.a) := clamp_eq (by decide) _
  have hh : c.clamped.h = max 10 (min 500 c.h) := clamp_eq (by decide) _
  exact
    { w := by omega
      a := by omega
      h := by omega
      riseDwell := (clampNat_inRange (Nat.zero_le 900) _).2
      fallDwell := (clampNat_inRange (Nat.zero_le 3600) _).2
      weight := (clampNat_inRange (Nat.zero_le 4) _).2
      design := fun x hx => by
        obtain ⟨y, -, rfl⟩ := Option.map_eq_some_iff.mp hx
        rw [clamp_eq (by decide)]
        omega
      depth := (clampNat_inRange (Nat.zero_le 8) _).2 }

theorem ZoneConfig.default_inRange : ZoneConfig.default.inRange :=
  ⟨by decide, by decide, by decide, by decide, by decide, by decide, fun _ hx => (nomatch hx), by decide⟩

namespace KeptByZones

variable {R : State → Prop} {ok : ZoneRecord → Prop} {okStored : Bool × ZoneConfig → Prop}
  (Z : KeptByZones R ok okStored) {s : State}

include Z

theorem ofSetZone {z : ZoneId} {r : ZoneRecord} (hr : R s) : R (s.setZone z r) :=
  Z.ofProbes (s := s) rfl hr

theorem reevaluated {t : State} (ht : s.reevaluates t) (hr : R t) (h : s.zonesAre ok okStored) :
    t.zonesAre ok okStored := by
  refine ⟨fun z => ?_, by rw [ht.stored]; exact h.2⟩
  obtain hz | ⟨he, u, hu, hp, hz⟩ := ht.zone z
  · rw [hz]
    exact h.1 z
  · rw [hz]
    exact Z.evaluated .ordinary (Z.ofProbes hp hr) (hu ▸ he) (hu ▸ h.1 z)

theorem evaluate (z : ZoneId) (cause : EvalCause) (hr : R s) (h : s.zonesAre ok okStored) :
    (s.evaluate z cause).zonesAre ok okStored := by
  refine ⟨fun y => ?_, by rw [(s.evaluate_keeps z cause).store]; exact h.2⟩
  rw [State.zone_evaluate]
  split
  · next hy => exact Z.evaluated cause hr hy.2 (h.1 z)
  · exact h.1 y

theorem expireDwell (z : ZoneId) (hr : R s) (h : s.zonesAre ok okStored) :
    (s.expireDwell z).zonesAre ok okStored := by
  unfold State.expireDwell
  split
  · next cause _ => exact Z.evaluate z cause (Z.ofSetZone hr) (h.setZone (Z.undwelled (h.1 z)))
  · exact h

theorem zoneSetupWork (p : List Byte) (hr : R s) (h : s.zonesAre ok okStored) :
    (zoneSetupWork p s).1.zonesAre ok okStored := by
  unfold Machine.zoneSetupWork
  split
  · next z _ _ _ =>
    dsimp only
    split
    · exact h
    · next hc =>
      exact Z.evaluate z .ordinary (Z.ofSetZone hr) (h.setZone (Z.setUp (ZoneConfig.clamped_inRange hc) (h.1 z)))
  · exact h

theorem zoneOnWork (p : List Byte) (hr : R s) (h : s.zonesAre ok okStored) :
    (zoneOnWork p s).1.zonesAre ok okStored := by
  unfold Machine.zoneOnWork
  split
  · exact h
  · next z _ =>
    split
    · exact h
    · next he =>
      have hon : (s.setZone z { s.zone z with enabled := true, grade := .stale }).zonesAre ok okStored :=
        h.setZone (Z.turnedOn (by simpa using he) (h.1 z))
      have heval := Z.evaluated .ordinary (Z.ofSetZone hr) (by rw [State.zone_setZone_same]) (hon.1 z)
      exact (State.handOn_handedOn ..).keepsZones.zonesAre (hon.setZone heval)

theorem zoneOffWork (p : List Byte) (h : s.zonesAre ok okStored) : (zoneOffWork p s).1.zonesAre ok okStored := by
  unfold Machine.zoneOffWork
  repeat' split
  exacts [h, (State.handOn_handedOn ..).keepsZones.zonesAre (h.setZone (Z.turnedOff (h.1 _))), h]

/-- The work of every request that is one step keeps ok of the records. -/
theorem work (v : Service) (hv : v ∈ requestServices) (p : List Byte) (s : State) (hr : R s) (hr' : R (v.work p s).1)
    (h : s.zonesAre ok okStored) : (v.work p s).1.zonesAre ok okStored := by
  obtain hzone | hre := work_reevaluates v hv
  · have hall : ∀ v ∈ zoneServices, (v.work p s).1.zonesAre ok okStored := by
      simp only [zoneServices, List.forall_mem_cons]
      exact ⟨Z.zoneSetupWork p hr h, Z.zoneOnWork p hr h, Z.zoneOffWork p h, fun v hv => absurd hv List.not_mem_nil⟩
    exact hall v hzone
  · exact Z.reevaluated (hre p s) hr' h

theorem toLoad {i : Store} (h : ∀ z, okStored (i.contents.zones.get z)) (z : ZoneId) :
    okStored (i.toLoad.zones.get z) := by
  unfold Store.toLoad
  split
  · exact h z
  · show okStored ((Table.all 24 (false, ZoneConfig.default)).get z)
    rw [Table.get_all]
    exact Z.default

/-- What keeps R of every block, and ok of the records where R is so, keeps both of every block. -/
theorem blocks (K : KeptByBlocks R) : KeptByBlocks fun s => R s ∧ s.zonesAre ok okStored where
  trunks ht h := ⟨K.trunks ht h.1, ht.keepsZones.zonesAre h.2⟩
  queue q h := ⟨K.queue q h.1, h.2⟩
  timer t ht h := ⟨K.timer t ht h.1, h.2⟩
  unloaded power store pending hp hs h := by
    refine ⟨K.unloaded power store pending hp hs h.1, fun z => ?_, ?_⟩
    · show ok (Table.get (Table.all 24 (ZoneRecord.start false ZoneConfig.default)) z)
      rw [Table.get_all]
      exact Z.start Z.default
    · show ∀ z, okStored (store.contents.zones.get z)
      rw [hs]
      exact h.2.2
  booting hp h := ⟨K.booting hp h.1, h.2⟩
  started {s} h := by
    refine ⟨K.started h.1, fun z => ?_, h.2.2⟩
    show ok (Table.get (s.store.toLoad.zones.map fun x => ZoneRecord.start x.1 x.2) z)
    rw [Table.get_map]
    exact Z.start (Z.toLoad h.2.2 z)
  beginKeep {s} tag h := by
    refine ⟨K.beginKeep tag h.1, h.2.1, fun z => ?_⟩
    show okStored (Table.get (s.zones.map fun r => (r.enabled, r.cfg)) z)
    rw [Table.get_map]
    exact Z.stored (h.2.1 z)
  keepDone agrees h := ⟨K.keepDone agrees h.1, (State.keepDone_keepsZones _ agrees).zonesAre h.2⟩
  restarted {s} h := by
    refine ⟨K.restarted h.1, fun z => ?_, h.2.2⟩
    show ok (Table.get (s.zones.map fun r => ZoneRecord.start r.enabled r.cfg) z)
    rw [Table.get_map]
    exact Z.start (Z.stored (h.2.1 z))
  work v hv p s h := ⟨K.work v hv p s h.1, Z.work v hv p s h.1 (K.work v hv p s h.1) h.2⟩
  outcome a res o hr h :=
    ⟨K.outcome a res o hr h.1, Z.reevaluated (State.handToProbe_reevaluates ..) (K.outcome a res o hr h.1) h.2⟩
  expireAge a h := ⟨K.expireAge a h.1, Z.reevaluated (State.expireAge_reevaluates ..) (K.expireAge a h.1) h.2⟩
  expireDwell z h := ⟨K.expireDwell z h.1, Z.expireDwell z h.1 h.2⟩
  dutyFrame h := ⟨K.dutyFrame h.1, h.2⟩
  onTimeEnd l h := ⟨K.onTimeEnd l h.1, h.2⟩
  startRound h := ⟨K.startRound h.1, h.2⟩
  closeGate cycles h :=
    ⟨K.closeGate cycles h.1, Z.reevaluated (State.closeGate_reevaluates _ cycles) (K.closeGate cycles h.1) h.2⟩
  second {s} hdue h := by
    refine ⟨K.second hdue h.1, fun z => ?_, h.2.2⟩
    show ok (Table.get (s.zones.map ZoneRecord.tick) z)
    rw [Table.get_map]
    exact Z.tick (h.2.1 z)

end KeptByZones

end Sys2Proof.Machine
end

section
/-! What an evaluation makes of a zone's record (R88, R94 to R102): the grades and dwells that it can leave, and that it
and every other operation on a record keep it sound and in its ranges. -/

namespace Sys2Proof.Machine

open Sys2Proof

/-! ### The grades and dwells that an evaluation can leave (R95 to R102) -/

/-- CLEAR, WATCH or ALARM: a grade by the margin. -/
def Grade.byMargin (g : Grade) : Prop := g = .clear ∨ g = .watch ∨ g = .alarm

theorem Grade.not_byMargin {g : Grade} (h : g = .off ∨ g = .stale ∨ g = .wet) : ¬ g.byMargin := by
  unfold Grade.byMargin
  obtain rfl | rfl | rfl := h <;> decide

theorem plainTarget_byMargin (c : ZoneConfig) (m : Int) : (plainTarget c m).byMargin := by
  unfold plainTarget
  repeat' split
  exacts [.inr (.inr rfl), .inr (.inl rfl), .inl rfl]

theorem hystTarget_byMargin (c : ZoneConfig) {g : Grade} (h : g.byMargin) (m : Int) : (hystTarget c g m).byMargin := by
  obtain rfl | rfl | rfl := h
  · exact plainTarget_byMargin c m
  all_goals
    unfold hystTarget
    dsimp only
    repeat' split
    exacts [.inr (.inr rfl), .inr (.inl rfl), .inl rfl]

/-- The dwells that may follow one: none, the same, or one newly loaded with a length that is not 0 (R100). -/
def Dwell.leadsTo (c : ZoneConfig) (before after : Dwell) : Prop :=
  after = .none ∨ after = before ∨ (0 < c.riseDwell ∧ after = .rise c.riseDwell false)
    ∨ (0 < c.fallDwell ∧ after = .fall c.fallDwell false)

/-- What the dwell step leaves: the grade before or the target, and a dwell that may follow (R100, R102). -/
def dwellFollows (c : ZoneConfig) (g target : Grade) (dwell : Dwell) (r : Grade × Dwell) : Prop :=
  (r.1 = g ∨ r.1 = target) ∧ dwell.leadsTo c r.2

theorem dwellTable_follows (c : ZoneConfig) (g target : Grade) (dwell : Dwell) :
    dwellFollows c g target dwell (dwellTable c g target dwell) := by
  have hload {n : Nat} {loaded : Dwell} (h : 0 < n → dwell.leadsTo c loaded) :
      dwellFollows c g target dwell (loadDwell g target n loaded) := by
    unfold loadDwell
    split
    · exact ⟨.inr rfl, .inl rfl⟩
    · next hn => exact ⟨.inl rfl, h (Nat.pos_of_ne_zero hn)⟩
  have hrise := hload (n := c.riseDwell) fun h => .inr (.inr (.inl ⟨h, rfl⟩))
  have hfall := hload (n := c.fallDwell) fun h => .inr (.inr (.inr ⟨h, rfl⟩))
  unfold dwellTable
  split
  · cases dwell with
    | none => exact hrise
    | rise n due => exact ⟨.inl rfl, .inr (.inl rfl)⟩
    | fall n due => exact hrise
  · split
    · cases dwell with
      | none => exact hfall
      | rise n due => exact hfall
      | fall n due => exact ⟨.inl rfl, .inr (.inl rfl)⟩
    · exact ⟨.inl rfl, .inl rfl⟩

/-- A dwell that may follow none may follow any. -/
theorem dwellFollows.of_none {c : ZoneConfig} {g target : Grade} {r : Grade × Dwell} (dwell : Dwell)
    (h : dwellFollows c g target .none r) : dwellFollows c g target dwell r :=
  ⟨h.1, h.2.elim .inl fun h => h.elim .inl fun h => .inr (.inr h)⟩

theorem dwellStep_follows (cause : EvalCause) (c : ZoneConfig) (g target : Grade) (dwell : Dwell) :
    dwellFollows c g target dwell (dwellStep cause c g target dwell) := by
  have hexpired (b : Bool) :
      dwellFollows c g target dwell (if b then (target, .none) else dwellTable c g target .none) := by
    split
    exacts [⟨.inr rfl, .inl rfl⟩, (dwellTable_follows ..).of_none dwell]
  cases cause with
  | ordinary => exact dwellTable_follows ..
  | riseExpired => exact hexpired _
  | fallExpired => exact hexpired _

/-- What a grade decision comes to: WET or STALE without a dwell, an OFF zone as it was, or with the margin present a
grade by it and a dwell that may follow (R95 to R102). -/
theorem decideGrade_cases (cause : EvalCause) (c : ZoneConfig) (g : Grade) (dwell : Dwell) (wet : Bool)
    (m : Option Int) :
    decideGrade cause c g dwell wet m = (.wet, .none) ∨ decideGrade cause c g dwell wet m = (.stale, .none)
      ∨ (g = .off ∧ decideGrade cause c g dwell wet m = (.off, dwell))
      ∨ (m.isSome = true ∧ (decideGrade cause c g dwell wet m).1.byMargin
          ∧ dwell.leadsTo c (decideGrade cause c g dwell wet m).2) := by
  have hstep {g : Grade} {before : Dwell} (hg : g.byMargin) (hb : before = dwell ∨ before = .none) (m : Int) :
      (dwellStep cause c g (hystTarget c g m) before).1.byMargin
        ∧ dwell.leadsTo c (dwellStep cause c g (hystTarget c g m) before).2 := by
    have hfollows := dwellStep_follows cause c g (hystTarget c g m) before
    obtain ⟨hgrade, hdwell⟩ : dwellFollows c g (hystTarget c g m) dwell _ := by
      obtain rfl | rfl := hb
      exacts [hfollows, hfollows.of_none dwell]
    refine ⟨?_, hdwell⟩
    obtain hgrade | hgrade := hgrade
    · rw [hgrade]
      exact hg
    · rw [hgrade]
      exact hystTarget_byMargin c hg m
  unfold decideGrade
  split
  · exact .inl rfl
  · cases m with
    | none => exact .inr (.inl rfl)
    | some m =>
      cases g with
      | off => exact .inr (.inr (.inl ⟨rfl, rfl⟩))
      | stale => exact .inr (.inr (.inr ⟨rfl, plainTarget_byMargin c m, .inl rfl⟩))
      | clear => exact .inr (.inr (.inr ⟨rfl, hstep (.inl rfl) (.inl rfl) m⟩))
      | watch => exact .inr (.inr (.inr ⟨rfl, hstep (.inr (.inl rfl)) (.inl rfl) m⟩))
      | alarm => exact .inr (.inr (.inr ⟨rfl, hstep (.inr (.inr rfl)) (.inl rfl) m⟩))
      | wet => exact .inr (.inr (.inr ⟨rfl, hstep (.inr (.inr rfl)) (.inr rfl) m⟩))

/-! ### Sound records (R88) -/

theorem ZoneRecord.sound_of_enabled {r : ZoneRecord} (he : r.enabled = true) (hg : r.grade ≠ .off)
    (hd : r.dwell = .none ∨ r.grade.byMargin) (hm : r.grade.byMargin → r.m.isSome = true)
    (hr : r.m = margin (r.s.map (·.value)) r.d) : r.sound where
  off := by simp [hg, he]
  blank := by simp [he]
  dwell hne := hd.resolve_left hne
  graded := hm
  margin := hr

/-- A record with every value absent and no dwell, OFF exactly while not enabled and else STALE. -/
theorem ZoneRecord.sound_of_blank {enabled : Bool} {g : Grade}
    (hg : g = .off ∧ enabled = false ∨ g = .stale ∧ enabled = true) (c : ZoneConfig) :
    (⟨enabled, c, g, none, none, none, .none, 0, 0⟩ : ZoneRecord).sound where
  off := by obtain ⟨rfl, rfl⟩ | ⟨rfl, rfl⟩ := hg <;> simp
  blank _ := ⟨rfl, rfl, rfl, rfl, rfl⟩
  dwell h := absurd rfl h
  graded h := absurd h (Grade.not_byMargin (hg.elim (fun h => .inl h.1) fun h => .inr (.inl h.1)))
  margin := rfl

theorem ZoneRecord.sound.evaluated {s : State} {z : ZoneId} (cause : EvalCause) (he : (s.zone z).enabled = true)
    (h : (s.zone z).sound) : (s.zoneEvaluated z cause).sound := by
  have hon : (s.zone z).grade ≠ .off := fun ho => Bool.false_ne_true ((h.off.mp ho).symm.trans he)
  have henabled : (s.zoneEvaluated z cause).enabled = true := he
  have hcases := decideGrade_cases cause (s.zone z).cfg (s.zone z).grade (s.zone z).dwell (s.wetCondition z)
    (s.zoneValued z).m
  have hrecord : (s.zoneEvaluated z cause).grade = .wet ∧ (s.zoneEvaluated z cause).dwell = .none
      ∨ (s.zoneEvaluated z cause).grade = .stale ∧ (s.zoneEvaluated z cause).dwell = .none
      ∨ (s.zoneEvaluated z cause).grade.byMargin ∧ (s.zoneEvaluated z cause).m.isSome = true := by
    obtain hwet | hstale | ⟨hoff, -⟩ | ⟨hm, hgrade, -⟩ := hcases
    · exact .inl ⟨congrArg Prod.fst hwet, congrArg Prod.snd hwet⟩
    · exact .inr (.inl ⟨congrArg Prod.fst hstale, congrArg Prod.snd hstale⟩)
    · exact absurd hoff hon
    · exact .inr (.inr ⟨hgrade, hm⟩)
  have hmargin : (s.zoneEvaluated z cause).m =
      Machine.margin ((s.zoneEvaluated z cause).s.map (·.value)) (s.zoneEvaluated z cause).d := rfl
  generalize s.zoneEvaluated z cause = r at *
  obtain ⟨hg, hd⟩ | ⟨hg, hd⟩ | ⟨hg, hm⟩ := hrecord
  · exact sound_of_enabled henabled (by simp [hg]) (.inl hd) (absurd · (Grade.not_byMargin (by simp [hg]))) hmargin
  · exact sound_of_enabled henabled (by simp [hg]) (.inl hd) (absurd · (Grade.not_byMargin (by simp [hg]))) hmargin
  · exact sound_of_enabled henabled (fun ho => Grade.not_byMargin (.inl ho) hg) (.inr hg) (fun _ => hm) hmargin

theorem ZoneRecord.start_sound (enabled : Bool) (c : ZoneConfig) : (ZoneRecord.start enabled c).sound := by
  cases enabled
  exacts [sound_of_blank (.inl ⟨rfl, rfl⟩) c, sound_of_blank (.inr ⟨rfl, rfl⟩) c]

theorem ZoneRecord.turnedOff_sound (r : ZoneRecord) : r.turnedOff.sound := sound_of_blank (.inl ⟨rfl, rfl⟩) r.cfg

theorem ZoneRecord.sound.withDwell {r : ZoneRecord} (h : r.sound) {d : Dwell} (hd : d ≠ .none → r.dwell ≠ .none) :
    ({ r with dwell := d } : ZoneRecord).sound :=
  { h with dwell := fun hne => h.dwell (hd hne) }

/-- A zone that is turned on stands at STALE, with the values absent that were absent while it was OFF (R91). -/
theorem ZoneRecord.sound.turnedOn {r : ZoneRecord} (he : r.enabled = false) (h : r.sound) :
    ({ r with enabled := true, grade := .stale } : ZoneRecord).sound := by
  have hstale : ¬ Grade.stale.byMargin := Grade.not_byMargin (.inr (.inl rfl))
  have hdwell : r.dwell = .none :=
    by_contra fun hd => Grade.not_byMargin (.inl (h.off.mpr he)) (h.dwell hd)
  exact sound_of_enabled rfl (fun h => nomatch h) (.inl hdwell) (absurd · hstale) h.margin

/-- Every operation on a zone's record keeps it sound, whatever the probes are. -/
theorem sound_keptByZones : KeptByZones (fun _ => True) ZoneRecord.sound (fun _ => True) where
  ofProbes _ _ := trivial
  evaluated cause _ he h := h.evaluated cause he
  setUp _ h := { h with }
  undwelled h := h.withDwell fun hd => absurd rfl hd
  turnedOn he h := h.turnedOn he
  turnedOff _ := ZoneRecord.turnedOff_sound _
  tick {r} h := h.withDwell fun hd hnone => hd (by rw [hnone]; rfl)
  stored _ := trivial
  start _ := ZoneRecord.start_sound ..
  default := trivial

/-! ### Records in their ranges (R84, R87, R88, R101) -/

/-- The temperature and the Df of a sound probe record stand in their ranges (R45, R81). -/
theorem ProbeRecord.sound.ranges {p : ProbeRecord} (h : p.sound) :
    (∀ r, p.reading = some r → -4000 ≤ r.temp ∧ r.temp ≤ 8500) ∧ ∀ d, p.df = some d → -2000 ≤ d ∧ d ≤ 5000 := by
  cases hc : p.config with
  | none =>
    rw [(ProbeRecord.sound_of_undefined hc).mp h]
    exact ⟨fun _ hr => (nomatch hr), fun _ hd => (nomatch hd)⟩
  | some c =>
    have hs := (ProbeRecord.sound_of_config hc).mp h
    exact ⟨hs.temp, fun d hd => ⟨(hs.df d hd).1, (hs.df d hd).2.1⟩⟩

theorem State.zoneDew_inRange {s : State} (h : s.probesSound) {z : ZoneId} {d : Int} (hd : s.zoneDew z = some d) :
    -2000 ≤ d ∧ d ≤ 5000 := by
  obtain ⟨⟨a, -, -, -, -, hdf⟩, -⟩ := (s.zoneDew_eq_some z d).mp hd
  exact (h a).ranges.2 d hdf

theorem State.zoneSurface_inRange {s : State} (h : s.probesSound) {z : ZoneId} (hc : (s.zone z).cfg.inRange)
    {x : Surface} (hx : s.zoneSurface z = some x) : -4000 ≤ x.value ∧ x.value ≤ 8500 := by
  rw [State.zoneSurface_eq] at hx
  cases ht : s.leastSurface z with
  | some t =>
    rw [ht] at hx
    cases hx
    obtain ⟨⟨a, -, -, -, r, hr, rfl⟩, -⟩ := (s.leastSurface_eq_some z t).mp ht
    exact (h a).ranges.1 r hr
  | none =>
    rw [ht] at hx
    obtain ⟨t, hdesign, rfl⟩ := Option.map_eq_some_iff.mp hx
    obtain ⟨hlow, hhigh⟩ := hc.design t hdesign
    exact ⟨hlow.trans' (by decide), hhigh.trans (by decide)⟩

/-- A margin is the difference of two values that are present (R84). -/
theorem margin_eq_some {s d : Option Int} {m : Int} :
    margin s d = some m ↔ ∃ x y, s = some x ∧ d = some y ∧ x - y = m := by
  cases s <;> cases d <;> simp [margin]

/-- A zone has no more members than there are addresses (R60). -/
theorem State.length_filter_members_le (s : State) (z : ZoneId) (p : Addr → Bool) :
    ((s.members z).filter p).length ≤ 64 :=
  (List.length_filter_le ..).trans (List.length_filter_le _ allAddrs)

theorem Dwell.inRange.leadsTo {c : ZoneConfig} (hc : c.inRange) {before after : Dwell} (h : before.inRange)
    (hl : before.leadsTo c after) : after.inRange := by
  obtain rfl | rfl | ⟨hpos, rfl⟩ | ⟨hpos, rfl⟩ := hl
  exacts [trivial, h, ⟨hpos, hc.riseDwell, fun hd => nomatch hd⟩, ⟨hpos, hc.fallDwell, fun hd => nomatch hd⟩]

/-- The seconds that remain stay above 0, and an expiry becomes due in the last alone (R101, assumption 19). -/
theorem Dwell.inRange.tick {d : Dwell} (h : d.inRange) : d.tick.inRange := by
  have hcount {n hi : Nat} {due : Bool} (h : 1 ≤ n ∧ n ≤ hi ∧ (due = true → n = 1)) (hn : ¬ n ≤ 1) :
      1 ≤ n - 1 ∧ n - 1 ≤ hi ∧ (due = true → n - 1 = 1) :=
    ⟨by omega, by omega, fun hd => absurd (h.2.2 hd).le hn⟩
  cases d with
  | none => trivial
  | rise n due =>
    show (if n ≤ 1 then _ else _ : Dwell).inRange
    split
    · next hn => exact ⟨h.1, h.2.1, fun _ => Nat.le_antisymm hn h.1⟩
    · next hn => exact hcount h hn
  | fall n due =>
    show (if n ≤ 1 then _ else _ : Dwell).inRange
    split
    · next hn => exact ⟨h.1, h.2.1, fun _ => Nat.le_antisymm hn h.1⟩
    · next hn => exact hcount h hn

theorem ZoneRecord.inRange.evaluated {s : State} (hp : s.probesSound) {z : ZoneId} (cause : EvalCause)
    (h : (s.zone z).inRange) : (s.zoneEvaluated z cause).inRange where
  cfg := h.cfg
  d _ hd := State.zoneDew_inRange hp hd
  s _ hx := State.zoneSurface_inRange hp h.cfg hx
  m m hm := by
    obtain ⟨x, y, hx, hy, rfl⟩ := margin_eq_some.mp hm
    obtain ⟨v, hv, rfl⟩ := Option.map_eq_some_iff.mp hx
    have := State.zoneSurface_inRange hp h.cfg hv
    have := State.zoneDew_inRange hp hy
    omega
  dwell := by
    show (decideGrade cause (s.zone z).cfg (s.zone z).grade (s.zone z).dwell _ _).2.inRange
    obtain hd | hd | ⟨-, hd⟩ | ⟨-, -, hd⟩ := decideGrade_cases cause (s.zone z).cfg (s.zone z).grade
      (s.zone z).dwell (s.wetCondition z) (s.zoneValued z).m
    · rw [hd]; trivial
    · rw [hd]; trivial
    · rw [hd]; exact h.dwell
    · exact h.dwell.leadsTo h.cfg hd
  counts := ⟨s.length_filter_members_le .., s.length_filter_members_le ..⟩

/-- A record with every value absent and no dwell stands in its ranges where its settings do. -/
theorem ZoneRecord.inRange_of_blank {c : ZoneConfig} (hc : c.inRange) (enabled : Bool) (g : Grade) :
    (⟨enabled, c, g, none, none, none, .none, 0, 0⟩ : ZoneRecord).inRange :=
  ⟨hc, fun _ h => (nomatch h), fun _ h => (nomatch h), fun _ h => (nomatch h), trivial, Nat.zero_le _, Nat.zero_le _⟩

/-- Every operation on a zone's record keeps it in its ranges, while the probe records are sound. -/
theorem inRange_keptByZones : KeptByZones State.probesSound ZoneRecord.inRange (fun x => x.2.inRange) where
  ofProbes hp h a := by
    rw [State.probe, hp]
    exact h a
  evaluated cause hp _ h := h.evaluated hp cause
  setUp hc h := { h with cfg := hc }
  undwelled h := { h with dwell := trivial }
  turnedOn _ h := { h with }
  turnedOff h := ZoneRecord.inRange_of_blank h.cfg ..
  tick h := { h with dwell := h.dwell.tick }
  stored h := h.cfg
  start h := ZoneRecord.inRange_of_blank h ..
  default := ZoneConfig.default_inRange

/-! ### Every step -/

theorem true_keptByBlocks : KeptByBlocks fun _ => True :=
  ⟨fun _ _ => trivial, fun _ _ => trivial, fun _ _ _ => trivial, fun _ _ _ _ _ _ => trivial, fun _ _ => trivial,
    fun _ => trivial, fun _ _ => trivial, fun _ _ => trivial, fun _ => trivial, fun _ _ _ _ _ => trivial,
    fun _ _ _ _ _ => trivial, fun _ _ => trivial, fun _ _ => trivial, fun _ => trivial, fun _ _ => trivial,
    fun _ => trivial, fun _ _ => trivial, fun _ _ => trivial⟩

/-- Every operation on the probe records keeps them sound, whatever the map is. -/
theorem probesSound_keptByProbes : KeptByProbes State.probesSound where
  frame hk h a := by
    rw [hk.probe]
    exact h a
  unloaded power store pending _ _ _ a := by
    show (Table.get (Table.all 64 ProbeRecord.undefined) a.idx).sound
    rw [Table.get_all]
    exact ProbeRecord.undefined_sound
  booting _ h := h
  started {s} _ a := by
    show (Table.get (s.store.toLoad.probes.map ProbeRecord.start) a.idx).sound
    rw [Table.get_map]
    exact ProbeRecord.start_sound _
  beginKeep _ h := h
  restarted {s} _ a := by
    show (Table.get (s.probes.map fun p => ProbeRecord.start p.config) a.idx).sound
    rw [Table.get_map]
    exact ProbeRecord.start_sound _
  stored o hc hr hraw h := h.setProbe (State.storedRecord_sound (h _) hc o _ (hr.rh _ _ hraw hc))
  failed o answered hc h := h.setProbe ((h _).failed hc o answered _)
  fresh _ c h := h.setProbe (ProbeRecord.fresh_sound c)
  retired _ h := h.setProbe ProbeRecord.undefined_sound
  expired a _ h := h.setProbe (h a).lostValidity
  rejudged {s} age h a := by
    rw [s.rejudgedUnder_probe]
    exact (h a).rejudged ..
  changed _ h := h
  second _ h := h

/-- Settles O55: each record by `sound_keptByZones` and by `inRange_keptByZones`, which goes beside the probe records,
from which D and S are taken. -/
theorem stepKeepsZones : Obligations.StepKeepsZones := by
  refine ⟨fun s t hsound hstep => ?_, fun s t hprobes _ hrange hstep => ?_⟩
  · exact ((sound_keptByZones.blocks true_keptByBlocks).step ⟨trivial, hsound, fun _ => trivial⟩ hstep).2.1
  · exact ((inRange_keptByZones.blocks probesSound_keptByProbes.blocks).step ⟨hprobes, hrange⟩ hstep).2

end Sys2Proof.Machine
end

section
/-! The grade decision (R95 to R102): what it comes to in each grade, by the target and the dwell. -/

namespace Sys2Proof.Machine

open Sys2Proof

/-! ### The dwell table (R100, R102) -/

theorem loadDwell_eq (g target : Grade) (length : Nat) (loaded : Dwell) :
    loadDwell g target length loaded = if length = 0 then (target, .none) else (g, loaded) := rfl

theorem Grade.not_worse_self (g : Grade) : g.worse g = false := by cases g <;> rfl

/-- Where the target is the grade no dwell runs. -/
theorem dwellTable_self (c : ZoneConfig) (g : Grade) (dwell : Dwell) : dwellTable c g g dwell = (g, .none) := by
  simp [dwellTable, g.not_worse_self]

theorem dwellTable_rising (c : ZoneConfig) {g target : Grade} (h : target.worse g = true) (k : Nat) (due : Bool) :
    dwellTable c g target (.rise k due) = (g, .rise k due) := if_pos h

theorem dwellTable_starts_rise (c : ZoneConfig) {g target : Grade} (h : target.worse g = true) {dwell : Dwell}
    (hd : ∀ k due, dwell ≠ .rise k due) :
    dwellTable c g target dwell = loadDwell g target c.riseDwell (.rise c.riseDwell false) := by
  unfold dwellTable
  rw [if_pos h]
  cases dwell with
  | none => rfl
  | rise k due => exact absurd rfl (hd k due)
  | fall k due => rfl

theorem Grade.worse_iff (g h : Grade) :
    g.worse h = true ↔ ∃ a b, g.rank = some a ∧ h.rank = some b ∧ b < a := by
  unfold Grade.worse
  cases g.rank <;> cases h.rank <;> simp

/-- The order of the grades goes one way. -/
theorem Grade.not_worse_of_worse {g h : Grade} (hw : g.worse h = true) : h.worse g = false := by
  refine Bool.eq_false_iff.mpr fun hw' => ?_
  obtain ⟨a, b, ha, hb, hlt⟩ := (g.worse_iff h).mp hw
  obtain ⟨b', a', hb', ha', hlt'⟩ := (h.worse_iff g).mp hw'
  simp only [ha, hb, Option.some.injEq] at ha' hb'
  omega

theorem dwellTable_falling (c : ZoneConfig) {g target : Grade} (h : g.worse target = true) (k : Nat) (due : Bool) :
    dwellTable c g target (.fall k due) = (g, .fall k due) := by
  unfold dwellTable
  rw [Grade.not_worse_of_worse h, if_neg Bool.false_ne_true, if_pos h]

theorem dwellTable_starts_fall (c : ZoneConfig) {g target : Grade} (h : g.worse target = true) {dwell : Dwell}
    (hd : ∀ k due, dwell ≠ .fall k due) :
    dwellTable c g target dwell = loadDwell g target c.fallDwell (.fall c.fallDwell false) := by
  unfold dwellTable
  rw [Grade.not_worse_of_worse h, if_neg Bool.false_ne_true, if_pos h]
  cases dwell with
  | none => rfl
  | rise k due => rfl
  | fall k due => exact absurd rfl (hd k due)

/-- What a dwell table answers is the target without a dwell, or a grade and dwell that it answers again. -/
theorem dwellTable_settles (c : ZoneConfig) (g target : Grade) (dwell : Dwell) :
    dwellTable c g target dwell = (target, .none)
      ∨ ∃ after, dwellTable c g target dwell = (g, after) ∧ dwellTable c g target after = (g, after) := by
  have hload (length : Nat) {loaded : Dwell} (hkept : dwellTable c g target loaded = (g, loaded))
      (h : dwellTable c g target dwell = loadDwell g target length loaded) :
      dwellTable c g target dwell = (target, .none)
        ∨ ∃ after, dwellTable c g target dwell = (g, after) ∧ dwellTable c g target after = (g, after) := by
    rw [h, loadDwell_eq]
    split
    exacts [.inl rfl, .inr ⟨loaded, rfl, hkept⟩]
  by_cases hrise : target.worse g = true
  · by_cases hd : ∃ k due, dwell = .rise k due
    · obtain ⟨k, due, rfl⟩ := hd
      exact .inr ⟨_, dwellTable_rising c hrise k due, dwellTable_rising c hrise k due⟩
    · exact hload _ (dwellTable_rising c hrise _ _)
        (dwellTable_starts_rise c hrise fun k due h => hd ⟨k, due, h⟩)
  · by_cases hfall : g.worse target = true
    · by_cases hd : ∃ k due, dwell = .fall k due
      · obtain ⟨k, due, rfl⟩ := hd
        exact .inr ⟨_, dwellTable_falling c hfall k due, dwellTable_falling c hfall k due⟩
      · exact hload _ (dwellTable_falling c hfall _ _)
          (dwellTable_starts_fall c hfall fun k due h => hd ⟨k, due, h⟩)
    · have hnone (d : Dwell) : dwellTable c g target d = (g, .none) := by
        unfold dwellTable
        rw [if_neg hrise, if_neg hfall]
      exact .inr ⟨.none, hnone dwell, hnone .none⟩

/-! ### The target (R98, R99) -/

section Target

variable {c : ZoneConfig} {m : Int}

theorem hystTarget_clear : hystTarget c .clear m =
    if m ≤ c.a then .alarm else if m ≤ c.w then .watch else .clear := rfl

theorem hystTarget_watch : hystTarget c .watch m =
    if m ≤ c.a then .alarm else if m ≤ c.w + c.h then .watch else .clear := rfl

theorem hystTarget_alarm : hystTarget c .alarm m =
    if m ≤ c.a + c.h then .alarm else if m ≤ c.w + c.h then .watch else .clear := rfl

/-- A zone that has reached its target stays there (R99). -/
theorem hystTarget_settled (haw : c.a < c.w) (hh : 0 ≤ c.h) {g : Grade} (hg : g.byMargin) :
    hystTarget c (hystTarget c g m) m = hystTarget c g m := by
  have halarm (h : m ≤ c.a + c.h) : hystTarget c .alarm m = .alarm := if_pos h
  have hwatch (h1 : ¬ m ≤ c.a) (h2 : m ≤ c.w + c.h) : hystTarget c .watch m = .watch := by
    rw [hystTarget_watch, if_neg h1, if_pos h2]
  have hclear (h : ¬ m ≤ c.w) : hystTarget c .clear m = .clear := by
    rw [hystTarget_clear, if_neg (by omega), if_neg h]
  obtain rfl | rfl | rfl := hg
  · rw [hystTarget_clear]
    split
    · exact halarm (by omega)
    · split
      exacts [hwatch (by omega) (by omega), hclear (by omega)]
  · rw [hystTarget_watch]
    split
    · exact halarm (by omega)
    · split
      exacts [hwatch (by omega) (by omega), hclear (by omega)]
  · rw [hystTarget_alarm]
    split
    · exact halarm (by omega)
    · split
      exacts [hwatch (by omega) (by omega), hclear (by omega)]

end Target

/-! ### The decision, by what settles it (R95 to R98) -/

theorem decideGrade_wet (cause : EvalCause) (c : ZoneConfig) (g : Grade) (dwell : Dwell) (om : Option Int) :
    decideGrade cause c g dwell true om = (.wet, .none) := rfl

theorem decideGrade_no_margin (cause : EvalCause) (c : ZoneConfig) (g : Grade) (dwell : Dwell) :
    decideGrade cause c g dwell false none = (.stale, .none) := rfl

/-- A zone graded by its margin goes by the target and the dwell (R99, R100). -/
theorem decideGrade_byMargin (cause : EvalCause) (c : ZoneConfig) {g : Grade} (hg : g.byMargin) (dwell : Dwell)
    (m : Int) : decideGrade cause c g dwell false (some m) = dwellStep cause c g (hystTarget c g m) dwell := by
  obtain rfl | rfl | rfl := hg <;> rfl

/-- A zone that leaves WET goes on from ALARM with no dwell (R97). -/
theorem decideGrade_from_wet (cause : EvalCause) (c : ZoneConfig) (dwell : Dwell) (m : Int) :
    decideGrade cause c .wet dwell false (some m) = decideGrade cause c .alarm .none false (some m) := rfl

/-- With a zone at its target an ordinary decision leaves it there with no dwell. -/
theorem decideGrade_at_target {c : ZoneConfig} {g : Grade} (hg : g.byMargin) {m : Int} (h : hystTarget c g m = g)
    (dwell : Dwell) : decideGrade .ordinary c g dwell false (some m) = (g, .none) := by
  rw [decideGrade_byMargin _ _ hg, h]
  exact dwellTable_self c g dwell

/-- An ordinary decision by the margin, made again, answers the same. -/
theorem decideGrade_settled_byMargin {c : ZoneConfig} (haw : c.a < c.w) (hh : 0 ≤ c.h) {g : Grade} (hg : g.byMargin)
    (dwell : Dwell) (m : Int) {r : Grade × Dwell} (hr : r = decideGrade .ordinary c g dwell false (some m)) :
    decideGrade .ordinary c r.1 r.2 false (some m) = r := by
  rw [decideGrade_byMargin _ _ hg] at hr
  obtain htarget | ⟨after, hafter, hagain⟩ := dwellTable_settles c g (hystTarget c g m) dwell
  · rw [hr.trans htarget]
    exact decideGrade_at_target (hystTarget_byMargin c hg m) (hystTarget_settled haw hh hg) .none
  · rw [hr.trans hafter]
    exact (decideGrade_byMargin _ _ hg ..).trans hagain

/-- An ordinary decision made again on the same values answers the same (R95 to R100). -/
theorem decideGrade_settled {c : ZoneConfig} (haw : c.a < c.w) (hh : 0 ≤ c.h) {g : Grade} (hg : g ≠ .off)
    (dwell : Dwell) (wet : Bool) (om : Option Int) {r : Grade × Dwell}
    (hr : r = decideGrade .ordinary c g dwell wet om) : decideGrade .ordinary c r.1 r.2 wet om = r := by
  cases wet with
  | true => exact hr.symm
  | false =>
    cases om with
    | none => exact hr.symm
    | some m =>
      cases g with
      | off => exact absurd rfl hg
      | stale =>
        rw [hr]
        exact decideGrade_at_target (plainTarget_byMargin c m) (hystTarget_settled haw hh (g := .clear) (.inl rfl))
          .none
      | clear => exact decideGrade_settled_byMargin haw hh (.inl rfl) dwell m hr
      | watch => exact decideGrade_settled_byMargin haw hh (.inr (.inl rfl)) dwell m hr
      | alarm => exact decideGrade_settled_byMargin haw hh (.inr (.inr rfl)) dwell m hr
      | wet => exact decideGrade_settled_byMargin haw hh (.inr (.inr rfl)) .none m hr

/-! ### A target above or below the grade (R100) -/

theorem decideGrade_target_worse {c : ZoneConfig} {g : Grade} (hg : g.byMargin) {m : Int}
    (h : (hystTarget c g m).worse g = true) (dwell : Dwell) :
    (∀ k due, dwell = .rise k due → decideGrade .ordinary c g dwell false (some m) = (g, .rise k due))
    ∧ ((∀ k due, dwell ≠ .rise k due) → decideGrade .ordinary c g dwell false (some m) =
        if c.riseDwell = 0 then (hystTarget c g m, .none) else (g, .rise c.riseDwell false)) := by
  rw [decideGrade_byMargin _ _ hg]
  refine ⟨?_, dwellTable_starts_rise c h⟩
  rintro k due rfl
  exact dwellTable_rising c h k due

theorem decideGrade_target_better {c : ZoneConfig} {g : Grade} (hg : g.byMargin) {m : Int}
    (h : g.worse (hystTarget c g m) = true) (dwell : Dwell) :
    (∀ k due, dwell = .fall k due → decideGrade .ordinary c g dwell false (some m) = (g, .fall k due))
    ∧ ((∀ k due, dwell ≠ .fall k due) → decideGrade .ordinary c g dwell false (some m) =
        if c.fallDwell = 0 then (hystTarget c g m, .none) else (g, .fall c.fallDwell false)) := by
  rw [decideGrade_byMargin _ _ hg]
  refine ⟨?_, dwellTable_starts_fall c h⟩
  rintro k due rfl
  exact dwellTable_falling c h k due

theorem decideGrade_clear_rises {c : ZoneConfig} {m : Int} (hm : m ≤ c.w) (dwell : Dwell) :
    (∀ k due, dwell = .rise k due → decideGrade .ordinary c .clear dwell false (some m) = (.clear, .rise k due))
    ∧ ((∀ k due, dwell ≠ .rise k due) → decideGrade .ordinary c .clear dwell false (some m) =
        if c.riseDwell = 0 then (if m ≤ c.a then .alarm else .watch, .none)
        else (.clear, .rise c.riseDwell false)) := by
  have ht : hystTarget c .clear m = if m ≤ c.a then .alarm else .watch := by rw [hystTarget_clear, if_pos hm]
  rw [← ht]
  refine decideGrade_target_worse (.inl rfl) ?_ dwell
  rw [ht]
  split <;> rfl

theorem decideGrade_alarm_falls {c : ZoneConfig} {m : Int} (hm : c.a + c.h < m) (dwell : Dwell) :
    (∀ k due, dwell = .fall k due → decideGrade .ordinary c .alarm dwell false (some m) = (.alarm, .fall k due))
    ∧ ((∀ k due, dwell ≠ .fall k due) → decideGrade .ordinary c .alarm dwell false (some m) =
        if c.fallDwell = 0 then (if m ≤ c.w + c.h then .watch else .clear, .none)
        else (.alarm, .fall c.fallDwell false)) := by
  have ht : hystTarget c .alarm m = if m ≤ c.w + c.h then .watch else .clear := by
    rw [hystTarget_alarm, if_neg (by omega)]
  rw [← ht]
  refine decideGrade_target_better (.inr (.inr rfl)) ?_ dwell
  rw [ht]
  split <;> rfl

theorem plainTarget_none (c : ZoneConfig) (m : Int) : (plainTarget c m, Dwell.none) =
    if m ≤ c.a then (.alarm, .none) else if m ≤ c.w then (.watch, .none) else (.clear, .none) := by
  unfold plainTarget
  split
  · rfl
  · split <;> rfl

/-- Settles O37: each grade by its target, and the repeat by `decideGrade_settled`. -/
theorem gradeDecisionByTheRules : Obligations.GradeDecisionByTheRules := by
  intro c g dwell m haw hh
  refine ⟨fun cause om => rfl, fun cause => rfl, fun cause => plainTarget_none c m, fun hm => ?clear,
    fun ha hm => ?watch, fun hm => ?alarm, fun hm => decideGrade_clear_rises hm dwell, fun hm => ?watchRises,
    fun hm => ?watchFalls, fun hm => decideGrade_alarm_falls hm dwell, ?wet,
    fun wet om hg => decideGrade_settled haw hh hg dwell wet om rfl⟩
  case clear =>
    exact decideGrade_at_target (.inl rfl) (by rw [hystTarget_clear, if_neg (by omega), if_neg (by omega)]) dwell
  case watch =>
    exact decideGrade_at_target (.inr (.inl rfl)) (by rw [hystTarget_watch, if_neg (by omega), if_pos hm]) dwell
  case alarm => exact decideGrade_at_target (.inr (.inr rfl)) (if_pos hm) dwell
  case watchRises =>
    have ht : hystTarget c .watch m = .alarm := if_pos hm
    have h := decideGrade_target_worse (c := c) (g := .watch) (m := m) (.inr (.inl rfl)) (by rw [ht]; rfl) dwell
    rwa [ht] at h
  case watchFalls =>
    have ht : hystTarget c .watch m = .clear := by rw [hystTarget_watch, if_neg (by omega), if_neg (by omega)]
    have h := decideGrade_target_better (c := c) (g := .watch) (m := m) (.inr (.inl rfl)) (by rw [ht]; rfl) dwell
    rwa [ht] at h
  case wet =>
    rw [decideGrade_from_wet]
    split
    · next hm => exact decideGrade_at_target (.inr (.inr rfl)) (if_pos hm) .none
    · next hm => exact (decideGrade_alarm_falls (by omega) .none).2 fun _ _ h => nomatch h

end Sys2Proof.Machine
end

section
/-! The expiry of a dwell (R102): the decision that replaces the dwell step, and the zone that takes it. -/

namespace Sys2Proof.Machine

open Sys2Proof

/-! ### The decision at an expiry (R102) -/

section Expiry

variable {c : ZoneConfig} (m : Int) (dwell : Dwell)

/-- At its target a zone stays with no dwell, whether or not one has expired. -/
theorem dwellStep_self (cause : EvalCause) (g : Grade) : dwellStep cause c g g dwell = (g, .none) := by
  cases cause with
  | ordinary => exact dwellTable_self c g dwell
  | riseExpired => exact (if_neg (Bool.eq_false_iff.mp g.not_worse_self)).trans (dwellTable_self c g .none)
  | fallExpired => exact (if_neg (Bool.eq_false_iff.mp g.not_worse_self)).trans (dwellTable_self c g .none)

theorem decideGrade_riseExpired_clear : decideGrade .riseExpired c .clear dwell false (some m) =
    if m ≤ c.a then (.alarm, .none) else if m ≤ c.w then (.watch, .none) else (.clear, .none) := by
  rw [decideGrade_byMargin _ _ (.inl rfl), hystTarget_clear]
  split
  · rfl
  · split <;> rfl

theorem decideGrade_riseExpired_watch : decideGrade .riseExpired c .watch dwell false (some m) =
    if m ≤ c.a then (.alarm, .none) else if m ≤ c.w + c.h then (.watch, .none)
    else if c.fallDwell = 0 then (.clear, .none) else (.watch, .fall c.fallDwell false) := by
  rw [decideGrade_byMargin _ _ (.inr (.inl rfl)), hystTarget_watch]
  split
  · rfl
  · split <;> rfl

/-- In ALARM no target lies above, so that R100 is applied as with no dwell. -/
theorem decideGrade_riseExpired_alarm : decideGrade .riseExpired c .alarm dwell false (some m) =
    if m ≤ c.a + c.h then (.alarm, .none)
    else if c.fallDwell = 0 then (if m ≤ c.w + c.h then .watch else .clear, .none)
    else (.alarm, .fall c.fallDwell false) := by
  have hg : Grade.alarm.byMargin := .inr (.inr rfl)
  split
  · next hm =>
    rw [decideGrade_byMargin _ _ hg, hystTarget_alarm, if_pos hm]
    exact dwellStep_self ..
  · next hm =>
    have hnot : (hystTarget c .alarm m).worse .alarm = false := by
      rw [hystTarget_alarm, if_neg hm]
      split <;> rfl
    have hfalls := (decideGrade_alarm_falls (c := c) (m := m) (by omega) .none).2 fun _ _ h => nomatch h
    rw [← hfalls, decideGrade_byMargin _ _ hg]
    exact if_neg (Bool.eq_false_iff.mp hnot)

theorem decideGrade_fallExpired_alarm : decideGrade .fallExpired c .alarm dwell false (some m) =
    if m ≤ c.a + c.h then (.alarm, .none) else if m ≤ c.w + c.h then (.watch, .none) else (.clear, .none) := by
  rw [decideGrade_byMargin _ _ (.inr (.inr rfl)), hystTarget_alarm]
  split
  · rfl
  · split <;> rfl

theorem decideGrade_fallExpired_watch (haw : c.a < c.w) (hh : 0 ≤ c.h) :
    decideGrade .fallExpired c .watch dwell false (some m) =
      if c.w + c.h < m then (.clear, .none) else if c.a < m then (.watch, .none)
      else if c.riseDwell = 0 then (.alarm, .none) else (.watch, .rise c.riseDwell false) := by
  rw [decideGrade_byMargin _ _ (.inr (.inl rfl)), hystTarget_watch]
  split
  · next hm => rw [if_neg (by omega), if_neg (by omega)]; rfl
  · next hm =>
    split
    · next ha => rw [if_neg (by omega), if_pos (by omega)]; rfl
    · next ha => rw [if_pos (by omega)]; rfl

/-- In CLEAR no target lies below, so that R100 is applied as with no dwell. -/
theorem decideGrade_fallExpired_clear (haw : c.a < c.w) : decideGrade .fallExpired c .clear dwell false (some m) =
    if c.w < m then (.clear, .none)
    else if c.riseDwell = 0 then (if m ≤ c.a then .alarm else .watch, .none)
    else (.clear, .rise c.riseDwell false) := by
  have hg : Grade.clear.byMargin := .inl rfl
  split
  · next hm =>
    rw [decideGrade_byMargin _ _ hg, hystTarget_clear, if_neg (by omega), if_neg (by omega)]
    exact dwellStep_self ..
  · next hm =>
    have hnot : Grade.clear.worse (hystTarget c .clear m) = false := by
      rw [hystTarget_clear, if_pos (show m ≤ c.w by omega)]
      split <;> rfl
    have hrises := (decideGrade_clear_rises (c := c) (m := m) (by omega) .none).2 fun _ _ h => nomatch h
    rw [← hrises, decideGrade_byMargin _ _ hg]
    exact if_neg (Bool.eq_false_iff.mp hnot)

end Expiry

/-! ### A zone evaluated with another grade or dwell -/

/-- The record that an evaluation leaves of a zone whose record r has just been written: D, S, M, the counts and the WET
condition do not depend on its grade or dwell (R94, R95). -/
theorem State.zoneEvaluated_setZone (s : State) {z : ZoneId} {r : ZoneRecord} (hr : r.cfg = (s.zone z).cfg)
    (cause : EvalCause) {g : Grade × Dwell}
    (hg : g = decideGrade cause r.cfg r.grade r.dwell (s.wetCondition z)
      (margin ((s.zoneSurface z).map (·.value)) (s.zoneDew z))) :
    (s.setZone z r).zoneEvaluated z cause =
      { s.zoneValued z with enabled := r.enabled, cfg := r.cfg, grade := g.1, dwell := g.2 } := by
  have hzone : (s.setZone z r).zone z = r := State.zone_setZone_same ..
  have hsurface : (s.setZone z r).zoneSurface z = s.zoneSurface z := by
    unfold State.zoneSurface
    rw [hzone, hr]
    rfl
  have hwet : (s.setZone z r).wetCondition z = s.wetCondition z := by
    unfold State.wetCondition
    rw [hzone, hr]
    rfl
  unfold State.zoneEvaluated State.zoneValued
  rw [hzone, hsurface, hwet, hg]
  rfl

/-! ### DWELL_EXPIRY -/

/-- The state in which a zone is evaluated at the expiry of its dwell: the dwell is NONE (R102). -/
def State.undwelled (s : State) (z : ZoneId) : State := s.setZone z { s.zone z with dwell := .none }

/-- What DWELL_EXPIRY does where the expiry is due (R102). -/
theorem execDwellExpiry_due {s : State} {z : ZoneId} {cause : EvalCause} (hp : s.power = .running)
    (hdue : (s.zone z).dwell.expired = some cause) :
    exec (.dwellExpiry z) s = .next ((s.undwelled z).evaluate z cause).arbitrate := by
  show fieldEvent (fun s => s.expireDwell z) s = _
  rw [fieldEvent, if_pos hp, finish, State.expireDwell, hdue]
  rfl

/-- The dwell decided with at an expiry is NONE (R102). -/
theorem State.zoneEvaluated_undwelled (s : State) (z : ZoneId) (cause : EvalCause) :
    ((s.undwelled z).zoneEvaluated z cause).m = margin ((s.zoneSurface z).map (·.value)) (s.zoneDew z)
      ∧ (((s.undwelled z).zoneEvaluated z cause).grade, ((s.undwelled z).zoneEvaluated z cause).dwell) =
        decideGrade cause (s.zone z).cfg (s.zone z).grade .none (s.wetCondition z)
          (margin ((s.zoneSurface z).map (·.value)) (s.zoneDew z)) := by
  rw [State.undwelled, s.zoneEvaluated_setZone (r := { s.zone z with dwell := .none }) rfl cause rfl]
  exact ⟨rfl, rfl⟩

/-- The zones after a due expiry of an enabled zone's dwell (R102). -/
theorem State.zone_expired {s : State} {z : ZoneId} (he : (s.zone z).enabled = true) (cause : EvalCause)
    (y : ZoneId) : ((s.undwelled z).evaluate z cause).arbitrate.zone y =
      if y = z then (s.undwelled z).zoneEvaluated z cause else s.zone y := by
  have hz : ((s.undwelled z).zone z).enabled = true := by rw [State.undwelled, State.zone_setZone_same, he]
  rw [State.arbitrate_zone, State.zone_evaluate]
  by_cases hy : y = z
  · rw [if_pos ⟨hy, hz⟩, if_pos hy]
  · rw [if_neg fun h => hy h.1, if_neg hy, State.undwelled, State.zone_setZone_of_ne _ _ hy]

/-- What DWELL_EXPIRY leaves of the rest of the part. -/
theorem State.expired_keeps (s : State) (z : ZoneId) (cause : EvalCause) :
    s.evaluationKeeps ((s.undwelled z).evaluate z cause) :=
  have hset : s.evaluationKeeps (s.undwelled z) :=
    ⟨rfl, rfl, rfl, rfl, rfl, rfl, rfl, rfl, rfl, rfl, rfl, rfl, fun _ => rfl⟩
  hset.trans (State.evaluate_keeps ..)

/-- The channels stand in the part of the Leak Sense Unit that an evaluation keeps. -/
theorem State.evaluationKeeps.channel {s t : State} (h : s.evaluationKeeps t) (c : ChannelId) :
    t.channel c = s.channel c := by
  rw [State.channel, h.leak]
  rfl

/-- A due expiry of an enabled zone's dwell: the zone takes the decision, and the rest of the part is as an evaluation
leaves it (R102). -/
theorem execDwellExpiry_decides {s : State} {z : ZoneId} {cause : EvalCause} (hp : s.power = .running)
    (he : (s.zone z).enabled = true) (hdue : (s.zone z).dwell.expired = some cause) {om : Option Int}
    (hom : om = margin ((s.zoneSurface z).map (·.value)) (s.zoneDew z)) :
    ∃ t, exec (.dwellExpiry z) s = .next t ∧ t.probes = s.probes ∧ t.engines = s.engines ∧ t.map = s.map
      ∧ t.scan = s.scan ∧ t.slots = s.slots ∧ (∀ c, t.channel c = s.channel c)
      ∧ (∀ y, y ≠ z → t.zone y = s.zone y) ∧ (t.zone z).m = om
      ∧ ((t.zone z).grade, (t.zone z).dwell) =
          decideGrade cause (s.zone z).cfg (s.zone z).grade .none (s.wetCondition z) om := by
  obtain ⟨hm, hdecided⟩ := s.zoneEvaluated_undwelled z cause
  have hkeeps := s.expired_keeps z cause
  have hzone := State.zone_expired he cause
  have hself := hzone z
  rw [if_pos rfl] at hself
  refine ⟨_, execDwellExpiry_due hp hdue, ?_⟩
  rw [hself, hom]
  refine ⟨?_, ?_, ?_, ?_, ?_, fun c => ?_, fun y hy => (hzone y).trans (if_neg hy), hm, hdecided⟩ <;>
    rw [State.arbitrate_eq]
  exacts [hkeeps.probes, hkeeps.engines, hkeeps.map, hkeeps.scan, hkeeps.slots, hkeeps.channel c]

/-- Settles O36: the part after the expiry is that of an evaluation, and its grade and dwell are the decision at an
expiry, grade by grade. -/
theorem dwellExpiryTakesTheTarget : Obligations.DwellExpiryTakesTheTarget := by
  intro s z hp hl
  refine ⟨fun hnot => ?notDue, ?due, ?taken⟩
  case notDue =>
    have hnone : (s.zone z).dwell.expired = none := by
      obtain h | ⟨n, h⟩ | ⟨n, h⟩ := hnot <;> rw [h] <;> rfl
    have hself : s.expireDwell z = s := by rw [State.expireDwell, hnone]
    exact (fieldEvent_of_lineSound (f := fun s => s.expireDwell z) hp hl (by rw [hself])).trans (congrArg _ hself)
  case due =>
    rintro n s' rfl
    exact ⟨fun h => execDwellExpiry_due hp (by rw [h]; rfl), fun h => execDwellExpiry_due hp (by rw [h]; rfl)⟩
  case taken =>
    rintro c om rfl he hom hdwell
    obtain ⟨cause, hdue⟩ : ∃ cause, (s.zone z).dwell.expired = some cause := by
      obtain ⟨n, hd⟩ | ⟨n, hd⟩ := hdwell <;> exact ⟨_, by rw [hd]; rfl⟩
    obtain ⟨t, hexec, hprobes, hengines, hmap, hscan, hslots, hchannel, hother, hm, hdecided⟩ :=
      execDwellExpiry_decides hp he hdue hom
    refine ⟨t, hexec, hprobes, hengines, hmap, hscan, hslots, hchannel, hother, hm, fun hwet => ?wet,
      fun hwet hnone => ?stale, fun m hwet hm haw hh => ⟨fun n hd => ?rise, fun n hd => ?fall⟩⟩
    case wet => rw [hdecided, hwet, decideGrade_wet]
    case stale => rw [hdecided, hwet, hnone, decideGrade_no_margin]
    case rise =>
      obtain rfl : .riseExpired = cause := Option.some.inj (by rw [← hdue, hd]; rfl)
      refine ⟨fun hg => ?_, fun hg => ?_, fun hg => ?_⟩ <;> rw [hdecided, hwet, hm, hg]
      exacts [decideGrade_riseExpired_clear m _, decideGrade_riseExpired_watch m _, decideGrade_riseExpired_alarm m _]
    case fall =>
      obtain rfl : .fallExpired = cause := Option.some.inj (by rw [← hdue, hd]; rfl)
      refine ⟨fun hg => ?_, fun hg => ?_, fun hg => ?_⟩ <;> rw [hdecided, hwet, hm, hg]
      exacts [decideGrade_fallExpired_alarm m _, decideGrade_fallExpired_watch m _ haw hh,
        decideGrade_fallExpired_clear m _ haw]

end Sys2Proof.Machine
end

section
/-! What a grade change and a change of margin are handed on to: the notice queue, the Event List, the lines that hold
the zone and the active-zone count (R104, R105, R113, R147 to R152). -/

namespace Sys2Proof.Machine

open Sys2Proof

/-! ### Recomputing the lines of a zone (R148 to R150, R152) -/

theorem State.triggered_congr {s t : State} (h : t.zones = s.zones) (c : LineConfig) :
    t.triggered c = s.triggered c := by
  have hz (z : ZoneId) : t.triggers c z = s.triggers c z := by
    unfold State.triggers State.zone
    rw [h]
  rw [State.triggered, State.triggered, funext hz]

theorem State.askedDuty_congr {s t : State} (h : t.zones = s.zones) (c : LineConfig) :
    t.askedDuty c = s.askedDuty c := by
  simp only [State.askedDuty, State.zone, h]

/-- A line recomputed from the zones as a state has them. -/
def State.recomputedLine (s : State) (r : LineRecord) : LineRecord :=
  r.recomputed (s.triggered r.cfg) (s.askedDuty r.cfg)

theorem State.recomputedLine_congr {s t : State} (h : t.zones = s.zones) (r : LineRecord) :
    t.recomputedLine r = s.recomputedLine r := by
  rw [State.recomputedLine, State.recomputedLine, State.triggered_congr h, State.askedDuty_congr h]

theorem State.outLine_recompute (s : State) (l m : LineId) :
    (s.recompute l).outLine m = if m = l then s.recomputedLine (s.outLine m) else s.outLine m := by
  by_cases h : m = l
  · rw [if_pos h, h]
    exact State.outLine_setOutLine_same ..
  · rw [if_neg h]
    exact State.outLine_setOutLine_of_ne _ _ h

theorem State.recompute_zones (s : State) (l : LineId) : (s.recompute l).zones = s.zones := rfl

/-- The lines of a list whose configuration is as p says are recomputed, each from the zones as they stand. -/
theorem State.outLine_foldl_recompute (p : LineConfig → Bool) {ls : List LineId} (hn : ls.Nodup) (s : State)
    (m : LineId) :
    (ls.foldl (fun s l => if p (s.outLine l).cfg then s.recompute l else s) s).outLine m =
      if m ∈ ls ∧ p (s.outLine m).cfg = true then s.recomputedLine (s.outLine m) else s.outLine m := by
  induction ls generalizing s with
  | nil => simp
  | cons l ls ih =>
    obtain ⟨hl, hn⟩ := List.nodup_cons.mp hn
    rw [List.foldl_cons, ih hn]
    by_cases hp : p (s.outLine l).cfg = true
    · rw [if_pos hp, State.outLine_recompute, State.recomputedLine_congr (s.recompute_zones l)]
      by_cases hm : m = l
      · subst hm
        simp [hl, hp]
      · simp [hm]
    · rw [if_neg hp]
      by_cases hm : m = l
      · subst hm
        simp [hl, hp]
      · simp [hm]

theorem State.outLine_recomputeLinesOf (s : State) (z : ZoneId) (l : LineId) :
    (s.recomputeLinesOf z).outLine l =
      if (s.outLine l).cfg.holds z = true then s.recomputedLine (s.outLine l) else s.outLine l := by
  have h : (s.recomputeLinesOf z).outLine l = _ :=
    s.outLine_foldl_recompute (fun c => c.holds z) (List.nodup_finRange 4) l
  simpa only [List.mem_finRange, true_and] using h

theorem State.outLine_recomputeProportionalOf (s : State) (z : ZoneId) (l : LineId) :
    (s.recomputeProportionalOf z).outLine l =
      if (s.outLine l).cfg.holds z = true ∧ (s.outLine l).cfg.mode = .proportional then
        { s.outLine l with computed := s.askedDuty (s.outLine l).cfg }
      else s.outLine l := by
  have h : (s.recomputeProportionalOf z).outLine l = _ :=
    s.outLine_foldl_recompute (fun c => c.holds z && c.mode == .proportional) (List.nodup_finRange 4) l
  simp only [List.mem_finRange, true_and, Bool.and_eq_true, beq_iff_eq] at h
  refine h.trans ?_
  split
  · next hl =>
    unfold State.recomputedLine LineRecord.recomputed
    rw [hl.2]
  · rfl

/-- The lines that hold the zone recomputed from the zones as t has them, in the spelling of the statements. -/
theorem State.linesRecomputed_of {s t : State} {z : ZoneId}
    (h : ∀ l, t.outLine l =
      if (s.outLine l).cfg.holds z = true then t.recomputedLine (s.outLine l) else s.outLine l) :
    s.linesRecomputed z t := by
  rintro l r rfl
  refine ⟨fun hout => (h l).trans (if_neg (Bool.eq_false_iff.mp hout)), fun hin => ?_⟩
  rw [h l, if_pos (show (s.outLine l).cfg.holds z = true from hin)]
  unfold State.recomputedLine LineRecord.recomputed
  refine ⟨fun hmode => ?_, fun hmode => ?_, fun hmode on hon => ?_, fun hmode => ?_⟩ <;> rw [hmode]
  rw [hon]

/-! ### The parts of a grade change (R104) -/

theorem Grade.urgency_eq (g : Grade) : g.urgency = if g = .alarm ∨ g = .wet then .urgent else .routine := by
  cases g <;> rfl

/-- The state in which the Event List is told of a grade change: its notice is raised (R104 steps 1 and 2). -/
def State.gradeNoticed (s : State) (z : ZoneId) (after : Grade) : State :=
  (s.raise (.zone z) after.urgency).eventGradeChange z after

theorem State.gradeNoticed_eventsOnly (s : State) (z : ZoneId) (after : Grade) :
    s.eventsOnly (s.gradeNoticed z after) :=
  (s.raise_eventsOnly ..).trans (State.eventGradeChange_eventsOnly ..)

/-- A grade change leaves the Event List and the port as the notice and the Event List's own part leave them. -/
theorem State.gradeChange_events_port (s : State) (z : ZoneId) (before after : Grade) :
    (s.gradeChange z before after).events = (s.gradeNoticed z after).events
      ∧ (s.gradeChange z before after).port = (s.gradeNoticed z after).port := by
  obtain ⟨⟨ls, h⟩, -⟩ := (s.gradeNoticed z after).recomputeLinesOf_linesOnly z
  show ((s.gradeNoticed z after).recomputeLinesOf z).events = _
    ∧ ((s.gradeNoticed z after).recomputeLinesOf z).port = _
  rw [h]
  exact ⟨rfl, rfl⟩

theorem State.gradeChange_zones (s : State) (z : ZoneId) (before after : Grade) :
    (s.gradeChange z before after).zones = s.zones :=
  (s.gradeChange_handedOn z before after).zones

theorem State.gradeChange_activeZones (s : State) (z : ZoneId) (before after : Grade) :
    (s.gradeChange z before after).leak.activeZones = countActive s.leak.activeZones before after := by
  obtain ⟨⟨ls, h⟩, -⟩ := (s.gradeNoticed z after).recomputeLinesOf_linesOnly z
  obtain ⟨e, u, r, h'⟩ := s.gradeNoticed_eventsOnly z after
  show countActive ((s.gradeNoticed z after).recomputeLinesOf z).leak.activeZones before after = _
  rw [h, h']

/-- A grade change recomputes the lines that hold the zone (R104 step 3, R148). -/
theorem State.outLine_gradeChange (s : State) (z : ZoneId) (before after : Grade) (l : LineId) :
    (s.gradeChange z before after).outLine l =
      if (s.outLine l).cfg.holds z = true then s.recomputedLine (s.outLine l) else s.outLine l := by
  have hevents := s.gradeNoticed_eventsOnly z after
  have hlines : (s.gradeNoticed z after).outLine l = s.outLine l := by
    obtain ⟨e, u, r, h⟩ := hevents
    rw [h]
    rfl
  show ((s.gradeNoticed z after).recomputeLinesOf z).outLine l = _
  rw [State.outLine_recomputeLinesOf, hlines, State.recomputedLine_congr hevents.handedOn.zones]

/-! ### The notice of a grade change (R104 step 1) -/

/-- Opening, reopening or turning a record to WATER takes no source out of the urgent segment. -/
theorem State.eventRise_keepsUrgent (s : State) (z : ZoneId) (wet : Bool) {src : Source} (h : src ∈ s.port.urgent) :
    src ∈ (s.eventRise z wet).port.urgent := by
  have hraise (t : State) (ht : t.port = s.port) (x : Source) : src ∈ (t.raise x .urgent).port.urgent :=
    Port.mem_urgent_raise_of_mem _ x .urgent (by rwa [ht])
  have hopen (k : EventKind) : src ∈ (s.openRecord z k false).port.urgent := by
    unfold State.openRecord
    split
    exacts [h, hraise _ rfl _]
  unfold State.eventRise
  repeat' split
  all_goals
    first
    | exact h
    | exact hraise _ rfl _
    | exact hopen _

/-- The zone of a grade change stands in the notice queue, urgent where its grade is ALARM or WET (R104 step 1). -/
theorem State.zone_mem_gradeNoticed {s : State} (z : ZoneId) (after : Grade) (hmask : s.port.mask.zone = true) :
    (after = .alarm ∨ after = .wet → .zone z ∈ (s.gradeNoticed z after).port.urgent)
      ∧ .zone z ∈ (s.gradeNoticed z after).port.urgent ++ (s.gradeNoticed z after).port.routine := by
  have hurgent (wet : Bool) :
      .zone z ∈ (((s.raise (.zone z) .urgent).eventRise z wet).trackMargin z).port.urgent := by
    rw [State.trackMargin_port]
    exact State.eventRise_keepsUrgent _ z wet (s.port.mem_raise_urgent (.zone z) hmask)
  refine ⟨?_, (State.eventGradeChange_keepsQueued _ z after).mem _ (s.port.mem_raise (.zone z) _ hmask)⟩
  rintro (rfl | rfl)
  exacts [hurgent false, hurgent true]

/-! ### What a grade change from a zone's new record does -/

/-- A grade change after the zone's record r has been written, told from the state before: the record, the notice, the
Event List, the lines (R104). -/
theorem State.gradeChange_setZone (s : State) (z : ZoneId) (r : ZoneRecord) (before after : Grade) {t : State}
    (ht : t = (s.setZone z r).gradeChange z before after) :
    t.zone z = r ∧ (∀ y, y ≠ z → t.zone y = s.zone y) ∧ s.linesRecomputed z t
      ∧ (s.port.mask.zone = true →
          (after = .alarm ∨ after = .wet → .zone z ∈ t.port.urgent) ∧ .zone z ∈ t.port.urgent ++ t.port.routine)
      ∧ ∀ u : State, u = ((s.setZone z (t.zone z)).raise (.zone z)
            (if after = .alarm ∨ after = .wet then .urgent else .routine)).eventGradeChange z after →
          t.events = u.events ∧ t.port = u.port := by
  have hzones : t.zones = (s.setZone z r).zones := by rw [ht, State.gradeChange_zones]
  have hzone (y : ZoneId) : t.zone y = (s.setZone z r).zone y := by rw [State.zone, hzones]; rfl
  obtain ⟨hevents, hport⟩ := (s.setZone z r).gradeChange_events_port z before after
  rw [← ht] at hevents hport
  have hself : t.zone z = r := (hzone z).trans (State.zone_setZone_same ..)
  refine ⟨hself, fun y hy => (hzone y).trans (State.zone_setZone_of_ne _ _ hy), State.linesRecomputed_of fun l => ?_,
    fun hmask => ?_, ?_⟩
  · rw [State.recomputedLine_congr hzones, ht]
    exact State.outLine_gradeChange ..
  · rw [hport]
    exact State.zone_mem_gradeNoticed (s := s.setZone z r) z after hmask
  · rintro u rfl
    rw [hself, ← Grade.urgency_eq]
    exact ⟨hevents, hport⟩

/-! ### An evaluation, by whether the grade changes -/

theorem State.evaluate_of_grade_ne {s : State} {z : ZoneId} {cause : EvalCause} (he : (s.zone z).enabled = true)
    (h : (s.zoneEvaluated z cause).grade ≠ (s.zone z).grade) :
    s.evaluate z cause = (s.setZone z (s.zoneEvaluated z cause)).gradeChange z (s.zone z).grade
      (s.zoneEvaluated z cause).grade := by
  rw [State.evaluate, if_pos he, State.handOn, State.zone_setZone_same, if_neg h]

theorem State.evaluate_of_grade_eq {s : State} {z : ZoneId} {cause : EvalCause} (he : (s.zone z).enabled = true)
    (h : (s.zoneEvaluated z cause).grade = (s.zone z).grade) :
    s.evaluate z cause = (s.setZone z (s.zoneEvaluated z cause)).marginHandover z (s.zone z).m := by
  rw [State.evaluate, if_pos he, State.handOn, State.zone_setZone_same, if_pos h]

theorem State.zone_evaluate_self {s : State} {z : ZoneId} (cause : EvalCause) (he : (s.zone z).enabled = true) :
    (s.evaluate z cause).zone z = s.zoneEvaluated z cause := by
  rw [State.zone_evaluate, if_pos ⟨rfl, he⟩]

/-- A zone that leaves the active grades is counted out, one that enters them in (R113). -/
theorem countActive_spec (n : Nat) (before after : Grade) :
    countActive n before after + (if before.isActive then 1 else 0) = n + (if after.isActive then 1 else 0)
      ∨ (before.isActive = true ∧ n = 0) := by
  unfold countActive
  cases before.isActive
  · simp
  · cases n with
    | zero => exact .inr ⟨rfl, rfl⟩
    | succ n => exact .inl (by simp only [if_true]; omega)

/-- The Event List's tracking touches no line. -/
theorem State.trackMargin_lines (s : State) (z : ZoneId) : (s.trackMargin z).lines = s.lines := by
  obtain ⟨e, u, r, h⟩ := s.trackMargin_eventsOnly z
  rw [h]

theorem State.marginHandover_lines_of_eq {s : State} {z : ZoneId} {before : Option Int} (h : (s.zone z).m = before) :
    (s.marginHandover z before).lines = s.lines := by
  rw [State.marginHandover, if_pos h, State.trackMargin_lines]

theorem State.outLine_marginHandover {s : State} {z : ZoneId} {before : Option Int} (h : (s.zone z).m ≠ before)
    (l : LineId) : (s.marginHandover z before).outLine l = (s.recomputeProportionalOf z).outLine l := by
  rw [State.marginHandover, if_neg h, State.outLine, State.trackMargin_lines]
  rfl

/-- Settles O39: a changed grade by `State.gradeChange_setZone`, a kept one by the PROPORTIONAL lines that are
recomputed. -/
theorem gradeChangeIsHandedOn : Obligations.GradeChangeIsHandedOn := by
  rintro s z cause t ht he
  have hzone : t.zone z = s.zoneEvaluated z cause := by rw [ht, State.zone_evaluate_self cause he]
  refine ⟨fun hne => ?changed, fun heq => ?kept⟩
  case changed =>
    rw [hzone] at hne
    have hchange := ht.trans (State.evaluate_of_grade_ne he hne)
    obtain ⟨-, -, hlines, hnotice, hevents⟩ := s.gradeChange_setZone z _ _ _ hchange
    rw [hzone]
    rw [hzone] at hevents
    refine ⟨hnotice, hevents, hlines, ?_⟩
    rw [hchange, State.gradeChange_activeZones]
    exact countActive_spec ..
  case kept =>
    have hm : ((s.setZone z (s.zoneEvaluated z cause)).zone z).m = (t.zone z).m := by
      rw [State.zone_setZone_same, hzone]
    rw [hzone] at heq
    have hkept := ht.trans (State.evaluate_of_grade_eq he heq)
    refine ⟨fun hsame => ?_, fun hne l => ?_⟩
    · rw [hkept, State.marginHandover_lines_of_eq (hm.trans hsame)]
      rfl
    · have hzones : t.zones = (s.setZone z (s.zoneEvaluated z cause)).zones := by
        rw [hkept, (State.marginHandover_handedOn ..).zones]
      rw [State.askedDuty_congr hzones, hkept, State.outLine_marginHandover (hm ▸ hne),
        State.outLine_recomputeProportionalOf]
      rfl

end Sys2Proof.Machine
end

section
/-! The Event List: its places and flags as they are searched, the number that an opening takes, and each operation by
the record it finds (R126 to R138). -/

namespace Sys2Proof.Machine

open Sys2Proof

/-! ### Searching places and flags (R126, R127, R138) -/

section Search

variable {s : State} {z : ZoneId} {p : Place} {e : EventRecord}

theorem State.findZone_eq_some : s.findZone z = some (p, e) ↔
    (s.recordAt p = some e ∧ e.zone = z) ∧ ∀ q, q < p → ∀ f, s.recordAt q = some f → f.zone ≠ z := by
  have hplace (q : Place) (r : Place × EventRecord) :
      ((s.recordAt q).bind fun f => if f.zone = z then some (q, f) else none) = some r
        ↔ q = r.1 ∧ s.recordAt q = some r.2 ∧ r.2.zone = z := by
    obtain ⟨q', f⟩ := r
    simp only [Option.bind_eq_some_iff, Option.ite_none_right_eq_some, Option.some.injEq, Prod.mk.injEq]
    constructor
    · rintro ⟨f', hf, hz, rfl, rfl⟩
      exact ⟨rfl, hf, hz⟩
    · rintro ⟨rfl, hf, hz⟩
      exact ⟨f, hf, hz, rfl, rfl⟩
  rw [State.findZone, ← Fin.findSome?_eq_findSome?_finRange, Fin.findSome?_eq_some_iff]
  constructor
  · rintro ⟨q, hq, hbefore⟩
    obtain ⟨rfl, hrec, hz⟩ := (hplace q _).mp hq
    refine ⟨⟨hrec, hz⟩, fun j hj f hf hfz => ?_⟩
    exact Option.some_ne_none _ (((hplace j (j, f)).mpr ⟨rfl, hf, hfz⟩).symm.trans (hbefore j hj))
  · rintro ⟨⟨hrec, hz⟩, hbefore⟩
    refine ⟨p, (hplace p (p, e)).mpr ⟨rfl, hrec, hz⟩, fun j hj => Option.eq_none_iff_forall_ne_some.mpr fun r hr => ?_⟩
    obtain ⟨rfl, hf, hfz⟩ := (hplace j r).mp hr
    exact hbefore _ hj _ hf hfz

theorem State.recordAt_of_findZone (h : s.findZone z = some (p, e)) : s.recordAt p = some e :=
  (State.findZone_eq_some.mp h).1.1

theorem State.zone_of_findZone (h : s.findZone z = some (p, e)) : e.zone = z := (State.findZone_eq_some.mp h).1.2

theorem State.findZone_eq_none : s.findZone z = none ↔ ∀ q f, s.recordAt q = some f → f.zone ≠ z := by
  rw [State.findZone, ← Fin.findSome?_eq_findSome?_finRange, Fin.findSome?_eq_none_iff]
  refine forall_congr' fun q => ?_
  cases s.recordAt q <;> simp

theorem State.freePlace_eq_some :
    s.freePlace = some p ↔ s.recordAt p = none ∧ ∀ q, q < p → s.recordAt q ≠ none := by
  rw [State.freePlace, ← Fin.find?_eq_find?_finRange, Fin.find?_eq_some_iff]
  simp only [Option.isNone_iff_eq_none, Bool.eq_false_iff, ne_eq]

theorem State.lowestPending_eq_some {k : EventKind} : s.lowestPending = some (z, k) ↔
    s.pendingKind z = some k ∧ ∀ y, y < z → s.pendingKind y = none := by
  rw [State.lowestPending, ← Fin.findSome?_eq_findSome?_finRange, Fin.findSome?_eq_some_iff]
  simp only [Option.map_eq_some_iff, Prod.mk.injEq, Option.map_eq_none_iff]
  constructor
  · rintro ⟨i, ⟨k', hk, rfl, rfl⟩, hbefore⟩
    exact ⟨hk, hbefore⟩
  · rintro ⟨hk, hbefore⟩
    exact ⟨z, ⟨k, hk, rfl, rfl⟩, hbefore⟩

theorem State.lowestPending_eq_none : s.lowestPending = none ↔ ∀ y, s.pendingKind y = none := by
  rw [State.lowestPending, ← Fin.findSome?_eq_findSome?_finRange, Fin.findSome?_eq_none_iff]
  simp only [Option.map_eq_none_iff]

theorem State.recordsHeld_eq_full : s.recordsHeld = 16 ↔ ∀ q, s.recordAt q ≠ none := by
  have h := List.length_filter_eq_length_iff (l := List.finRange 16) (p := fun q => (s.recordAt q).isSome)
  rw [List.length_finRange] at h
  unfold State.recordsHeld
  simpa only [List.mem_finRange, true_implies, Option.isSome_iff_ne_none] using h

theorem State.recordsHeld_le (s : State) : s.recordsHeld ≤ 16 :=
  (List.length_filter_le ..).trans (List.length_finRange ..).le

/-- With fewer than sixteen records there is a lowest free place (R127). -/
theorem State.exists_freePlace (h : s.recordsHeld < 16) : ∃ p, s.freePlace = some p := by
  cases hp : s.freePlace with
  | some p => exact ⟨p, rfl⟩
  | none =>
    refine absurd (State.recordsHeld_eq_full.mpr fun q hq => ?_) h.ne
    have hnot := List.find?_eq_none.mp hp q (List.mem_finRange q)
    exact hnot (by rw [hq]; rfl)

end Search

/-! ### A record replaced in its place -/

section Replace

variable {s t : State} {z : ZoneId} {p : Place} {e f : EventRecord}

/-- What a replaced record leaves of the Event List. -/
theorem State.events_of_setRecord (h : t.events = (s.setRecord p f).events) :
    t.events.order = s.events.order ∧ t.events.nextNumber = s.events.nextNumber
      ∧ t.events.pending = s.events.pending ∧ (∀ q, q ≠ p → t.place q = s.place q)
      ∧ t.place p = ⟨some f, (s.place p).last⟩ := by
  unfold State.place
  rw [h]
  exact ⟨rfl, rfl, rfl, fun q hq => State.place_setPlace_of_ne s _ hq, State.place_setPlace_same ..⟩

theorem State.recordAt_setRecord_same : (s.setRecord p f).recordAt p = some f :=
  congrArg PlaceRecord.record (State.place_setPlace_same ..)

theorem State.recordAt_setRecord_of_ne {q : Place} (h : q ≠ p) : (s.setRecord p f).recordAt q = s.recordAt q :=
  congrArg PlaceRecord.record (State.place_setPlace_of_ne s _ h)

theorem State.findZone_setRecord (h : s.findZone z = some (p, e)) (hf : f.zone = z) :
    (s.setRecord p f).findZone z = some (p, f) := by
  obtain ⟨-, hbefore⟩ := State.findZone_eq_some.mp h
  refine State.findZone_eq_some.mpr ⟨⟨State.recordAt_setRecord_same, hf⟩, fun q hq g hg => ?_⟩
  rw [State.recordAt_setRecord_of_ne hq.ne] at hg
  exact hbefore q hq g hg

theorem State.setRecord_self (h : s.recordAt p = some e) : s.setRecord p e = s := by
  have hplace : { s.place p with record := some e } = s.place p := by rw [← h]; rfl
  rw [State.setRecord, hplace, State.setPlace, State.place, Table.set_get_self]

theorem State.setRecord_setRecord (s : State) (p : Place) (e f : EventRecord) :
    (s.setRecord p e).setRecord p f = s.setRecord p f := by
  have hlast : { (s.setRecord p e).place p with record := some f } = { s.place p with record := some f } := by
    rw [State.setRecord, State.place_setPlace_same]
  rw [State.setRecord, hlast]
  show { s with events := { s.events with places := (s.events.places.set p _).set p _ } } = _
  rw [Table.set_set]
  rfl

theorem State.raise_findZone (s : State) (src : Source) (u : Urgency) (z : ZoneId) :
    (s.raise src u).findZone z = s.findZone z := rfl

/-- Raising a source and replacing a record touch different parts. -/
theorem State.raise_setRecord (s : State) (src : Source) (u : Urgency) (p : Place) (e : EventRecord) :
    (s.raise src u).setRecord p e = (s.setRecord p e).raise src u := rfl

end Replace

/-! ### Tracking (R134) -/

section Track

variable {s : State} {z : ZoneId} {p : Place} {e : EventRecord}

/-- A record that tracks the zone's margin. -/
def EventRecord.tracked (e : EventRecord) (m : Option Int) : EventRecord := { e with worst := e.worstAfter m }

theorem EventRecord.worstAfter_some (e : EventRecord) (m : Int) : e.worstAfter (some m) = lesserMargin e.worst m := by
  unfold EventRecord.worstAfter lesserMargin
  cases e.worst <;> rfl

theorem State.trackMargin_of_no_record (h : s.findZone z = none) : s.trackMargin z = s := by
  rw [State.trackMargin, h]

theorem State.trackMargin_of_cleared (h : s.findZone z = some (p, e)) (hc : e.state = .cleared) :
    s.trackMargin z = s := by
  rw [State.trackMargin, h]
  cases (s.zone z).m with
  | none => rfl
  | some m => exact if_pos hc

theorem State.trackMargin_of_record (h : s.findZone z = some (p, e)) (hc : e.state ≠ .cleared) :
    s.trackMargin z = s.setRecord p (e.tracked (s.zone z).m) := by
  rw [State.trackMargin, h]
  cases hm : (s.zone z).m with
  | none => exact (State.setRecord_self (State.recordAt_of_findZone h)).symm
  | some m =>
    rw [EventRecord.tracked, EventRecord.worstAfter_some]
    exact if_neg hc

end Track

/-! ### The number that an opening takes (R128) -/

/-- The numbers at and after n, as long as the counter does not come round. -/
theorem succNumber_iterate (n j : Nat) (hj : j < 65535) : succNumber^[j] n =
    if j = 0 then n else if n + j ≤ 65535 then n + j else if 65535 ≤ n then j else n + j - 65535 := by
  induction j with
  | zero => rfl
  | succ j ih =>
    have hj' := ih (by omega)
    rw [Function.iterate_succ_apply', if_neg (Nat.succ_ne_zero j)]
    generalize succNumber^[j] n = x at hj' ⊢
    unfold succNumber
    split_ifs at hj' ⊢ <;> omega

theorem succNumber_iterate_inj (n : Nat) {i j : Nat} (hi : i < 16) (hj : j < 16)
    (h : succNumber^[i] n = succNumber^[j] n) : i = j := by
  rw [succNumber_iterate n i (by omega), succNumber_iterate n j (by omega)] at h
  split_ifs at h <;> omega

/-- The search for a free number: it stops at the first that is not held, or has taken all its steps. -/
theorem freeNumber_spec (held : List Nat) (fuel n : Nat) :
    ∃ k, k ≤ fuel ∧ freeNumber held fuel n = succNumber^[k] n ∧ (∀ j, j < k → succNumber^[j] n ∈ held)
      ∧ (k < fuel → succNumber^[k] n ∉ held) := by
  induction fuel generalizing n with
  | zero => exact ⟨0, le_refl 0, rfl, fun j hj => absurd hj (Nat.not_lt_zero j), fun h => absurd h (Nat.lt_irrefl 0)⟩
  | succ fuel ih =>
    unfold freeNumber
    by_cases hn : n ∈ held
    · rw [if_pos (by simpa using hn)]
      obtain ⟨k, hk, heq, hbefore, hfree⟩ := ih (succNumber n)
      refine ⟨k + 1, by omega, heq, fun j hj => ?_, fun h => hfree (by omega)⟩
      cases j with
      | zero => exact hn
      | succ j => exact hbefore j (by omega)
    · rw [if_neg (by simpa using hn)]
      exact ⟨0, Nat.zero_le _, rfl, fun j hj => absurd hj (Nat.not_lt_zero j), fun _ => hn⟩

theorem State.mem_numbersHeld (s : State) (n : Nat) :
    n ∈ s.numbersHeld ↔ ∃ q e, s.recordAt q = some e ∧ e.number = n := by
  simp [State.numbersHeld]

theorem State.length_numbersHeld (s : State) : s.numbersHeld.length = s.recordsHeld := by
  rw [State.numbersHeld, State.recordsHeld, List.length_filterMap_eq_countP, List.countP_eq_length_filter]
  simp only [Option.isSome_map]

/-- With fewer than sixteen records the search ends at a number that none of them holds (R128). -/
theorem State.numberTaken_numberToTake {s : State} (h : s.recordsHeld < 16) : s.numberTaken s.numberToTake := by
  obtain ⟨k, hk, heq, hbefore, hfree⟩ := freeNumber_spec s.numbersHeld 16 s.events.nextNumber
  have hlt : k < 16 := by
    refine lt_of_le_of_ne hk ?_
    rintro rfl
    have hnodup : ((List.range 16).map fun j => succNumber^[j] s.events.nextNumber).Nodup := by
      refine List.Nodup.map_on (fun i hi j hj hij => ?_) List.nodup_range
      exact succNumber_iterate_inj _ (List.mem_range.mp hi) (List.mem_range.mp hj) hij
    have hsub : ((List.range 16).map fun j => succNumber^[j] s.events.nextNumber) ⊆ s.numbersHeld := by
      intro n hn
      obtain ⟨j, hj, rfl⟩ := List.mem_map.mp hn
      exact hbefore j (List.mem_range.mp hj)
    have hlen := (List.subperm_of_subset hnodup hsub).length_le
    rw [List.length_map, List.length_range, State.length_numbersHeld] at hlen
    omega
  refine ⟨k, heq, fun q e he hnum => hfree hlt ?_, fun j hj => (s.mem_numbersHeld _).mp (hbefore j hj)⟩
  exact (s.mem_numbersHeld _).mpr ⟨q, e, he, hnum.trans heq⟩

/-- The number taken depends on the counter and the records alone. -/
theorem State.numberTaken_congr {s t : State} {n : Nat} (hcounter : t.events.nextNumber = s.events.nextNumber)
    (hrecords : ∀ q, t.recordAt q = s.recordAt q) (h : s.numberTaken n) : t.numberTaken n := by
  simpa only [State.numberTaken, hcounter, hrecords] using h

/-! ### Opening (R127, R130, R131) -/

theorem State.capture_eq (s : State) (z : ZoneId) : s.capture z =
    ((allAddrs.filter fun a => (s.probe a).config.isSome && s.map.lookup a == some z).take
        (s.zone z).cfg.depth).filterMap (fun a => (s.probe a).config.map fun k =>
      { addr := a, kind := k.kind, temp := (s.probe a).reading.map (·.temp), rh := (s.probe a).reading.bind (·.rh),
        age := (s.probe a).reading.map fun x => s.uptime - x.taken, valid := s.valid a,
        tainted := s.taintedAt a }) := by
  unfold State.capture
  refine congrArg (List.filterMap · _) (funext fun a => ?_)
  rw [State.kindAt, Option.map_map]
  rfl

/-- What an opening in the lowest free place does to the Event List, and its notice. -/
theorem State.openRecord_spec {s t : State} {z : ZoneId} {k : EventKind} {late : Bool} {p : Place}
    (hp : s.freePlace = some p) (ht : t = s.openRecord z k late) :
    t.place p = ⟨some (s.newRecord z k late), (s.place p).last⟩ ∧ (∀ q, q ≠ p → t.place q = s.place q)
      ∧ t.events.order = s.events.order ++ [p] ∧ t.events.nextNumber = succNumber s.numberToTake
      ∧ t.events.pending = s.events.pending ∧ (s.port.mask.event = true → .event p ∈ t.port.urgent) := by
  rw [State.openRecord, hp] at ht
  rw [ht]
  exact ⟨Table.get_set_same .., fun q hq => Table.get_set_of_ne _ _ hq, rfl, rfl, rfl,
    fun hmask => s.port.mem_raise_urgent (.event p) hmask⟩

/-- A record just opened has the zone's margin for its worst, so that tracking leaves it as it is. -/
theorem State.trackMargin_openRecord {s : State} {z : ZoneId} (k : EventKind) (late : Bool)
    (hnone : s.findZone z = none) (hroom : s.recordsHeld < 16) :
    (s.openRecord z k late).trackMargin z = s.openRecord z k late := by
  obtain ⟨p, hp⟩ := State.exists_freePlace hroom
  obtain ⟨hplace, hother, -⟩ := State.openRecord_spec hp (rfl : _ = s.openRecord z k late)
  have hrec : (s.openRecord z k late).recordAt p = some (s.newRecord z k late) := by rw [State.recordAt, hplace]
  have hfind : (s.openRecord z k late).findZone z = some (p, s.newRecord z k late) := by
    refine State.findZone_eq_some.mpr ⟨⟨hrec, rfl⟩, fun q hq f hf => ?_⟩
    rw [State.recordAt, hother q hq.ne] at hf
    exact State.findZone_eq_none.mp hnone q f hf
  have hzone : (s.openRecord z k late).zone z = s.zone z := by
    rw [State.zone, (s.openRecord_eventsOnly z k late).handedOn.zones]
    rfl
  have hworst : (s.newRecord z k late).worstAfter (s.zone z).m = (s.zone z).m := by
    unfold EventRecord.worstAfter
    rw [show (s.newRecord z k late).worst = (s.zone z).m from rfl]
    cases (s.zone z).m <;> simp
  have htracked : (s.newRecord z k late).tracked (s.zone z).m = s.newRecord z k late := by
    rw [EventRecord.tracked, hworst]
    rfl
  rw [State.trackMargin_of_record hfind nofun, hzone, htracked, State.setRecord_self hrec]

end Sys2Proof.Machine
end

section
/-! The Event List's part in a grade change, by the grade after and the record it finds (R129 to R138), and in an
evaluation that leaves the grade (R105, R134). -/

namespace Sys2Proof.Machine

open Sys2Proof

/-! ### A rise to ALARM or WET (R129, R130, R132 to R134) -/

section Rise

variable {s t : State} {z : ZoneId} {g : Grade} {p : Place} {e : EventRecord}

theorem State.eventGradeChange_rise (hg : g = .alarm ∨ g = .wet) :
    s.eventGradeChange z g = (s.eventRise z (g == .wet)).trackMargin z := by
  obtain rfl | rfl := hg <;> rfl

theorem riseKind_beq (g : Grade) : riseKind (g == .wet) = if g = .wet then .water else .condensation := by
  simp only [riseKind, beq_iff_eq]

/-- Without a record and with a free place a record is opened (R130). -/
theorem State.eventGradeChange_opens (hg : g = .alarm ∨ g = .wet) (hnone : s.findZone z = none)
    (hroom : s.recordsHeld < 16) :
    s.eventGradeChange z g = s.openRecord z (if g = .wet then .water else .condensation) false := by
  have hrise : s.eventRise z (g == .wet) = s.openRecord z (riseKind (g == .wet)) false := by
    rw [State.eventRise, hnone]
    exact if_pos hroom
  rw [State.eventGradeChange_rise hg, hrise, State.trackMargin_openRecord _ _ hnone hroom, riseKind_beq]

/-- Without a record and with every place held the zone's pending flag is set (R133). -/
theorem State.eventGradeChange_pends (hg : g = .alarm ∨ g = .wet) (hnone : s.findZone z = none)
    (hfull : s.recordsHeld = 16) :
    s.eventGradeChange z g =
      s.setPendingKind z (some (if g = .wet then .water else (s.pendingKind z).getD .condensation)) := by
  have hkept : s.setPendingKind z (s.pendingKind z) = s := by
    rw [State.setPendingKind, State.pendingKind, Table.set_get_self]
  have hrise : s.eventRise z (g == .wet) =
      s.setPendingKind z (some (if g = .wet then .water else (s.pendingKind z).getD .condensation)) := by
    unfold State.eventRise
    rw [hnone]
    dsimp only
    rw [if_neg (by omega), riseKind_beq]
    cases hk : s.pendingKind z with
    | none => rfl
    | some k =>
      dsimp only [Option.getD_some]
      by_cases hw : g = .wet
      · rw [if_pos (beq_iff_eq.mpr hw), if_pos hw]
      · rw [if_neg (fun h => hw (beq_iff_eq.mp h)), if_neg hw, ← hk, hkept]
  rw [State.eventGradeChange_rise hg, hrise]
  exact State.trackMargin_of_no_record hnone

/-- A CLEARED record after its zone has risen: reopened, and tracking again (R132, R134). -/
def EventRecord.risenAgain (e : EventRecord) (g : Grade) (m : Option Int) : EventRecord :=
  { e with state := .opened, reEscalations := min (e.reEscalations + 1) 255, clearedAt := none, cause := none,
           kind := if g = .wet then .water else e.kind, worst := e.worstAfter m }

theorem State.eventGradeChange_reopens (hg : g = .alarm ∨ g = .wet) (h : s.findZone z = some (p, e))
    (hc : e.state = .cleared) :
    s.eventGradeChange z g = (s.setRecord p (e.risenAgain g (s.zone z).m)).raise (.event p) .urgent := by
  have hrise : s.eventRise z (g == .wet) = (s.setRecord p (e.reopened (g == .wet))).raise (.event p) .urgent := by
    rw [State.eventRise, h]
    dsimp only
    rw [hc]
  have hfind : (s.eventRise z (g == .wet)).findZone z = some (p, e.reopened (g == .wet)) := by
    rw [hrise, State.raise_findZone]
    exact State.findZone_setRecord h (show e.zone = z from State.zone_of_findZone h)
  have hrecord : (e.reopened (g == .wet)).tracked (s.zone z).m = e.risenAgain g (s.zone z).m := by
    simp only [EventRecord.tracked, EventRecord.reopened, EventRecord.risenAgain, EventRecord.worstAfter, beq_iff_eq]
  rw [State.eventGradeChange_rise hg, State.trackMargin_of_record hfind nofun, hrise, State.raise_setRecord,
    State.setRecord_setRecord, ← hrecord]
  rfl

/-- An OPEN or ACKED record after its zone has risen: turned to WATER in WET, and tracking (R129, R134). -/
def EventRecord.risen (e : EventRecord) (g : Grade) (m : Option Int) : EventRecord :=
  { e with kind := if g = .wet then .water else e.kind, worst := e.worstAfter m }

/-- A turn to WATER is raised, and nothing else of an OPEN or ACKED record (R129). -/
theorem State.eventGradeChange_rises (hg : g = .alarm ∨ g = .wet) (h : s.findZone z = some (p, e))
    (hc : e.state ≠ .cleared) :
    s.eventGradeChange z g =
      if g = .wet ∧ e.kind = .condensation then
        (s.setRecord p (e.risen g (s.zone z).m)).raise (.event p) .urgent
      else s.setRecord p (e.risen g (s.zone z).m) := by
  obtain ⟨⟨hrec, hzone⟩, -⟩ := State.findZone_eq_some.mp h
  have hrise : s.eventRise z (g == .wet) =
      if g = .wet ∧ e.kind = .condensation then
        (s.setRecord p { e with kind := .water }).raise (.event p) .urgent
      else s := by
    rw [State.eventRise, h]
    simp only [Bool.and_eq_true, beq_iff_eq]
    cases hs : e.state with
    | cleared => exact absurd hs hc
    | opened => rfl
    | acked => rfl
  rw [State.eventGradeChange_rise hg, hrise]
  by_cases hturn : g = .wet ∧ e.kind = .condensation
  · have hfind : ((s.setRecord p { e with kind := .water }).raise (.event p) .urgent).findZone z =
        some (p, { e with kind := .water }) := State.findZone_setRecord h hzone
    rw [if_pos hturn, if_pos hturn, State.trackMargin_of_record hfind hc, State.raise_setRecord,
      State.setRecord_setRecord, EventRecord.risen, if_pos hturn.1]
    rfl
  · have hkind : (if g = .wet then .water else e.kind) = e.kind := by
      by_cases hw : g = .wet
      · rw [if_pos hw]
        cases hk : e.kind with
        | water => rfl
        | condensation => exact absurd ⟨hw, hk⟩ hturn
      · exact if_neg hw
    rw [if_neg hturn, if_neg hturn, State.trackMargin_of_record h hc, EventRecord.risen, hkind]
    rfl

end Rise

/-! ### A fall to CLEAR or WATCH, or to OFF (R136 to R138) -/

section Fall

variable {s t : State} {z : ZoneId} {g : Grade} {p : Place} {e : EventRecord}

/-- The cause with which a fall clears a record (R136, R137). -/
def fallCause (g : Grade) : ClearCause := if g = .off then .zoneOff else .gradeFell

/-- A record as a fall finds it: it has tracked the margin, but for a zone turned off (R134, R137). -/
def EventRecord.fallen (e : EventRecord) (g : Grade) (m : Option Int) : EventRecord :=
  { e with worst := if g = .off then e.worst else e.worstAfter m }

theorem State.eventGradeChange_falls_without (hg : g = .clear ∨ g = .watch ∨ g = .off)
    (h : s.findZone z = none ∨ ∃ p e, s.findZone z = some (p, e) ∧ e.state = .cleared) :
    s.eventGradeChange z g = s.setPendingKind z none := by
  have htrack : s.trackMargin z = s := by
    obtain h | ⟨p, e, h, hc⟩ := h
    exacts [State.trackMargin_of_no_record h, State.trackMargin_of_cleared h hc]
  have hfall (cause : ClearCause) : s.eventFall z cause = s.setPendingKind z none := by
    have hfind : (s.setPendingKind z none).findZone z = s.findZone z := rfl
    unfold State.eventFall
    dsimp only
    rw [hfind]
    obtain h | ⟨p, e, h, hc⟩ := h
    · rw [h]
    · rw [h]
      dsimp only
      rw [hc]
  obtain rfl | rfl | rfl := hg
  · exact (congrArg (State.eventFall · z .gradeFell) htrack).trans (hfall _)
  · exact (congrArg (State.eventFall · z .gradeFell) htrack).trans (hfall _)
  · exact hfall _

/-- A fall with an OPEN or ACKED record, from the record that has tracked. -/
theorem State.eventGradeChange_falls (hg : g = .clear ∨ g = .watch ∨ g = .off) (h : s.findZone z = some (p, e))
    (hc : e.state ≠ .cleared) :
    s.eventGradeChange z g = (s.setRecord p (e.fallen g (s.zone z).m)).eventFall z (fallCause g) := by
  obtain rfl | rfl | rfl := hg
  · exact congrArg (State.eventFall · z .gradeFell) (State.trackMargin_of_record h hc)
  · exact congrArg (State.eventFall · z .gradeFell) (State.trackMargin_of_record h hc)
  · exact congrArg (State.eventFall · z .zoneOff) (State.setRecord_self (State.recordAt_of_findZone h)).symm

/-- An OPEN record is cleared (R136, R137). -/
theorem State.eventGradeChange_clears (hg : g = .clear ∨ g = .watch ∨ g = .off) (h : s.findZone z = some (p, e))
    (ho : e.state = .opened) :
    s.eventGradeChange z g = ((s.setPendingKind z none).setRecord p
      ((e.fallen g (s.zone z).m).clearedBy (fallCause g) s.uptime)).raise (.event p) .routine := by
  have hfind : ((s.setRecord p (e.fallen g (s.zone z).m)).setPendingKind z none).findZone z =
      some (p, e.fallen g (s.zone z).m) :=
    State.findZone_setRecord h (show e.zone = z from State.zone_of_findZone h)
  have hopen : (e.fallen g (s.zone z).m).state = .opened := ho
  rw [State.eventGradeChange_falls hg h (by simp [ho])]
  unfold State.eventFall
  dsimp only
  rw [hfind]
  dsimp only
  rw [hopen]
  exact congrArg (State.raise · (.event p) .routine) ((s.setPendingKind z none).setRecord_setRecord p _ _)

/-- The state in which a removed record has left its place and the order, and its zone's flag has been dropped, before
a pending zone is served (R137, R138). -/
def State.removedFrom (s : State) (z : ZoneId) (p : Place) (e : EventRecord) : State :=
  (s.setPendingKind z none).setEvents ((s.setPendingKind z none).events.dropRecord p e)

/-- An ACKED record is removed (R136, R137). -/
theorem State.eventGradeChange_removes (hg : g = .clear ∨ g = .watch ∨ g = .off) (h : s.findZone z = some (p, e))
    (ha : e.state = .acked) :
    s.eventGradeChange z g = (s.removedFrom z p e).servePending.raise (.event p) .routine := by
  have hfind : ((s.setRecord p (e.fallen g (s.zone z).m)).setPendingKind z none).findZone z =
      some (p, e.fallen g (s.zone z).m) :=
    State.findZone_setRecord h (show e.zone = z from State.zone_of_findZone h)
  have hacked : (e.fallen g (s.zone z).m).state = .acked := ha
  have hdropped : ((s.setRecord p (e.fallen g (s.zone z).m)).setPendingKind z none).events.dropRecord p
      (e.fallen g (s.zone z).m) = (s.setPendingKind z none).events.dropRecord p e :=
    congrArg (fun places => { (s.setPendingKind z none).events.dropRecord p e with places := places })
      (Table.set_set ..)
  rw [State.eventGradeChange_falls hg h (by simp [ha])]
  unfold State.eventFall
  dsimp only
  rw [hfind]
  dsimp only
  rw [hacked]
  dsimp only
  rw [State.removeRecord, hdropped]
  rfl

/-- The state in which a pending zone is served: the one place is free and every other is as it was. -/
theorem State.removedFrom_spec (s : State) (z : ZoneId) (p : Place) (e : EventRecord) :
    (s.removedFrom z p e).place p = ⟨none, some (e.number, e.zone)⟩
      ∧ (∀ q, q ≠ p → (s.removedFrom z p e).place q = s.place q)
      ∧ (s.removedFrom z p e).pendingKind z = none
      ∧ ∀ y, y ≠ z → (s.removedFrom z p e).pendingKind y = s.pendingKind y :=
  ⟨Table.get_set_same .., fun _ hq => Table.get_set_of_ne _ _ hq, Table.get_set_same ..,
    fun _ hy => Table.get_set_of_ne _ _ hy⟩

/-- With no other zone pending none is served (R138). -/
theorem State.servePending_of_none (h : ∀ y, s.pendingKind y = none) : s.servePending = s := by
  rw [State.servePending, State.lowestPending_eq_none.mpr h]

/-- The pending zone with the lowest number is served (R138). -/
theorem State.servePending_of_lowest {y : ZoneId} {k : EventKind} (hk : s.pendingKind y = some k)
    (hlow : ∀ x, x < y → s.pendingKind x = none) :
    s.servePending = (s.setPendingKind y none).openRecord y k true := by
  rw [State.servePending, State.lowestPending_eq_some.mpr ⟨hk, hlow⟩]

/-- Of a list with every place held the place of a removed record is the one that is free (R127, R138). -/
theorem State.removedFrom_freePlace (hfull : s.recordsHeld = 16) (z : ZoneId) (p : Place) (e : EventRecord) :
    (s.removedFrom z p e).freePlace = some p ∧ (s.removedFrom z p e).recordsHeld < 16 := by
  obtain ⟨hplace, hother, -⟩ := s.removedFrom_spec z p e
  have hnone : (s.removedFrom z p e).recordAt p = none := by rw [State.recordAt, hplace]
  refine ⟨State.freePlace_eq_some.mpr ⟨hnone, fun q hq => ?_⟩, ?_⟩
  · rw [State.recordAt, hother q hq.ne]
    exact State.recordsHeld_eq_full.mp hfull q
  · exact lt_of_le_of_ne (State.recordsHeld_le _) fun h => State.recordsHeld_eq_full.mp h p hnone

/-- The state in which the pending zone y is given its record: it has lost its flag too (R138). -/
def State.servedFrom (s : State) (z : ZoneId) (p : Place) (e : EventRecord) (y : ZoneId) : State :=
  (s.removedFrom z p e).setPendingKind y none

/-- A zone with a record is not pending (R133). -/
theorem State.eventsSound.pendingKind_of_record (hs : s.eventsSound) (h : s.findZone z = some (p, e)) :
    s.pendingKind z = none := by
  cases hz : s.pendingKind z with
  | none => rfl
  | some k => exact absurd (h.symm.trans (hs.flags z (by rw [hz]; rfl)).2) (Option.some_ne_none _)

theorem State.servedFrom_pendingKind (hz : s.pendingKind z = none) (y x : ZoneId) :
    (s.servedFrom z p e y).pendingKind x = if x = y then none else s.pendingKind x := by
  obtain ⟨-, -, hflag, hflags⟩ := s.removedFrom_spec z p e
  unfold State.servedFrom
  split
  · next hxy => rw [hxy, State.pendingKind_setPendingKind_same]
  · next hxy =>
    rw [State.pendingKind_setPendingKind_of_ne _ _ hxy]
    by_cases hxz : x = z
    · rw [hxz, hflag, hz]
    · exact hflags x hxz

theorem State.servedFrom_numberTaken (hroom : (s.removedFrom z p e).recordsHeld < 16) (y : ZoneId) :
    (s.setPlace p ⟨none, none⟩).numberTaken (s.servedFrom z p e y).numberToTake := by
  obtain ⟨hplace, hother, -⟩ := s.removedFrom_spec z p e
  refine State.numberTaken_congr (s := s.servedFrom z p e y) rfl (fun q => ?_)
    (State.numberTaken_numberToTake (s := s.servedFrom z p e y) hroom)
  show ((s.setPlace p ⟨none, none⟩).place q).record = ((s.removedFrom z p e).place q).record
  by_cases hq : q = p
  · rw [hq, State.place_setPlace_same, hplace]
  · rw [State.place_setPlace_of_ne _ _ hq, hother q hq]

/-- The removal of an ACKED record opens one for the pending zone with the lowest number (R138). -/
theorem State.eventGradeChange_opens_pending (hg : g = .clear ∨ g = .watch ∨ g = .off)
    (h : s.findZone z = some (p, e)) (ha : e.state = .acked) (hz : s.pendingKind z = none) {y : ZoneId} {k : EventKind}
    (hk : s.pendingKind y = some k) (hlow : ∀ x, x < y → s.pendingKind x = none) :
    s.eventGradeChange z g = ((s.servedFrom z p e y).openRecord y k true).raise (.event p) .routine := by
  obtain ⟨-, -, hflag, hflags⟩ := s.removedFrom_spec z p e
  have hyz : y ≠ z := fun hyz => Option.some_ne_none k (hk.symm.trans (hyz ▸ hz))
  rw [State.eventGradeChange_removes hg h ha, State.servePending_of_lowest ((hflags y hyz).trans hk) fun x hx => ?_]
  · rfl
  · by_cases hxz : x = z
    · rw [hxz, hflag]
    · rw [hflags x hxz, hlow x hx]

/-- The record that a pending zone is given in the place of the removed one (R138). -/
theorem State.eventGradeChange_serves (hg : g = .clear ∨ g = .watch ∨ g = .off) (h : s.findZone z = some (p, e))
    (ha : e.state = .acked) (hs : s.eventsSound) {y : ZoneId} {k : EventKind} (hk : s.pendingKind y = some k)
    (hlow : ∀ x, x < y → s.pendingKind x = none) (ht : t = s.eventGradeChange z g) {n : Nat}
    (hn : n = (s.servedFrom z p e y).numberToTake) :
    (∀ q, q ≠ p → t.place q = s.place q) ∧ (s.setPlace p ⟨none, none⟩).numberTaken n
      ∧ t.place p = ⟨some ((s.servedFrom z p e y).newRecord y k true), some (e.number, z)⟩
      ∧ t.events.order = s.events.order.erase p ++ [p] ∧ t.events.nextNumber = succNumber n
      ∧ t.pendingKind y = none ∧ (∀ x, x ≠ y → t.pendingKind x = s.pendingKind x)
      ∧ (s.port.mask.event = true → .event p ∈ t.port.urgent) := by
  obtain ⟨hfree, hroom⟩ := s.removedFrom_freePlace (hs.flags y (by rw [hk]; rfl)).1 z p e
  obtain ⟨hplace, hother, -⟩ := s.removedFrom_spec z p e
  have hz := hs.pendingKind_of_record h
  obtain ⟨hrec, hrest, horder, hnumber, hpending, hurgent⟩ :=
    State.openRecord_spec (s := s.servedFrom z p e y) hfree (rfl : _ = (s.servedFrom z p e y).openRecord y k true)
  have hflags (x : ZoneId) : t.pendingKind x = if x = y then none else s.pendingKind x := by
    rw [← State.servedFrom_pendingKind (p := p) (e := e) hz, ht,
      State.eventGradeChange_opens_pending hg h ha hz hk hlow]
    exact congrArg (Table.get · x) hpending
  rw [State.eventGradeChange_opens_pending hg h ha hz hk hlow] at ht
  have hlast : (s.servedFrom z p e y).place p = ⟨none, some (e.number, z)⟩ := by
    rw [← State.zone_of_findZone h]
    exact hplace
  refine ⟨fun q hq => ?_, hn ▸ State.servedFrom_numberTaken hroom y, ?_, ?_, ?_, (hflags y).trans (if_pos rfl),
    fun x hx => (hflags x).trans (if_neg hx), fun hmask => ?_⟩ <;> rw [ht]
  · exact (hrest q hq).trans (hother q hq)
  · exact hrec.trans (by rw [hlast])
  · exact horder
  · exact hn ▸ hnumber
  · exact Port.mem_urgent_raise_of_mem _ _ _ (hurgent hmask)

theorem State.pendingKind_openRecord (s : State) (y : ZoneId) (k : EventKind) (late : Bool) (x : ZoneId) :
    (s.openRecord y k late).pendingKind x = s.pendingKind x := by
  unfold State.openRecord
  split <;> rfl

/-- A pending service sets no flag (R138). -/
theorem State.servePending_no_flag (h : s.pendingKind z = none) : s.servePending.pendingKind z = none := by
  unfold State.servePending
  split
  · next y k _ =>
    rw [State.pendingKind_openRecord]
    by_cases hy : z = y
    · rw [hy]
      exact State.pendingKind_setPendingKind_same ..
    · rw [State.pendingKind_setPendingKind_of_ne _ _ hy, h]
  · exact h

/-- A fall drops the zone's pending flag, and gives no zone another (R136 to R138). -/
theorem State.eventGradeChange_drops_flag (hg : g = .clear ∨ g = .watch ∨ g = .off) :
    (s.eventGradeChange z g).pendingKind z = none := by
  cases h : s.findZone z with
  | none =>
    rw [State.eventGradeChange_falls_without hg (.inl h)]
    exact State.pendingKind_setPendingKind_same ..
  | some r =>
    obtain ⟨p, e⟩ := r
    cases hs : e.state with
    | cleared =>
      rw [State.eventGradeChange_falls_without hg (.inr ⟨p, e, h, hs⟩)]
      exact State.pendingKind_setPendingKind_same ..
    | opened =>
      rw [State.eventGradeChange_clears hg h hs]
      exact State.pendingKind_setPendingKind_same ..
    | acked =>
      obtain ⟨-, -, hflag, -⟩ := s.removedFrom_spec z p e
      rw [State.eventGradeChange_removes hg h hs]
      exact State.servePending_no_flag hflag

/-- An opening changes no record but that which it writes. -/
theorem State.recordAt_openRecord (s : State) (y : ZoneId) (k : EventKind) (late : Bool) (q : Place) :
    (s.openRecord y k late).recordAt q = s.recordAt q
      ∨ (s.openRecord y k late).recordAt q = some (s.newRecord y k late) := by
  cases hp : s.freePlace with
  | none =>
    rw [State.openRecord, hp]
    exact .inl rfl
  | some p =>
    obtain ⟨hrec, hother, -⟩ := State.openRecord_spec hp (rfl : _ = s.openRecord y k late)
    by_cases hq : q = p
    · exact .inr (by rw [hq, State.recordAt, hrec])
    · exact .inl (congrArg PlaceRecord.record (hother q hq))

/-- A pending service changes no record but that which it writes for a pending zone. -/
theorem State.recordAt_servePending (s : State) (q : Place) :
    s.servePending.recordAt q = s.recordAt q
      ∨ ∃ f, s.servePending.recordAt q = some f ∧ s.pendingKind f.zone ≠ none := by
  cases hl : s.lowestPending with
  | none =>
    rw [State.servePending, hl]
    exact .inl rfl
  | some r =>
    obtain ⟨y, k⟩ := r
    obtain ⟨hk, hlow⟩ := State.lowestPending_eq_some.mp hl
    rw [State.servePending_of_lowest hk hlow]
    refine ((s.setPendingKind y none).recordAt_openRecord y k true q).imp id fun h => ⟨_, h, ?_⟩
    show s.pendingKind y ≠ none
    rw [hk]
    exact Option.some_ne_none k

/-- No record of the zone stands in the place of its removed one: a pending zone that is served is another (R138). -/
theorem State.eventGradeChange_removed_zone (hg : g = .clear ∨ g = .watch ∨ g = .off)
    (h : s.findZone z = some (p, e)) (ha : e.state = .acked) {f : EventRecord}
    (hf : (s.eventGradeChange z g).recordAt p = some f) : f.zone ≠ z := by
  obtain ⟨hplace, -, hflag, -⟩ := s.removedFrom_spec z p e
  rw [State.eventGradeChange_removes hg h ha] at hf
  have hserved : (s.removedFrom z p e).servePending.recordAt p = some f := hf
  obtain hsame | ⟨f', hf', hpending⟩ := (s.removedFrom z p e).recordAt_servePending p
  · have hnone : (s.removedFrom z p e).recordAt p = none := by rw [State.recordAt, hplace]
    exact absurd ((hserved.symm.trans hsame).trans hnone) (Option.some_ne_none f)
  · obtain rfl : f = f' := Option.some.inj (hserved.symm.trans hf')
    rintro rfl
    exact hpending hflag

/-- A fall with an OPEN or ACKED record raises its place (R136, R137). -/
theorem State.eventGradeChange_raises (hg : g = .clear ∨ g = .watch ∨ g = .off) (h : s.findZone z = some (p, e))
    (hc : e.state ≠ .cleared) (hmask : s.port.mask.event = true) :
    .event p ∈ (s.eventGradeChange z g).port.urgent ++ (s.eventGradeChange z g).port.routine := by
  cases hs : e.state with
  | cleared => exact absurd hs hc
  | opened =>
    rw [State.eventGradeChange_clears hg h hs]
    exact s.port.mem_raise (.event p) .routine hmask
  | acked =>
    rw [State.eventGradeChange_removes hg h hs]
    obtain ⟨l, u, r, hserved⟩ := (s.removedFrom z p e).servePending_eventsOnly
    refine Port.mem_raise _ (.event p) .routine ?_
    rw [hserved]
    exact hmask

end Fall

/-! ### STALE, and a grade that stays (R105, R134, R135) -/

theorem State.markDataLost_of_no_record {s : State} {z : ZoneId} (h : s.findZone z = none) : s.markDataLost z = s := by
  rw [State.markDataLost, h]

theorem State.markDataLost_of_record {s : State} {z : ZoneId} {p : Place} {e : EventRecord}
    (h : s.findZone z = some (p, e)) :
    s.markDataLost z = if e.state = .cleared then s else s.setRecord p { e with dataLost := true } := by
  rw [State.markDataLost, h]

/-- Before the Event List takes the margin of a zone whose grade stays, only lines have been touched. -/
theorem State.marginHandover_spec (s : State) (z : ZoneId) (before : Option Int) :
    ∃ u, s.linesOnly u ∧ s.marginHandover z before = u.trackMargin z := by
  unfold State.marginHandover
  split
  exacts [⟨s, .refl s, rfl⟩, ⟨_, s.recomputeProportionalOf_linesOnly z, rfl⟩]

end Sys2Proof.Machine
end

section
/-! The Event List by the grade after a change, part by part, and where the grade stays (R105, R127 to R138). -/

namespace Sys2Proof.Machine

open Sys2Proof

section ByGrade

variable {s t : State} {z : ZoneId} {g : Grade} {p : Place} {e : EventRecord}

theorem State.eventsOnly.eq {s t : State} (h : s.eventsOnly t) : t = { s with events := t.events, port := t.port } := by
  obtain ⟨l, u, r, rfl⟩ := h
  rfl

/-- Of an OPEN or ACKED record only the turn to WATER is raised (R129). -/
theorem State.eventGradeChange_rises_cases (hg : g = .alarm ∨ g = .wet) (h : s.findZone z = some (p, e))
    (hc : e.state ≠ .cleared) (ht : t = s.eventGradeChange z g) :
    t.events = (s.setRecord p (e.risen g (s.zone z).m)).events
      ∧ (g = .wet → e.kind = .condensation → s.port.mask.event = true → .event p ∈ t.port.urgent)
      ∧ (g = .alarm ∨ e.kind = .water → t.port = s.port) := by
  rw [State.eventGradeChange_rises hg h hc] at ht
  by_cases hturn : g = .wet ∧ e.kind = .condensation
  · rw [if_pos hturn] at ht
    rw [ht]
    refine ⟨rfl, fun _ _ hmask => s.port.mem_raise_urgent (.event p) hmask, fun h => ?_⟩
    simp [hturn.1, hturn.2] at h
  · rw [if_neg hturn] at ht
    rw [ht]
    exact ⟨rfl, fun hw hk => absurd ⟨hw, hk⟩ hturn, fun _ => rfl⟩

/-- A zone with a record that rises to ALARM or WET (R129, R132, R134). -/
theorem State.eventGradeChange_rise_of_record (hg : g = .alarm ∨ g = .wet) (h : s.findZone z = some (p, e))
    (ht : t = s.eventGradeChange z g) :
    t.events.order = s.events.order ∧ t.events.nextNumber = s.events.nextNumber
      ∧ t.events.pending = s.events.pending ∧ (∀ q, q ≠ p → t.place q = s.place q)
      ∧ (e.state = .cleared → t.place p = ⟨some (e.risenAgain g (s.zone z).m), (s.place p).last⟩
          ∧ (s.port.mask.event = true → .event p ∈ t.port.urgent))
      ∧ (e.state ≠ .cleared → t.place p = ⟨some (e.risen g (s.zone z).m), (s.place p).last⟩
          ∧ (g = .wet → e.kind = .condensation → s.port.mask.event = true → .event p ∈ t.port.urgent)
          ∧ (g = .alarm ∨ e.kind = .water → t.port = s.port)) := by
  by_cases hc : e.state = .cleared
  · rw [State.eventGradeChange_reopens hg h hc] at ht
    obtain ⟨horder, hnumber, hpending, hother, hplace⟩ :=
      State.events_of_setRecord (s := s) (t := t) (p := p) (by rw [ht]; rfl)
    exact ⟨horder, hnumber, hpending, hother,
      fun _ => ⟨hplace, fun hmask => ht ▸ s.port.mem_raise_urgent (.event p) hmask⟩, fun hne => absurd hc hne⟩
  · obtain ⟨hevents, hturn, hquiet⟩ := State.eventGradeChange_rises_cases hg h hc ht
    obtain ⟨horder, hnumber, hpending, hother, hplace⟩ := State.events_of_setRecord hevents
    exact ⟨horder, hnumber, hpending, hother, fun heq => absurd heq hc, fun _ => ⟨hplace, hturn, hquiet⟩⟩

/-- A zone whose OPEN record is cleared by a fall (R136, R137). -/
theorem State.eventGradeChange_clears_place (hg : g = .clear ∨ g = .watch ∨ g = .off)
    (h : s.findZone z = some (p, e)) (ho : e.state = .opened) (ht : t = s.eventGradeChange z g) :
    t.place p = ⟨some ((e.fallen g (s.zone z).m).clearedBy (fallCause g) s.uptime), (s.place p).last⟩
      ∧ (∀ q, q ≠ p → t.place q = s.place q)
      ∧ t.events.order = s.events.order ∧ t.events.nextNumber = s.events.nextNumber
      ∧ ∀ y, y ≠ z → t.pendingKind y = s.pendingKind y := by
  rw [State.eventGradeChange_clears hg h ho] at ht
  obtain ⟨horder, hnumber, hpending, hother, hplace⟩ :=
    State.events_of_setRecord (s := s.setPendingKind z none) (t := t) (p := p) (by rw [ht]; rfl)
  refine ⟨hplace, hother, horder, hnumber, fun y hy => ?_⟩
  rw [State.pendingKind, hpending]
  exact State.pendingKind_setPendingKind_of_ne _ _ hy

/-- A zone whose ACKED record is removed by a fall while no zone is pending (R136 to R138). -/
theorem State.eventGradeChange_removes_place (hg : g = .clear ∨ g = .watch ∨ g = .off)
    (h : s.findZone z = some (p, e)) (ha : e.state = .acked) (hnone : ∀ y, y ≠ z → s.pendingKind y = none)
    (ht : t = s.eventGradeChange z g) :
    t.place p = ⟨none, some (e.number, z)⟩ ∧ (∀ q, q ≠ p → t.place q = s.place q)
      ∧ t.events.order = s.events.order.erase p
      ∧ t.events.nextNumber = s.events.nextNumber ∧ ∀ y, t.pendingKind y = none := by
  obtain ⟨hplace, hother, hflag, hflags⟩ := s.removedFrom_spec z p e
  have hnopending (y : ZoneId) : (s.removedFrom z p e).pendingKind y = none := by
    by_cases hy : y = z
    · rw [hy, hflag]
    · rw [hflags y hy, hnone y hy]
  rw [State.eventGradeChange_removes hg h ha, State.servePending_of_none hnopending] at ht
  rw [ht]
  exact ⟨hplace.trans (by rw [State.zone_of_findZone h]), hother, rfl, rfl, hnopending⟩

/-- An evaluation that leaves the grade: the Event List takes M into the worst margin of a record that tracks, and
nothing else of it changes (R105, R134). -/
theorem State.evaluate_kept_events {cause : EvalCause} (ht : t = s.evaluate z cause) (he : (s.zone z).enabled = true)
    (heq : (t.zone z).grade = (s.zone z).grade) :
    t.port = s.port ∧ t.leak = s.leak ∧ (s.findZone z = none → t.events = s.events)
      ∧ ∀ p e, s.findZone z = some (p, e) →
        t.events = if e.state = .cleared then s.events else (s.setRecord p (e.tracked (t.zone z).m)).events := by
  have hzone : t.zone z = s.zoneEvaluated z cause := by rw [ht, State.zone_evaluate_self cause he]
  obtain ⟨u, ⟨⟨ls, hu⟩, -⟩, hkept⟩ :=
    (s.setZone z (s.zoneEvaluated z cause)).marginHandover_spec z (s.zone z).m
  rw [State.evaluate_of_grade_eq he (by rw [← hzone, heq]), hkept] at ht
  have hfind : u.findZone z = s.findZone z := by rw [hu]; rfl
  have hevents : u.events = s.events := by rw [hu]; rfl
  have hm : (u.zone z).m = (t.zone z).m := by
    rw [hzone, hu]
    exact congrArg ZoneRecord.m (State.zone_setZone_same s z _)
  refine ⟨?_, ?_, fun hnone => ?_, fun p e hp => ?_⟩
  · rw [ht, State.trackMargin_port, hu]
    rfl
  · obtain ⟨l, ur, r, htrack⟩ := u.trackMargin_eventsOnly z
    rw [ht, htrack, hu]
    rfl
  · rw [ht, State.trackMargin_of_no_record (hfind.trans hnone), hevents]
  · split
    · next hc => rw [ht, State.trackMargin_of_cleared (hfind.trans hp) hc, hevents]
    · next hc =>
      rw [← hm, ht, State.trackMargin_of_record (hfind.trans hp) hc, hu]
      rfl

end ByGrade

/-- Settles O40: a rise by what the list finds, a fall by the record's state, STALE and a kept grade by their marks. -/
theorem eventListFollowsTheGrade : Obligations.EventListFollowsTheGrade := by
  have hframe {s t : State} {z : ZoneId} {g : Grade} (ht : t = s.eventGradeChange z g) :
      t = { s with events := t.events, port := t.port } := (ht ▸ s.eventGradeChange_eventsOnly z g).eq
  refine ⟨fun s t z g hg ht => ⟨hframe ht, fun hnone hroom capture hcapture => ?opens, fun hnone hfull => ?pends,
    fun p e h => State.eventGradeChange_rise_of_record hg h ht⟩, fun s t z g hg ht => ⟨hframe ht, ?flag,
    fun hnone => ?noRecord, fun p e h => ⟨fun hc => ?cleared, fun hc hmask => ?raised, fun ho => ?clears,
      fun ha hnone => ?removes, fun y k ha hs hk hlow => ?serves⟩⟩, fun s z => ⟨fun hnone => ?notLost,
    fun p e h => State.markDataLost_of_record h⟩, fun s t z cause ht he heq => ?kept⟩
  case opens =>
    rw [State.eventGradeChange_opens hg hnone hroom] at ht
    obtain ⟨p, hp⟩ := State.exists_freePlace hroom
    obtain ⟨hfree, hlow⟩ := State.freePlace_eq_some.mp hp
    obtain ⟨hplace, hother, horder, hnumber, hpending, hurgent⟩ := State.openRecord_spec hp ht
    refine ⟨p, s.numberToTake, hfree, hlow, State.numberTaken_numberToTake hroom, ?_, hother, horder, hnumber,
      hpending, hurgent⟩
    rw [hplace, hcapture, ← State.capture_eq]
    rfl
  case pends =>
    rw [State.eventGradeChange_pends hg hnone hfull] at ht
    rw [ht]
    exact ⟨rfl, fun y hy => State.pendingKind_setPendingKind_of_ne _ _ hy, State.pendingKind_setPendingKind_same ..,
      rfl, rfl, rfl⟩
  case flag =>
    rw [ht]
    exact State.eventGradeChange_drops_flag hg
  case noRecord => rw [ht, State.eventGradeChange_falls_without hg (.inl hnone)]
  case cleared => rw [ht, State.eventGradeChange_falls_without hg (.inr ⟨p, e, h, hc⟩)]
  case raised =>
    rw [ht]
    exact State.eventGradeChange_raises hg h hc hmask
  case clears => exact State.eventGradeChange_clears_place hg h ho ht
  case removes => exact State.eventGradeChange_removes_place hg h ha hnone ht
  case serves =>
    obtain ⟨hother, hnumber, hplace, horder, hnext, hflag, hflags, hurgent⟩ :=
      State.eventGradeChange_serves hg h ha hs hk hlow ht rfl
    exact ⟨hother, _, hnumber, ⟨_, hplace, rfl, rfl, rfl, rfl, rfl, rfl, rfl, rfl, rfl, rfl, rfl, rfl, rfl,
      beq_iff_eq⟩, horder, hnext, hflag, hflags, hurgent⟩
  case notLost => exact State.markDataLost_of_no_record hnone
  case kept =>
    obtain ⟨hport, hleak, hnone, hrecord⟩ := State.evaluate_kept_events ht he heq
    refine ⟨hport, hleak, hnone, fun p e h => ?_⟩
    have hevents := hrecord p e h
    by_cases hc : e.state = .cleared
    · rw [if_pos hc] at hevents
      have hplaces (q : Place) : t.place q = s.place q := by rw [State.place, hevents]; rfl
      rw [hevents]
      exact ⟨rfl, rfl, rfl, fun q _ => hplaces q, fun _ => hplaces p, fun hne => absurd hc hne⟩
    · rw [if_neg hc] at hevents
      obtain ⟨horder, hnumber, hpending, hother, hplace⟩ := State.events_of_setRecord hevents
      exact ⟨horder, hnumber, hpending, hother, fun heq => absurd heq hc, fun _ => hplace⟩

end Sys2Proof.Machine
end

section
/-! Zone Setup (R87, R89, R90), Zone On and Zone Off (R91, R92). -/

namespace Sys2Proof.Machine

open Sys2Proof

/-! ### Zone Setup (R87, R89, R90) -/

/-- Every number clamped, in the ranges of R87. -/
theorem ZoneConfig.clamped_eq (c : ZoneConfig) : c.clamped =
    { c with w := max 0 (min 2000 c.w), a := max (-500) (min 1500 c.a), h := max 10 (min 500 c.h),
             riseDwell := min 900 c.riseDwell, fallDwell := min 3600 c.fallDwell, weight := min 4 c.weight,
             design := c.design.map fun x => max (-1000) (min 3000 x), depth := min 8 c.depth } := by
  have hdesign : clamp (-1000) 3000 = fun x => max (-1000) (min 3000 x) := funext (clamp_eq (by decide))
  rw [ZoneConfig.clamped, hdesign, clamp_eq (by decide), clamp_eq (by decide), clamp_eq (by decide),
    clampNat_eq (by decide), clampNat_eq (by decide), clampNat_eq (by decide), clampNat_eq (by decide)]
  simp only [Nat.zero_max]

/-- A Zone Setup is taken as it stands or ADJUSTED, by whether a number was clamped (R89, R163). -/
theorem zoneSetup_status {p : List Byte} {wet : Bool} {c : ZoneConfig} (hmask : c.leakMask = p.getD 14 0)
    (hwet : c.wetElement = wet) (hdesign : s16 p 12 = -32768 ↔ c.design = none) :
    takenStatus (c != zoneConfigRaw p wet) =
      if c.w = s16 p 1 ∧ c.a = s16 p 3 ∧ c.h = s16 p 5 ∧ c.riseDwell = u16 p 7 ∧ c.fallDwell = u16 p 9
          ∧ c.weight = u8 p 11 ∧ (c.design = none ∨ c.design = some (s16 p 12)) ∧ c.depth = u8 p 16
      then .ok else .adjusted := by
  have hraw : c.design = design? (s16 p 12) ↔ c.design = none ∨ c.design = some (s16 p 12) := by
    unfold design?
    split
    · next h => simp [hdesign.mp h]
    · next h => exact (or_iff_right fun hn => h (hdesign.mpr hn)).symm
  have heq : c = zoneConfigRaw p wet ↔
      c.w = s16 p 1 ∧ c.a = s16 p 3 ∧ c.h = s16 p 5 ∧ c.riseDwell = u16 p 7 ∧ c.fallDwell = u16 p 9
        ∧ c.weight = u8 p 11 ∧ (c.design = none ∨ c.design = some (s16 p 12)) ∧ c.depth = u8 p 16 := by
    rw [← hraw]
    obtain ⟨w, a, h, rise, fall, weight, design, mask, element, depth⟩ := c
    subst hmask hwet
    simp [zoneConfigRaw]
  by_cases h : c = zoneConfigRaw p wet
  · rw [if_pos (heq.mp h), takenStatus, if_neg (by simp [h])]
  · rw [if_neg (fun hc => h (heq.mpr hc)), takenStatus, if_pos (bne_iff_ne.mpr h)]

/-- Zone Setup's work on a zone the part has, with a listed option byte (R89, R90). -/
theorem zoneSetupWork_eq {p : List Byte} {z : ZoneId} {wet : Bool} {c : ZoneConfig} (hz : u8 p 0 = z.val)
    (hw : bool? (u8 p 15) = some wet) (hc : (zoneConfigRaw p wet).clamped = c) (s : State) :
    zoneSetupWork p s =
      if c.w ≤ c.a then (s, Reply.bare .badField)
      else (s.setUpZone z c, ⟨takenStatus (c != zoneConfigRaw p wet),
        byte z.val :: (c.bytes ++ [((s.setUpZone z c).zone z).grade.code])⟩) := by
  unfold zoneSetupWork
  rw [hz, fin?_val, hw]
  dsimp only
  rw [hc]

/-- New settings stay through the evaluation, and so does enabled (R90). -/
theorem State.setUpZone_zone (s : State) (z : ZoneId) (c : ZoneConfig) :
    ((s.setUpZone z c).zone z).cfg = c ∧ ((s.setUpZone z c).zone z).enabled = (s.zone z).enabled := by
  have hset : (s.setZone z { s.zone z with cfg := c }).zone z = { s.zone z with cfg := c } :=
    State.zone_setZone_same ..
  rw [State.setUpZone, State.zone_evaluate]
  split
  · unfold State.zoneEvaluated State.zoneValued
    rw [hset]
    exact ⟨rfl, rfl⟩
  · rw [hset]
    exact ⟨rfl, rfl⟩

theorem State.setUpZone_executing (s : State) (z : ZoneId) (c : ZoneConfig) :
    (s.setUpZone z c).port.executing = s.port.executing := by
  rw [State.setUpZone, (State.evaluate_keeps ..).port]
  rfl

theorem bool?_of_le {x : Nat} (h : x ≤ 1) : bool? x = some (x == 1) := by
  obtain rfl | rfl : x = 0 ∨ x = 1 := by omega
  all_goals rfl

/-- Settles O33: Zone Setup's work by `zoneSetupWork_eq`, with the clamps of R87. -/
theorem zoneSetupClampsAndEvaluates : Obligations.ZoneSetupClampsAndEvaluates := by
  intro s s0 tag p z c hb hl hz hopt hc
  have hclamped : (zoneConfigRaw p (u8 p 15 == 1)).clamped = c := by
    rw [ZoneConfig.clamped_eq, hc]
    congr 1
    show (design? (s16 p 12)).map _ = _
    unfold design?
    split <;> rfl
  have hwork := zoneSetupWork_eq hz (bool?_of_le hopt) hclamped s0
  refine ⟨fun hwa => ?refused, fun haw => ⟨s0.setUpZone z c, rfl, ?taken, s0.setUpZone_zone z c⟩⟩
  case refused =>
    exact runRequest_badField (v := zoneSetupService) (by decide) hb hl (hwork.trans (if_pos hwa))
  case taken =>
    rw [if_neg (by omega), zoneSetup_status (by rw [hc]) (by rw [hc]) (by rw [hc]; simp)] at hwork
    exact runRequest_answered (v := zoneSetupService) (by decide) hb hl hwork (State.setUpZone_executing ..)

/-! ### Zone On and Zone Off (R91, R92) -/

/-- From s to t the zone's record has become r, its change to the grade after has been handed on, and f has been
completed; nothing else has changed but the active-zone count (R91, R92, R104). -/
structure State.handsOver (s : State) (z : ZoneId) (r : ZoneRecord) (after : Grade) (f : OutFrame) (t : State) :
    Prop where
  zone      : t.zone z = r
  others    : ∀ y, y ≠ z → t.zone y = s.zone y
  probes    : t.probes = s.probes
  engines   : t.engines = s.engines
  map       : t.map = s.map
  scan      : t.scan = s.scan
  slots     : t.slots = s.slots
  uptime    : t.uptime = s.uptime
  store     : t.store = s.store
  defaulted : t.defaulted = s.defaulted
  lines     : s.linesRecomputed z t
  events    : ∀ u : State, u = ((s.setZone z (t.zone z)).raise (.zone z)
      (if after = .alarm ∨ after = .wet then .urgent else .routine)).eventGradeChange z after →
    t.events = u.events ∧ t.port.urgent = u.port.urgent ∧ t.port.routine = u.port.routine
  channel   : ∀ c, t.channel c = s.channel c
  outgoing  : t.port.outgoing = s.port.outgoing ++ [f]
  notice    : s.port.mask.zone = true →
    (after = .alarm ∨ after = .wet → .zone z ∈ t.port.urgent) ∧ .zone z ∈ t.port.urgent ++ t.port.routine

theorem State.gradeChange_setZone_keeps (s : State) (z : ZoneId) (r : ZoneRecord) (before after : Grade) :
    s.evaluationKeeps ((s.setZone z r).gradeChange z before after) :=
  have hset : s.evaluationKeeps (s.setZone z r) :=
    ⟨rfl, rfl, rfl, rfl, rfl, rfl, rfl, rfl, rfl, rfl, rfl, rfl, fun _ => rfl⟩
  hset.trans (State.gradeChange_handedOn ..).keeps

theorem State.gradeChange_setZone_executing (s : State) (z : ZoneId) (r : ZoneRecord) (before after : Grade) :
    ((s.setZone z r).gradeChange z before after).port.executing = s.port.executing := by
  rw [(s.gradeChange_setZone_keeps z r before after).port]

theorem State.gradeChange_handsOver (s : State) (z : ZoneId) (r : ZoneRecord) (before after : Grade) (f : OutFrame) :
    s.handsOver z r after f (((s.setZone z r).gradeChange z before after).answered f) := by
  have hkeeps := s.gradeChange_setZone_keeps z r before after
  obtain ⟨hself, hothers, hlines, hnotice, hevents⟩ := s.gradeChange_setZone z r before after rfl
  generalize (s.setZone z r).gradeChange z before after = t at *
  exact
    { zone := hself
      others := hothers
      probes := hkeeps.probes
      engines := hkeeps.engines
      map := hkeeps.map
      scan := hkeeps.scan
      slots := hkeeps.slots
      uptime := hkeeps.uptime
      store := hkeeps.store
      defaulted := hkeeps.defaulted
      lines := hlines
      events := fun u hu => by
        obtain ⟨hlist, hport⟩ := hevents u hu
        rw [← hport]
        exact ⟨hlist, rfl, rfl⟩
      channel := hkeeps.channel
      outgoing := by
        rw [State.answered_outgoing, Port.outgoing, hkeeps.port]
        rfl
      notice := hnotice }

/-- The grade of a zone that is turned on, and the record that it gets (R91, R95, R97, R98). -/
def State.gradeOn (s : State) (z : ZoneId) : Grade :=
  (decideGrade .ordinary (s.zone z).cfg .stale .none (s.wetCondition z)
    (margin ((s.zoneSurface z).map (·.value)) (s.zoneDew z))).1

def State.recordOn (s : State) (z : ZoneId) : ZoneRecord :=
  { s.zoneValued z with enabled := true, grade := s.gradeOn z, dwell := .none }

/-- From STALE the decision leaves no dwell, and never OFF (R95, R97, R98). -/
theorem decideGrade_stale_spec (c : ZoneConfig) (dwell : Dwell) (wet : Bool) (om : Option Int) :
    (decideGrade .ordinary c .stale dwell wet om) = ((decideGrade .ordinary c .stale .none wet om).1, .none)
      ∧ (decideGrade .ordinary c .stale .none wet om).1 ≠ .off := by
  cases wet with
  | true => exact ⟨rfl, nofun⟩
  | false =>
    cases om with
    | none => exact ⟨rfl, nofun⟩
    | some m =>
      refine ⟨rfl, fun hoff => Grade.not_byMargin (.inl hoff) (plainTarget_byMargin c m)⟩

/-- An OFF zone turned on: the change from OFF to the grade left is handed on as one (R91). -/
theorem State.turnOn_eq {s : State} {z : ZoneId} (hoff : (s.zone z).grade = .off) :
    s.turnOn z = (s.setZone z (s.recordOn z)).gradeChange z .off (s.gradeOn z) := by
  obtain ⟨hdecided, hne⟩ := decideGrade_stale_spec (s.zone z).cfg (s.zone z).dwell (s.wetCondition z)
    (margin ((s.zoneSurface z).map (·.value)) (s.zoneDew z))
  have hrecord : (s.setZone z { s.zone z with enabled := true, grade := .stale }).zoneEvaluated z .ordinary =
      s.recordOn z :=
    s.zoneEvaluated_setZone (r := { s.zone z with enabled := true, grade := .stale }) rfl .ordinary hdecided.symm
  have hset : (s.setZone z { s.zone z with enabled := true, grade := .stale }).setZone z (s.recordOn z) =
      s.setZone z (s.recordOn z) := congrArg (fun zones => { s with zones := zones }) (Table.set_set ..)
  unfold State.turnOn
  dsimp only
  rw [hrecord, hset, State.handOn, State.zone_setZone_same, hoff]
  exact if_neg hne

/-- An enabled zone turned off: the change from its grade to OFF is handed on (R92). -/
theorem State.turnOff_eq {s : State} {z : ZoneId} (hon : (s.zone z).grade ≠ .off) :
    s.turnOff z = (s.setZone z (s.zone z).turnedOff).gradeChange z (s.zone z).grade .off := by
  rw [State.turnOff, State.handOn, State.zone_setZone_same]
  exact if_neg hon.symm

theorem zoneOnWork_eq (s : State) (z : ZoneId) : zoneOnWork [byte z.val] s =
    if (s.zone z).enabled = true then (s, s.gradeReply z) else (s.turnOn z, (s.turnOn z).gradeReply z) := by
  rw [zoneOnWork, fin?_byte (by decide)]

theorem zoneOffWork_eq (s : State) (z : ZoneId) : zoneOffWork [byte z.val] s =
    if (s.zone z).enabled = true then (s.turnOff z, (s.turnOff z).gradeReply z) else (s, s.gradeReply z) := by
  rw [zoneOffWork, fin?_byte (by decide)]

/-- The reply to Zone On and Zone Off shows the grade of the record just written (R91, R92). -/
theorem State.gradeReply_gradeChange (s : State) (z : ZoneId) (r : ZoneRecord) (before after : Grade) :
    ((s.setZone z r).gradeChange z before after).gradeReply z = ⟨.ok, [byte z.val, r.grade.code]⟩ := by
  rw [State.gradeReply, (s.gradeChange_setZone z r before after rfl).1]

/-- Where the execution of Zone On begins on an OFF zone (R91). -/
theorem execZoneOn_off {s s0 : State} {tag : Byte} {z : ZoneId} (hb : s.begins ⟨0x29, tag, [byte z.val]⟩ s0)
    (he : (s0.zone z).enabled = false) (hoff : (s0.zone z).grade = .off) :
    exec (.zoneOn tag [byte z.val]) s =
      .next (((s0.setZone z (s0.recordOn z)).gradeChange z .off (s0.gradeOn z)).answered
        (replyTo 0x29 tag .ok [byte z.val, (s0.gradeOn z).code])) := by
  refine runRequest_answered (v := zoneOnService) (by decide) hb rfl ?_
    (s0.gradeChange_setZone_executing z _ _ _)
  refine (zoneOnWork_eq s0 z).trans ?_
  rw [if_neg (Bool.eq_false_iff.mp he), State.turnOn_eq hoff, State.gradeReply_gradeChange]
  rfl

/-- Where the execution of Zone Off begins on an enabled zone (R92). -/
theorem execZoneOff_on {s s0 : State} {tag : Byte} {z : ZoneId} (hb : s.begins ⟨0x2A, tag, [byte z.val]⟩ s0)
    (he : (s0.zone z).enabled = true) (hon : (s0.zone z).grade ≠ .off) :
    exec (.zoneOff tag [byte z.val]) s =
      .next (((s0.setZone z (s0.zone z).turnedOff).gradeChange z (s0.zone z).grade .off).answered
        (replyTo 0x2A tag .ok [byte z.val, Grade.off.code])) := by
  refine runRequest_answered (v := zoneOffService) (by decide) hb rfl ?_
    (s0.gradeChange_setZone_executing z _ _ _)
  refine (zoneOffWork_eq s0 z).trans ?_
  rw [if_pos he, State.turnOff_eq hon, State.gradeReply_gradeChange]
  rfl

/-- The grade of a zone that is turned on, in the spelling of the statement. -/
theorem State.gradeOn_eq (s : State) (z : ZoneId) : s.gradeOn z =
    (if s.wetCondition z then Grade.wet
      else match (s.zoneSurface z).map (·.value), s.zoneDew z with
        | some sv, some dv =>
          if sv - dv ≤ (s.zone z).cfg.a then .alarm
          else if sv - dv ≤ (s.zone z).cfg.w then .watch else .clear
        | _, _ => .stale) := by
  unfold State.gradeOn
  cases s.wetCondition z with
  | true => rfl
  | false => cases (s.zoneSurface z).map (·.value) <;> cases s.zoneDew z <;> rfl

/-- Settles O34: an OFF zone gets `State.recordOn`, and `State.gradeChange_handsOver` says the rest. -/
theorem zoneOnGradesAtOnce : Obligations.ZoneOnGradesAtOnce := by
  intro s s0 tag z hb
  refine ⟨fun he => ?enabled, fun he hoff => ?off⟩
  case enabled =>
    exact runRequest_answered (v := zoneOnService) (by decide) hb rfl ((zoneOnWork_eq s0 z).trans (if_pos he)) rfl
  case off =>
    have h := s0.gradeChange_handsOver z (s0.recordOn z) .off (s0.gradeOn z)
      (replyTo 0x29 tag .ok [byte z.val, (s0.gradeOn z).code])
    have hexec := execZoneOn_off hb he hoff
    generalize State.answered _ _ = t at h hexec
    refine ⟨t, s0.gradeOn z, hexec, (s0.gradeOn_eq z).trans rfl, ?_, ?_, ?_, ?_, ?_, ?_, h.others, h.probes, h.engines,
      h.map, h.scan, h.slots, h.uptime, h.store, h.defaulted, h.lines, h.events, h.channel, h.outgoing, h.notice⟩ <;>
    rw [h.zone] <;> rfl

/-- What becomes of the record of a zone that is turned off (R137). -/
theorem State.eventGradeChange_off_recordAt {s : State} {z : ZoneId} {p : Place} {e : EventRecord}
    (h : s.findZone z = some (p, e)) :
    (e.state = .opened → (s.eventGradeChange z .off).recordAt p =
        some { e with state := .cleared, clearedAt := some s.uptime, cause := some .zoneOff })
      ∧ (e.state = .cleared → (s.eventGradeChange z .off).recordAt p = some e)
      ∧ (e.state = .acked → ∀ f, (s.eventGradeChange z .off).recordAt p = some f → f.zone ≠ z) := by
  have hoff : Grade.off = .clear ∨ Grade.off = .watch ∨ Grade.off = .off := .inr (.inr rfl)
  refine ⟨fun ho => ?_, fun hc => ?_, fun ha f hf => State.eventGradeChange_removed_zone hoff h ha hf⟩
  · rw [State.recordAt, (State.eventGradeChange_clears_place hoff h ho rfl).1]
    rfl
  · rw [State.eventGradeChange_falls_without hoff (.inr ⟨p, e, h, hc⟩)]
    exact State.recordAt_of_findZone h

/-- Settles O35: an enabled zone gets `ZoneRecord.turnedOff`, `State.gradeChange_handsOver` says the rest, and its
record in the Event List falls with cause ZONE_OFF. -/
theorem zoneOffDropsEverything : Obligations.ZoneOffDropsEverything := by
  intro s s0 tag z hb
  refine ⟨fun he => ?disabled, fun he hon => ?on⟩
  case disabled =>
    exact runRequest_answered (v := zoneOffService) (by decide) hb rfl
      ((zoneOffWork_eq s0 z).trans (if_neg (Bool.eq_false_iff.mp he))) rfl
  case on =>
    have h := s0.gradeChange_handsOver z (s0.zone z).turnedOff (s0.zone z).grade .off
      (replyTo 0x2A tag .ok [byte z.val, Grade.off.code])
    have hexec := execZoneOff_on hb he hon
    generalize State.answered _ _ = t at h hexec
    have hevents : t.events = (((s0.setZone z (t.zone z)).raise (.zone z) .routine).eventGradeChange z .off).events :=
      (h.events _ rfl).1
    have hrecord (q : Place) : t.recordAt q =
        (((s0.setZone z (t.zone z)).raise (.zone z) .routine).eventGradeChange z .off).recordAt q := by
      rw [State.recordAt, State.place, hevents]
      rfl
    refine ⟨t, hexec, h.zone, h.others, h.probes, h.engines, h.map, h.scan, h.slots, h.uptime, h.store, h.defaulted,
      h.lines, h.events, h.channel, h.outgoing, fun hmask => (h.notice hmask).2, ?_, fun p e hp => ?_⟩
    · rw [State.pendingKind, hevents]
      exact State.eventGradeChange_drops_flag (.inr (.inr rfl))
    · rw [hrecord]
      exact State.eventGradeChange_off_recordAt
        (s := (s0.setZone z (t.zone z)).raise (.zone z) .routine) hp

end Sys2Proof.Machine
end

section
/-! The judging of a count (R114 to R117): the record that each state's rule leaves, and that it stays sound and in
range (R110). -/

namespace Sys2Proof.Machine

open Sys2Proof

/-! ### What a channel holds in each state (R110) -/

/-- What R110 says of the other fields of a channel, state by state. -/
def Channel.fits (c : Channel) : Prop :=
  match c.state with
  | .off => c.enabled = false ∧ c.baseline = none ∧ c.streak = 0 ∧ c.calSum = 0 ∧ c.calCount = 0
  | .calibrating => c.enabled = true ∧ c.baseline = none ∧ c.streak = 0 ∧ c.calCount ≤ 3
  | .dry => c.enabled = true ∧ c.baseline.isSome = true ∧ c.streak ≤ 1 ∧ c.calSum = 0 ∧ c.calCount = 0
  | .wet => c.enabled = true ∧ c.baseline.isSome = true ∧ c.streak ≤ 1 ∧ c.calSum = 0 ∧ c.calCount = 0
  | .opened => c.enabled = true ∧ c.streak = 0 ∧ c.calSum = 0 ∧ c.calCount = 0
  | .short => c.enabled = true ∧ c.streak = 0 ∧ c.calSum = 0 ∧ c.calCount = 0

/-- Each state settles the conditions of R110 by its own. -/
theorem Channel.sound_iff_fits (c : Channel) : c.sound ↔ c.fits := by
  obtain ⟨enabled, dw, hy, baseline, state, streak, calSum, calCount, last⟩ := c
  refine ⟨fun ⟨hoff, hnone, hsome, hstreak, hcalibration⟩ => ?_, fun h => ?_⟩
  · cases state <;> simp_all [Channel.fits]
  · constructor <;> cases state <;> simp_all [Channel.fits]

/-! ### The record after a count, state by state (R114 to R117) -/

section Judged

variable {c : Channel} {n : Nat}

/-- Whatever is judged, the count is written as C, and the settings stay (R111). -/
theorem Channel.judged_keeps (c : Channel) (n : Nat) : (c.judged n).last = some n ∧ (c.judged n).enabled = c.enabled
    ∧ (c.judged n).dw = c.dw ∧ (c.judged n).hy = c.hy := by
  unfold Channel.judged Channel.judgedInRange Channel.calibrated Channel.judgedDry Channel.judgedWet
  dsimp only
  repeat' split
  all_goals exact ⟨rfl, rfl, rfl, rfl⟩

theorem Channel.judged_off (h : c.state = .off) : c.judged n = { c with last := some n } := if_pos h

/-- A channel that is in OPEN or SHORT has nothing to lose by an entry to the same state (R110, R114). -/
theorem Channel.failedAs_of_same (hs : c.sound) {state : LeakState} (hb : state.broken = true) (h : c.state = state) :
    c = c.failedAs state := by
  obtain ⟨enabled, dw, hy, baseline, _, streak, calSum, calCount, last⟩ := c
  subst h
  rw [Channel.sound_iff_fits] at hs
  cases ‹LeakState› with
  | opened => obtain ⟨-, rfl, rfl, rfl⟩ := hs; rfl
  | short => obtain ⟨-, rfl, rfl, rfl⟩ := hs; rfl
  | _ => cases hb

theorem Channel.sound.withLast (hs : c.sound) (last : Option Nat) : ({ c with last := last } : Channel).sound :=
  ⟨hs.off, hs.noBaseline, hs.baseline, hs.streak, hs.calibration⟩

/-- A count of 4095 leaves the channel in OPEN, with B kept (R114). -/
theorem Channel.judged_opened (hs : c.sound) (hoff : c.state ≠ .off) :
    c.judged 4095 = ({ c with last := some 4095 } : Channel).failedAs .opened := by
  unfold Channel.judged
  dsimp only
  rw [if_neg hoff, if_pos rfl]
  split
  · next h => exact Channel.failedAs_of_same (hs.withLast _) rfl h
  · rfl

/-- A count below 64 leaves the channel in SHORT, with B kept (R114). -/
theorem Channel.judged_short (hs : c.sound) (hoff : c.state ≠ .off) (hn : n < 64) :
    c.judged n = ({ c with last := some n } : Channel).failedAs .short := by
  unfold Channel.judged
  dsimp only
  rw [if_neg hoff, if_neg (by omega), if_pos hn]
  split
  · next h => exact Channel.failedAs_of_same (hs.withLast _) rfl h
  · rfl

/-- A count in 64..4094 is judged by the channel's state alone. -/
theorem Channel.judged_inRange (hoff : c.state ≠ .off) (h64 : 64 ≤ n) (h4094 : n ≤ 4094) :
    c.judged n = ({ c with last := some n } : Channel).judgedInRange n := by
  unfold Channel.judged
  dsimp only
  rw [if_neg hoff, if_neg (by omega), if_neg (by omega)]

theorem Channel.judgedInRange_broken (h : c.state = .opened ∨ c.state = .short) : c.judgedInRange n =
    { c with streak := 0, calSum := 0, calCount := 0, state := if c.baseline = none then .calibrating else .dry } := by
  have hreturned : c.judgedInRange n = c.returned := by
    unfold Channel.judgedInRange
    obtain h | h := h <;> rw [h]
  rw [hreturned, Channel.returned]
  cases c.baseline <;> rfl

theorem Channel.judgedInRange_sampled (h : c.state = .calibrating) (hcount : c.calCount < 3) :
    c.judgedInRange n = { c with calSum := c.calSum + n, calCount := c.calCount + 1 } := by
  have hcalibrated : c.judgedInRange n = c.calibrated n := by rw [Channel.judgedInRange, h]
  exact hcalibrated.trans (if_pos (by omega))

/-- The fourth count gives the baseline (R115). -/
theorem Channel.judgedInRange_calibrated (h : c.state = .calibrating) (hcount : c.calCount = 3) : c.judgedInRange n =
    { c with baseline := some ((c.calSum + n) / 4), calSum := 0, calCount := 0, streak := 0, state := .dry } := by
  have hcalibrated : c.judgedInRange n = c.calibrated n := by rw [Channel.judgedInRange, h]
  exact hcalibrated.trans (if_neg (by omega))

theorem Channel.judgedInRange_dry {b : Nat} (h : c.state = .dry) (hb : c.baseline = some b) :
    c.judgedInRange n =
      if n + c.dw ≤ b then (if c.streak = 0 then { c with streak := 1 } else { c with streak := 0, state := .wet })
      else { c with streak := 0, baseline := some (c.tracked b n) } := by
  have hdry : c.judgedInRange n = c.judgedDry b n := by rw [Channel.judgedInRange, h, hb]
  have hlevel : (n : Int) ≤ c.wetLevel b ↔ n + c.dw ≤ b := by
    unfold Channel.wetLevel
    omega
  simp only [hdry, Channel.judgedDry, hlevel, show c.streak + 1 < 2 ↔ c.streak = 0 by omega]
  split_ifs with hwet hstreak
  · rw [hstreak]
  · rfl
  · rfl

theorem Channel.judgedInRange_wet {b : Nat} (h : c.state = .wet) (hb : c.baseline = some b) :
    c.judgedInRange n =
      if b + c.hy ≤ n + c.dw then
        (if c.streak = 0 then { c with streak := 1 } else { c with streak := 0, state := .dry })
      else { c with streak := 0 } := by
  have hwet : c.judgedInRange n = c.judgedWet b n := by rw [Channel.judgedInRange, h, hb]
  have hlevel : c.dryLevel b ≤ (n : Int) ↔ b + c.hy ≤ n + c.dw := by
    unfold Channel.dryLevel
    omega
  simp only [hwet, Channel.judgedWet, hlevel, show c.streak + 1 < 2 ↔ c.streak = 0 by omega]
  split_ifs with hdry hstreak
  · rw [hstreak]
  · rfl
  · rfl

/-- Within the tracking window B moves by 1 toward the count, and outside it stays (R116). -/
theorem Channel.tracked_spec (c : Channel) (b n : Nat) :
    ((n : Int) - b ≤ c.dw / 4 → (b : Int) - n ≤ c.dw / 4 →
        (b < n → c.tracked b n = b + 1) ∧ (n < b → c.tracked b n = b - 1) ∧ (n = b → c.tracked b n = b))
      ∧ (¬ ((n : Int) - b ≤ c.dw / 4 ∧ (b : Int) - n ≤ c.dw / 4) → c.tracked b n = b) := by
  unfold Channel.tracked
  refine ⟨fun _ _ => ⟨fun _ => ?_, fun _ => ?_, fun _ => ?_⟩, fun _ => ?_⟩ <;> split_ifs <;> omega

/-- B follows a count at most to that count. -/
theorem Channel.tracked_le {b m : Nat} (c : Channel) (hb : b ≤ m) (hn : n ≤ m) : c.tracked b n ≤ m := by
  unfold Channel.tracked
  split_ifs <;> omega

end Judged

/-- Settles O42: each clause is the equation of its state. -/
theorem countJudgedByState : Obligations.CountJudgedByState := by
  intro c n hs _ hoff
  obtain ⟨hlast, henabled, hdw, hhy⟩ := c.judged_keeps n
  refine ⟨hlast, henabled, hdw, hhy, fun h => ?opened, fun h => ?short, fun h64 h4094 => ?_⟩
  case opened =>
    rw [h, Channel.judged_opened hs hoff]
    exact ⟨rfl, rfl, rfl⟩
  case short =>
    rw [Channel.judged_short hs hoff h]
    exact ⟨rfl, rfl, rfl⟩
  rw [Channel.judged_inRange hoff h64 h4094]
  refine ⟨fun h => ?broken, fun h hcount => ?sampled, fun h hcount => ?calibrated, fun b h hb => ?dry,
    fun b h hb => ?wet⟩
  case broken => exact Channel.judgedInRange_broken (c := { c with last := some n }) h
  case sampled => exact Channel.judgedInRange_sampled (c := { c with last := some n }) h hcount
  case calibrated => exact Channel.judgedInRange_calibrated (c := { c with last := some n }) h hcount
  case dry =>
    rw [Channel.judgedInRange_dry (c := { c with last := some n }) h hb]
    obtain ⟨hwithin, houtside⟩ := Channel.tracked_spec { c with last := some n } b n
    exact ⟨fun hle => if_pos hle, fun hlt => ⟨_, if_neg (Nat.not_le.mpr hlt), hwithin, houtside⟩⟩
  case wet =>
    rw [Channel.judgedInRange_wet (c := { c with last := some n }) h hb]
    exact ⟨fun hle => if_pos hle, fun hlt => if_neg (Nat.not_le.mpr hlt)⟩

/-! ### A count keeps a channel sound and in range (R110) -/

section Kept

variable {c : Channel} {n : Nat}

/-- A channel is sound, and its numbers stand in their ranges (R110). -/
def Channel.good (c : Channel) : Prop := c.sound ∧ c.inRange

theorem Channel.sound.enabled (hs : c.sound) (hoff : c.state ≠ .off) : c.enabled = true := by
  rw [← Bool.not_eq_false]
  exact fun h => hoff (hs.off.mpr h)

theorem Channel.good.withLast (h : c.good) (hn : n ≤ 4095) : ({ c with last := some n } : Channel).good := by
  obtain ⟨hs, hr⟩ := h
  refine ⟨hs.withLast _, hr.settings, hr.sum, fun m hm => ?_⟩
  cases hm
  exact hn

theorem Channel.good.failedAs (h : c.good) (hoff : c.state ≠ .off) {state : LeakState} (hb : state.broken = true) :
    (c.failedAs state).good := by
  obtain ⟨hs, hr⟩ := h
  have henabled := hs.enabled hoff
  refine ⟨(Channel.sound_iff_fits _).mpr ?_, hr.settings, Nat.zero_le _, hr.last⟩
  cases state with
  | opened => exact ⟨henabled, rfl, rfl, rfl⟩
  | short => exact ⟨henabled, rfl, rfl, rfl⟩
  | _ => cases hb

/-- B in range with the thresholds as they are. -/
theorem leakSettingsInRange.withBaseline {dw hy b : Nat} {baseline : Option Nat}
    (h : leakSettingsInRange dw hy baseline) (hb : b ≤ 4095) : leakSettingsInRange dw hy (some b) := by
  obtain ⟨hdw, hdw', hhy, hhy', hle, -⟩ := h
  refine ⟨hdw, hdw', hhy, hhy', hle, fun x hx => ?_⟩
  cases hx
  exact hb

theorem Channel.good.judgedInRange_broken (h : c.good) (hstate : c.state = .opened ∨ c.state = .short) :
    (c.judgedInRange n).good := by
  obtain ⟨hs, hr⟩ := h
  have henabled : c.enabled = true := hs.enabled (by obtain h | h := hstate <;> simp [h])
  rw [Channel.judgedInRange_broken hstate]
  refine ⟨(Channel.sound_iff_fits _).mpr ?_, hr.settings, Nat.zero_le _, hr.last⟩
  unfold Channel.fits
  cases c.baseline with
  | none => exact ⟨henabled, rfl, rfl, Nat.zero_le _⟩
  | some b => exact ⟨henabled, rfl, Nat.zero_le _, rfl, rfl⟩

/-- A calibration sum of counts of at most 4094 gives a baseline of at most 4094 (R115). -/
theorem Channel.good.judgedInRange_calibrating (h : c.good) (hstate : c.state = .calibrating) (hn : n ≤ 4094) :
    (c.judgedInRange n).good := by
  obtain ⟨hs, hr⟩ := h
  have hfits := (Channel.sound_iff_fits c).mp hs
  rw [Channel.fits, hstate] at hfits
  obtain ⟨henabled, hnone, hstreak, hcount⟩ := hfits
  have hsum := hr.sum
  obtain hcount | hcount := Nat.lt_or_eq_of_le hcount
  · rw [Channel.judgedInRange_sampled hstate hcount]
    refine ⟨(Channel.sound_iff_fits _).mpr ?_, hr.settings, ?_, hr.last⟩
    · simp only [Channel.fits, hstate]
      exact ⟨henabled, hnone, hstreak, hcount⟩
    · dsimp only
      omega
  · rw [Channel.judgedInRange_calibrated hstate hcount]
    rw [hcount] at hsum
    exact ⟨(Channel.sound_iff_fits _).mpr ⟨henabled, rfl, Nat.zero_le _, rfl, rfl⟩,
      hr.settings.withBaseline (by omega), Nat.zero_le _, hr.last⟩

/-- What becomes of a DRY or WET channel that goes on in one of the two, with a baseline in range. -/
theorem Channel.good.measured (h : c.good) (hstate : c.state = .dry ∨ c.state = .wet) {d : Channel} {b : Nat}
    (hd : d = { c with baseline := d.baseline, state := d.state, streak := d.streak })
    (hnew : d.state = .dry ∨ d.state = .wet) (hbase : d.baseline = some b) (hb : b ≤ 4095) (hstreak : d.streak ≤ 1) :
    d.good := by
  obtain ⟨hs, hr⟩ := h
  have henabled : c.enabled = true := hs.enabled (by obtain h | h := hstate <;> simp [h])
  have hrest : c.calSum = 0 ∧ c.calCount = 0 := by
    have hcal := mt hs.calibration.2 (by obtain h | h := hstate <;> simp [h])
    omega
  rw [hd, hbase]
  refine ⟨(Channel.sound_iff_fits _).mpr ?_, hr.settings.withBaseline hb, hr.sum, hr.last⟩
  unfold Channel.fits
  obtain hnew | hnew := hnew <;> rw [hnew]
  all_goals exact ⟨henabled, rfl, hstreak, hrest⟩

theorem Channel.good.judgedInRange_measuring (h : c.good) (hstate : c.state = .dry ∨ c.state = .wet) (hn : n ≤ 4094) :
    (c.judgedInRange n).good := by
  obtain ⟨b, hb⟩ := Option.isSome_iff_exists.mp (h.1.baseline hstate)
  obtain ⟨-, -, -, -, -, hrange⟩ := h.2.settings
  have hb4095 := hrange b hb
  obtain hdry | hwet := hstate
  · rw [Channel.judgedInRange_dry hdry hb]
    split_ifs
    · exact h.measured (.inl hdry) rfl (.inl hdry) hb hb4095 le_rfl
    · exact h.measured (.inl hdry) rfl (.inr rfl) hb hb4095 zero_le_one
    · exact h.measured (.inl hdry) rfl (.inl hdry) rfl (c.tracked_le hb4095 (by omega)) zero_le_one
  · rw [Channel.judgedInRange_wet hwet hb]
    split_ifs
    · exact h.measured (.inr hwet) rfl (.inr hwet) hb hb4095 le_rfl
    · exact h.measured (.inr hwet) rfl (.inl rfl) hb hb4095 zero_le_one
    · exact h.measured (.inr hwet) rfl (.inr hwet) hb hb4095 zero_le_one

theorem Channel.good.judgedInRange (h : c.good) (hn : n ≤ 4094) : (c.judgedInRange n).good := by
  cases hstate : c.state with
  | off =>
    rw [Channel.judgedInRange, hstate]
    exact h
  | opened => exact h.judgedInRange_broken (.inl hstate)
  | short => exact h.judgedInRange_broken (.inr hstate)
  | calibrating => exact h.judgedInRange_calibrating hstate hn
  | dry => exact h.judgedInRange_measuring (.inl hstate) hn
  | wet => exact h.judgedInRange_measuring (.inr hstate) hn

/-- A count keeps a channel good, whatever the count and the state. -/
theorem Channel.good.judged (h : c.good) (hn : n ≤ 4095) : (c.judged n).good := by
  have hlast := h.withLast hn
  by_cases hoff : c.state = .off
  · rwa [Channel.judged_off hoff]
  obtain hn | rfl := Nat.lt_or_eq_of_le hn
  · obtain hn64 | hn64 := Nat.lt_or_ge n 64
    · rw [Channel.judged_short h.1 hoff hn64]
      exact hlast.failedAs hoff rfl
    · rw [Channel.judged_inRange hoff hn64 (by omega)]
      exact hlast.judgedInRange (by omega)
  · rw [Channel.judged_opened h.1 hoff]
    exact hlast.failedAs hoff rfl

/-! ### The other records that a channel can take (R120, R121, R124, R125) -/

theorem leakDw_eq (dw : Nat) : leakDw dw = max 16 (min 1024 dw) := clampNat_eq (by decide) dw

theorem leakHy_eq (dw hy : Nat) : leakHy dw hy = min (leakDw dw) (max 8 (min 128 hy)) := by
  rw [leakHy, clampNat_eq (by decide), Nat.min_comm]

/-- Dw and Hy as applied stand in their ranges, Hy never above Dw (R120). -/
theorem leakSettingsInRange_applied (dw hy : Nat) : leakSettingsInRange (leakDw dw) (leakHy dw hy) none := by
  rw [leakHy_eq, leakDw_eq]
  exact ⟨by omega, by omega, by omega, by omega, by omega, nofun⟩

theorem Channel.good.setUp (h : c.good) (enabled : Bool) (dw hy : Nat) :
    (c.setUp enabled (leakDw dw) (leakHy dw hy)).good := by
  refine ⟨(Channel.sound_iff_fits _).mpr ?_, leakSettingsInRange_applied dw hy, Nat.zero_le _, h.2.last⟩
  cases enabled with
  | true => exact ⟨rfl, rfl, rfl, Nat.zero_le _⟩
  | false => exact ⟨rfl, rfl, rfl, rfl, rfl⟩

theorem leakSettingsInRange.withoutBaseline {dw hy : Nat} {baseline : Option Nat}
    (h : leakSettingsInRange dw hy baseline) : leakSettingsInRange dw hy none := by
  obtain ⟨hdw, hdw', hhy, hhy', hle, -⟩ := h
  exact ⟨hdw, hdw', hhy, hhy', hle, nofun⟩

theorem Channel.good.recalibrated (h : c.good) (hoff : c.state ≠ .off) : c.recalibrated.good :=
  ⟨(Channel.sound_iff_fits _).mpr ⟨h.1.enabled hoff, rfl, rfl, Nat.zero_le _⟩, h.2.settings.withoutBaseline,
    Nat.zero_le _, h.2.last⟩

theorem Channel.good.restarted (h : c.good) : c.restarted.good :=
  ⟨⟨h.1.off, h.1.noBaseline, h.1.baseline, ⟨Nat.zero_le _, fun h => absurd rfl h⟩, h.1.calibration⟩, h.2.settings,
    h.2.sum, h.2.last⟩

theorem Channel.start_good {dw hy : Nat} {baseline : Option Nat} (h : leakSettingsInRange dw hy baseline)
    (enabled : Bool) : (Channel.start enabled dw hy baseline).good := by
  refine ⟨(Channel.sound_iff_fits _).mpr ?_, ?_, Nat.zero_le _, nofun⟩
  · cases enabled with
    | false => exact ⟨rfl, rfl, rfl, rfl, rfl⟩
    | true =>
      cases baseline with
      | none => exact ⟨rfl, rfl, rfl, Nat.zero_le _⟩
      | some b => exact ⟨rfl, rfl, Nat.zero_le _, rfl, rfl⟩
  · cases enabled with
    | false => exact h.withoutBaseline
    | true => exact h

end Kept

end Sys2Proof.Machine
end

section
/-! A channel's record replaced, and its change of state handed on (R113, R118): the notice, the count of WET channels,
and the zones that watch it where it has entered or left WET. -/

namespace Sys2Proof.Machine

open Sys2Proof

/-! ### The notice and the count (R118 steps 1 and 2) -/

/-- The state in which the zones that watch a channel are evaluated: its record is written, its change of state noticed
and counted (R118 steps 1 and 2). -/
def State.channelTold (s : State) (c : ChannelId) (r : Channel) : State :=
  ((s.setChannel c r).raiseLeak c (s.channel c).state r.state).countWetChange (s.channel c).state r.state

theorem State.changeChannel_of_same {s : State} {c : ChannelId} {r : Channel} (h : (s.channel c).state = r.state) :
    s.changeChannel c r = s.setChannel c r := if_pos h

/-- A change of state that neither enters nor leaves WET. -/
theorem State.changeChannel_of_dry {s : State} {c : ChannelId} {r : Channel} (h : (s.channel c).state ≠ r.state)
    (hbefore : (s.channel c).state ≠ .wet) (hafter : r.state ≠ .wet) : s.changeChannel c r = s.channelTold c r := by
  unfold State.changeChannel
  dsimp only
  rw [if_neg h, if_neg (by simp [hbefore, hafter])]
  rfl

/-- Of the port the notice touches only the notice queue; of the Leak Sense Unit the channel's record and the count of
WET channels change. -/
theorem State.channelTold_eq (s : State) (c : ChannelId) (r : Channel) : ∃ urgent routine,
    s.channelTold c r = { s with
      port := { s.port with urgent := urgent, routine := routine }
      leak := { s.leak with channels := s.leak.channels.set c r
                            wetChannels := countWet s.leak.wetChannels (s.channel c).state r.state } } := by
  unfold State.channelTold State.raiseLeak
  split
  · rw [State.raise_eq]
    exact ⟨_, _, rfl⟩
  · exact ⟨s.port.urgent, s.port.routine, rfl⟩

/-- A change of state that enters or leaves WET has the zones that watch the channel evaluated (R118 step 3). -/
theorem State.changeChannel_of_wet {s : State} {c : ChannelId} {r : Channel} (h : (s.channel c).state ≠ r.state)
    (hwet : (s.channel c).state = .wet ∨ r.state = .wet) :
    s.changeChannel c r = (s.channelTold c r).evaluateAll (s.watchers c) := by
  have hwatchers : (s.channelTold c r).watchers c = s.watchers c := by
    obtain ⟨u, q, htold⟩ := s.channelTold_eq c r
    rw [htold]
    rfl
  rw [← hwatchers]
  unfold State.changeChannel
  dsimp only
  rw [if_neg h, if_pos (by simpa using hwet)]
  rfl

/-- Every change of a channel: the record is written, or also noticed and counted, and then zones are evaluated, those
that watch the channel where it has entered or left WET. -/
theorem State.changeChannel_cases (s : State) (c : ChannelId) (r : Channel) :
    ((s.channel c).state = r.state ∧ s.changeChannel c r = s.setChannel c r)
      ∨ ((s.channel c).state ≠ r.state ∧ (s.channel c).state ≠ .wet ∧ r.state ≠ .wet
          ∧ s.changeChannel c r = s.channelTold c r)
      ∨ ((s.channel c).state ≠ r.state ∧ ((s.channel c).state = .wet ∨ r.state = .wet)
          ∧ s.changeChannel c r = (s.channelTold c r).evaluateAll (s.watchers c)) := by
  by_cases h : (s.channel c).state = r.state
  · exact .inl ⟨h, State.changeChannel_of_same h⟩
  · by_cases hwet : (s.channel c).state = .wet ∨ r.state = .wet
    · exact .inr (.inr ⟨h, hwet, State.changeChannel_of_wet h hwet⟩)
    · obtain ⟨hbefore, hafter⟩ := not_or.mp hwet
      exact .inr (.inl ⟨h, hbefore, hafter, State.changeChannel_of_dry h hbefore hafter⟩)

/-! ### The notice of a change of state (R118 step 1) -/

theorem LeakState.broken_iff (x : LeakState) : x.broken = true ↔ x = .opened ∨ x = .short := by
  cases x <;> simp [LeakState.broken]

/-- A change of state into WET is noticed urgent. -/
theorem leakUrgency_wet (before : LeakState) : leakUrgency before .wet = some .urgent := if_pos rfl

/-- A change of state into or out of WET, OPEN or SHORT is noticed. -/
theorem leakUrgency_isSome {before after : LeakState}
    (h : before ∈ [LeakState.wet, .opened, .short] ∨ after ∈ [LeakState.wet, .opened, .short]) :
    ∃ u, leakUrgency before after = some u := by
  simp only [List.mem_cons, List.not_mem_nil, or_false, ← LeakState.broken_iff] at h
  unfold leakUrgency
  split
  · exact ⟨_, rfl⟩
  · next hafter => exact ⟨_, if_pos (by simpa [hafter, or_assoc] using h)⟩

theorem State.channelTold_port {s : State} {c : ChannelId} {r : Channel} {u : Urgency}
    (h : leakUrgency (s.channel c).state r.state = some u) : (s.channelTold c r).port = s.port.raise (.leak c) u := by
  unfold State.channelTold State.raiseLeak
  rw [h]
  rfl

/-! ### Zones that see a WET channel (R95) -/

theorem State.evaluateAll_keepsQueued (s : State) (zs : List ZoneId) : s.keepsQueued (s.evaluateAll zs) := by
  have hone (s : State) (z : ZoneId) : s.keepsQueued (s.evaluate z .ordinary) := by
    unfold State.evaluate
    split
    exacts [(State.handOn_keepsQueued ..).after rfl, .refl s]
  unfold State.evaluateAll
  induction zs generalizing s with
  | nil => exact .refl s
  | cons z zs ih => exact (hone s z).trans (ih _)

/-- A zone that watches a WET channel is evaluated to WET (R95). -/
theorem State.zoneEvaluated_grade_of_wet {s : State} {z : ZoneId} {c : ChannelId} (hw : (s.zone z).cfg.watches c = true)
    (hc : (s.channel c).state = .wet) (cause : EvalCause) : (s.zoneEvaluated z cause).grade = .wet := by
  have hwet : s.wetCondition z = true := (s.wetCondition_iff z).mpr (.inl ⟨c, hw, hc⟩)
  unfold State.zoneEvaluated
  rw [hwet]
  rfl

/-- A margin handed on touches neither the Leak Sense Unit nor the port (R105). -/
theorem State.marginHandover_leak_port (s : State) (z : ZoneId) (before : Option Int) :
    (s.marginHandover z before).leak = s.leak ∧ (s.marginHandover z before).port = s.port := by
  have htrack (u : State) : (u.trackMargin z).leak = u.leak := by
    obtain ⟨e, q, r, h⟩ := u.trackMargin_eventsOnly z
    rw [h]
  unfold State.marginHandover
  rw [htrack, State.trackMargin_port]
  split
  · exact ⟨rfl, rfl⟩
  · obtain ⟨⟨ls, h⟩, -⟩ := s.recomputeProportionalOf_linesOnly z
    rw [h]
    exact ⟨rfl, rfl⟩

/-- The evaluation of a zone that watches a WET channel takes no source out of the urgent segment: its grade changes to
WET or not at all. -/
theorem State.evaluate_keepsUrgent {s : State} {z : ZoneId} {c : ChannelId} (hw : (s.zone z).cfg.watches c = true)
    (hc : (s.channel c).state = .wet) {src : Source} (h : src ∈ s.port.urgent) :
    src ∈ (s.evaluate z .ordinary).port.urgent := by
  by_cases he : (s.zone z).enabled = true
  · have hgrade := State.zoneEvaluated_grade_of_wet hw hc .ordinary
    by_cases hg : (s.zoneEvaluated z .ordinary).grade = (s.zone z).grade
    · rw [State.evaluate_of_grade_eq he hg, (State.marginHandover_leak_port ..).2]
      exact h
    · rw [State.evaluate_of_grade_ne he hg, (State.gradeChange_events_port ..).2, hgrade]
      show src ∈ ((State.eventRise _ z true).trackMargin z).port.urgent
      rw [State.trackMargin_port]
      exact State.eventRise_keepsUrgent _ z true (Port.mem_urgent_raise_of_mem _ _ _ h)
  · rw [State.evaluate, if_neg he]
    exact h

theorem State.evaluate_cfg (s : State) (z y : ZoneId) (cause : EvalCause) :
    ((s.evaluate z cause).zone y).cfg = (s.zone y).cfg := by
  rw [State.zone_evaluate]
  split
  · next h => rw [h.1]; rfl
  · rfl

theorem State.evaluateAll_keepsUrgent {s : State} {zs : List ZoneId} {c : ChannelId}
    (hw : ∀ z ∈ zs, (s.zone z).cfg.watches c = true) (hc : (s.channel c).state = .wet) {src : Source}
    (h : src ∈ s.port.urgent) : src ∈ (s.evaluateAll zs).port.urgent := by
  unfold State.evaluateAll
  induction zs generalizing s with
  | nil => exact h
  | cons z zs ih =>
    obtain ⟨hz, hzs⟩ := List.forall_mem_cons.mp hw
    refine ih (fun y hy => ?_) ?_ (State.evaluate_keepsUrgent hz hc h)
    · rw [State.evaluate_cfg]
      exact hzs y hy
    · rw [(s.evaluate_keeps z .ordinary).channel]
      exact hc

/-! ### A channel's record replaced, and its change of state handed on (R118) -/

/-- A channel enters or leaves WET (R113, R118). -/
def LeakState.crossesWet (before after : LeakState) : Bool := (before == .wet) != (after == .wet)

theorem LeakState.crossesWet_iff (before after : LeakState) :
    before.crossesWet after = true ↔ ¬ (before = .wet ↔ after = .wet) := by
  simp [LeakState.crossesWet]

/-- The count of WET channels where a channel's state goes from one to another, or stays (R113). -/
def wetChannelsAfter (n : Nat) (before after : LeakState) : Nat :=
  n - (if before = .wet ∧ after ≠ .wet then 1 else 0) + (if before ≠ .wet ∧ after = .wet then 1 else 0)

theorem countWet_eq {before after : LeakState} (h : before ≠ after) (n : Nat) :
    countWet n before after = wetChannelsAfter n before after := by
  unfold countWet wetChannelsAfter
  by_cases hb : before = .wet
  · have ha : after ≠ .wet := fun ha => h (hb.trans ha.symm)
    simp [hb, ha]
  · simp [hb]

theorem wetChannelsAfter_same (n : Nat) (state : LeakState) : wetChannelsAfter n state state = n := by
  unfold wetChannelsAfter
  rw [if_neg fun h => h.2 h.1, if_neg fun h => h.1 h.2]
  rfl

/-- Beside the notice queue, the channel and the count of WET channels, a change of a channel keeps what an evaluation
keeps. -/
theorem State.changeChannel_keeps (s : State) (c : ChannelId) (r : Channel) : ∃ urgent routine,
    State.evaluationKeeps { s with
      port := { s.port with urgent := urgent, routine := routine }
      leak := { s.leak with channels := s.leak.channels.set c r
                            wetChannels := wetChannelsAfter s.leak.wetChannels (s.channel c).state r.state } }
      (s.changeChannel c r) := by
  obtain ⟨u, q, htold⟩ := s.channelTold_eq c r
  obtain ⟨h, heq⟩ | ⟨h, -, -, heq⟩ | ⟨h, -, heq⟩ := s.changeChannel_cases c r <;> rw [heq]
  · refine ⟨s.port.urgent, s.port.routine, ?_⟩
    rw [h, wetChannelsAfter_same]
    exact .refl _
  · refine ⟨u, q, ?_⟩
    rw [htold, countWet_eq h]
    exact .refl _
  · refine ⟨u, q, ?_⟩
    rw [htold, countWet_eq h]
    exact State.evaluateAll_keeps ..

theorem State.mem_watchers {s : State} {c : ChannelId} {z : ZoneId} :
    z ∈ s.watchers c ↔ (s.zone z).cfg.watches c = true := by
  simp [State.watchers]

theorem State.nodup_watchers (s : State) (c : ChannelId) : (s.watchers c).Nodup := (List.nodup_finRange 24).filter _

/-- The zones after a change of a channel: where it has entered or left WET, the enabled ones that watch it have been
evaluated on the channel's new record (R118 step 3). -/
theorem State.changeChannel_zone (s : State) (c : ChannelId) (r : Channel) (z : ZoneId) :
    (s.changeChannel c r).zone z =
      if (s.channel c).state.crossesWet r.state = true ∧ (s.zone z).cfg.watches c = true
          ∧ (s.zone z).enabled = true then
        (s.setChannel c r).zoneEvaluated z .ordinary
      else s.zone z := by
  obtain ⟨u, q, htold⟩ := s.channelTold_eq c r
  obtain ⟨h, heq⟩ | ⟨-, hb, ha, heq⟩ | ⟨h, hwet, heq⟩ := s.changeChannel_cases c r
  · rw [heq, if_neg fun hc => (LeakState.crossesWet_iff ..).mp hc.1 (by rw [h])]
    rfl
  · rw [heq, htold, if_neg fun hc => (LeakState.crossesWet_iff ..).mp hc.1 (by simp [hb, ha])]
    rfl
  · have hcrosses : (s.channel c).state.crossesWet r.state = true := by
      refine (LeakState.crossesWet_iff ..).mpr fun hiff => ?_
      obtain hb | ha := hwet
      · exact h (hb.trans (hiff.mp hb).symm)
      · exact h ((hiff.mpr ha).trans ha.symm)
    have hevaluated : (s.channelTold c r).zoneEvaluated z .ordinary = (s.setChannel c r).zoneEvaluated z .ordinary := by
      rw [htold]
      exact State.zoneEvaluated_congr rfl rfl rfl rfl rfl rfl _
    have hzone : (s.channelTold c r).zone z = s.zone z := by
      rw [htold]
      rfl
    rw [heq, State.zone_evaluateAll (s.nodup_watchers c), hevaluated, hzone]
    simp only [hcrosses, State.mem_watchers, true_and]

/-- The Leak Sense Unit after a change of a channel (R113). -/
theorem State.changeChannel_leak (s : State) (c : ChannelId) (r : Channel) : (s.changeChannel c r).leak =
    { s.leak with channels := s.leak.channels.set c r
                  wetChannels := wetChannelsAfter s.leak.wetChannels (s.channel c).state r.state
                  activeZones := (s.changeChannel c r).leak.activeZones } := by
  obtain ⟨u, q, hkeeps⟩ := s.changeChannel_keeps c r
  exact hkeeps.leak

/-- The channels after a change of one: its new record, and the others as they were. -/
theorem State.changeChannel_channel (s : State) (c : ChannelId) (r : Channel) (d : ChannelId) :
    (s.changeChannel c r).channel d = (s.setChannel c r).channel d := by
  rw [State.channel, s.changeChannel_leak c r]
  rfl

/-- Where a channel has neither entered nor left WET no zone is touched (R118). -/
theorem State.changeChannel_zones {s : State} {c : ChannelId} {r : Channel}
    (h : (s.channel c).state = .wet ↔ r.state = .wet) : (s.changeChannel c r).zones = s.zones :=
  Table.ext_get fun z => (s.changeChannel_zone c r z).trans
    (if_neg fun hc => (LeakState.crossesWet_iff ..).mp hc.1 h)

/-- Nor is a zone that is OFF or does not watch the channel. -/
theorem State.changeChannel_unwatched (s : State) (c : ChannelId) (r : Channel) {z : ZoneId}
    (h : (s.zone z).enabled = false ∨ (s.zone z).cfg.leakMask.getLsbD c.val = false) :
    (s.changeChannel c r).zone z = s.zone z := by
  refine (s.changeChannel_zone c r z).trans (if_neg ?_)
  rintro ⟨-, hw, he⟩
  obtain he' | hw' := h
  · exact Bool.false_ne_true (he'.symm.trans he)
  · exact Bool.false_ne_true (hw'.symm.trans hw)

/-- An enabled zone that watches a channel which has entered or left WET is evaluated, on a Leak Sense Unit with the
channel's new record (R95, R118). -/
theorem State.changeChannel_evaluated {s : State} {c : ChannelId} {r : Channel}
    (h : ¬ ((s.channel c).state = .wet ↔ r.state = .wet)) {z : ZoneId} (he : (s.zone z).enabled = true)
    (hw : (s.zone z).cfg.leakMask.getLsbD c.val = true) {l : LeakUnit}
    (hl : l.channels = (s.changeChannel c r).leak.channels) :
    (s.changeChannel c r).zone z = ({ s with leak := l } : State).zoneEvaluated z .ordinary := by
  have hchannels : (s.setChannel c r).leak.channels = l.channels := by
    rw [hl, s.changeChannel_leak c r]
    rfl
  refine (s.changeChannel_zone c r z).trans ((if_pos ⟨(LeakState.crossesWet_iff ..).mpr h, hw, he⟩).trans ?_)
  exact State.zoneEvaluated_congr (s := { s with leak := l }) (t := s.setChannel c r) rfl rfl rfl rfl rfl hchannels _

/-- A zone that watches a channel which has entered WET is WET (R95, R118). -/
theorem State.changeChannel_grade {s : State} {c : ChannelId} {r : Channel} (hb : (s.channel c).state ≠ .wet)
    (ha : r.state = .wet) {z : ZoneId} (he : (s.zone z).enabled = true)
    (hw : (s.zone z).cfg.leakMask.getLsbD c.val = true) : ((s.changeChannel c r).zone z).grade = .wet := by
  have hchannel : ((s.changeChannel c r).channel c).state = .wet := by
    rw [State.changeChannel_channel, State.channel_setChannel_same, ha]
  rw [State.changeChannel_evaluated (by simp [hb, ha]) he hw rfl]
  exact State.zoneEvaluated_grade_of_wet
    (s := { s with leak := (s.changeChannel c r).leak }) (c := c) hw hchannel _

/-- A change of state into or out of WET, OPEN or SHORT leaves the channel in the notice queue (R118 step 1). -/
theorem State.changeChannel_queued {s : State} {c : ChannelId} {r : Channel} (hmask : s.port.mask.leak = true)
    (hne : (s.channel c).state ≠ r.state) (h : (s.channel c).state ∈ [LeakState.wet, .opened, .short]
      ∨ r.state ∈ [LeakState.wet, .opened, .short]) :
    .leak c ∈ (s.changeChannel c r).port.urgent ++ (s.changeChannel c r).port.routine := by
  obtain ⟨u, hu⟩ := leakUrgency_isSome h
  have htold : .leak c ∈ (s.channelTold c r).port.urgent ++ (s.channelTold c r).port.routine := by
    rw [State.channelTold_port hu]
    exact Port.mem_raise _ _ _ hmask
  obtain ⟨heq, -⟩ | ⟨-, -, -, heq⟩ | ⟨-, -, heq⟩ := s.changeChannel_cases c r
  · exact absurd heq hne
  · rwa [heq]
  · rw [heq]
    exact (State.evaluateAll_keepsQueued ..).mem _ htold

/-- A channel that enters WET stands in the urgent segment (R118 step 1). -/
theorem State.changeChannel_urgent {s : State} {c : ChannelId} {r : Channel} (hmask : s.port.mask.leak = true)
    (hb : (s.channel c).state ≠ .wet) (ha : r.state = .wet) : .leak c ∈ (s.changeChannel c r).port.urgent := by
  have hu : leakUrgency (s.channel c).state r.state = some .urgent := by rw [ha, leakUrgency_wet]
  rw [State.changeChannel_of_wet (fun h => hb (h.trans ha)) (.inr ha)]
  obtain ⟨u, q, htold⟩ := s.channelTold_eq c r
  refine State.evaluateAll_keepsUrgent (c := c) (fun z hz => ?_) ?_ ?_
  · rw [htold]
    exact State.mem_watchers.mp hz
  · have hchannel : (s.channelTold c r).channel c = r := by
      rw [htold]
      exact Table.get_set_same ..
    rw [hchannel, ha]
  · rw [State.channelTold_port hu]
    exact Port.mem_raise_urgent _ _ hmask

end Sys2Proof.Machine
end

section
/-! Rounds (R111 to R113, R118, R122), and the requests that reset a channel (R118, R120 to R122). -/

namespace Sys2Proof.Machine

open Sys2Proof

/-! ### Rounds (R111 to R113) -/

theorem LeakUnit.wanted_eq (l : LeakUnit) :
    l.wanted = if l.activeZones = 0 ∧ l.wetChannels = 0 then .slow else .fast := by
  unfold LeakUnit.wanted
  by_cases h : l.activeZones = 0 ∧ l.wetChannels = 0
  · rw [if_pos h, if_neg (by simp [h])]
  · rw [if_neg h, if_pos]
    simp only [Bool.or_eq_true, decide_eq_true_eq]
    omega

theorem LeakUnit.wanted_interval (l : LeakUnit) :
    l.wanted.interval = if l.activeZones = 0 ∧ l.wetChannels = 0 then 4000 else 500 := by
  rw [l.wanted_eq]
  split <;> rfl

/-- The gate that opens next depends only on which channels from there on are enabled (R112). -/
theorem State.nextChannel_congr {s t : State} {n : Nat}
    (h : ∀ d : ChannelId, n ≤ d.val → (t.channel d).enabled = (s.channel d).enabled) :
    t.nextChannel n = s.nextChannel n := by
  unfold State.nextChannel
  congr 1
  funext d
  by_cases hd : n ≤ d.val
  · rw [h d hd]
  · simp [hd]

theorem execRoundStart_eq {s : State} (hp : s.power = .running) (hl : s.lineSound) (hpos : s.leak.position = none) :
    exec .roundStart s = .next s.startRound := by
  have hself : (if s.leak.position.isSome then s else s.startRound) = s.startRound := by rw [hpos]; rfl
  exact (fieldEvent_of_lineSound (f := fun s => if s.leak.position.isSome then s else s.startRound) hp hl
    (by rw [hself]; rfl)).trans (congrArg _ hself)

/-- A gate's count judged, or discarded where a request has reset the channel meanwhile (R111, R122). -/
def State.gateJudged (s : State) (c : ChannelId) (n : Nat) : State :=
  if s.leak.discard then s else s.changeChannel c ((s.channel c).judged n)

/-- Then the round goes on (R112). -/
theorem execGateClose_eq {s : State} (hp : s.power = .running) {c : ChannelId} (hc : s.leak.position = some c)
    (cycles : Nat) :
    exec (.gateClose cycles) s = .next ((s.gateJudged c (min cycles 4095)).advanceRound c).arbitrate := by
  show fieldEvent (fun s => s.closeGate cycles) s = _
  rw [fieldEvent, if_pos hp, finish, State.closeGate, hc]
  rfl

/-- What the judging of a gate's count leaves alone. -/
structure State.gateKeeps (s : State) (c : ChannelId) (u : State) : Prop where
  applied   : u.leak.applied = s.leak.applied
  countdown : u.leak.countdown = s.leak.countdown
  others    : ∀ d, d ≠ c → u.channel d = s.channel d
  probes    : u.probes = s.probes
  engines   : u.engines = s.engines
  map       : u.map = s.map
  scan      : u.scan = s.scan
  slots     : u.slots = s.slots

theorem State.gateJudged_keeps (s : State) (c : ChannelId) (n : Nat) : s.gateKeeps c (s.gateJudged c n) := by
  unfold State.gateJudged
  split
  · exact ⟨rfl, rfl, fun _ _ => rfl, rfl, rfl, rfl, rfl, rfl⟩
  · obtain ⟨u, q, hkeeps⟩ := s.changeChannel_keeps c ((s.channel c).judged n)
    exact ⟨by rw [hkeeps.leak], by rw [hkeeps.leak],
      fun d hd => (s.changeChannel_channel c _ d).trans (State.channel_setChannel_of_ne _ _ hd),
      hkeeps.probes, hkeeps.engines, hkeeps.map, hkeeps.scan, hkeeps.slots⟩

/-- The round going on touches the position, the discard mark and the port alone. -/
theorem State.advanceRound_arbitrate (u : State) (c : ChannelId) : ∃ p, (u.advanceRound c).arbitrate =
    { u with port := p, leak := { u.leak with position := u.nextChannel (c.val + 1), discard := false } } :=
  ⟨_, State.arbitrate_eq _⟩

/-- Settles O43: a round's start by its fields; the close of a gate by what `State.changeChannel` does to the channel,
the zones and the notice queue. -/
theorem roundsMeasureInOrder : Obligations.RoundsMeasureInOrder := by
  refine ⟨fun s hp hl hpos => ?start, fun s c cycles n before after hp hpos hn hbefore hafter => ?close⟩
  case start =>
    rw [execRoundStart_eq hp hl hpos, State.startRound, LeakUnit.wanted_interval, LeakUnit.wanted_eq]
    simp only [State.nextChannel, Nat.zero_le, decide_true, Bool.true_and]
  case close =>
    have hk := s.gateJudged_keeps c n
    have hnoticed := State.noticed_arbitrate (s := (s.gateJudged c n).advanceRound c) (src := .leak c)
    have hurgent := State.urgent_arbitrate (s := (s.gateJudged c n).advanceRound c) (src := .leak c)
    have hnext : (s.gateJudged c n).nextChannel (c.val + 1) = s.nextChannel (c.val + 1) :=
      State.nextChannel_congr fun d hd => by rw [hk.others d (by rintro rfl; omega)]
    obtain ⟨p, ht⟩ := (s.gateJudged c n).advanceRound_arbitrate c
    have hexec := execGateClose_eq hp hpos cycles
    rw [← hn, ht] at hexec
    rw [ht] at hnoticed hurgent
    refine ⟨_, hexec, hnext, rfl, hk.applied, hk.countdown, hk.others, hk.probes, hk.engines, hk.map, hk.scan, hk.slots,
      fun hd => ?discarded, fun hd => ?judged⟩
    case discarded =>
      have hself : s.gateJudged c n = s := if_pos hd
      rw [hself]
      exact ⟨rfl, rfl⟩
    case judged =>
      have hchange : s.gateJudged c n = s.changeChannel c ((s.channel c).judged n) :=
        if_neg (Bool.eq_false_iff.mp hd)
      rw [hchange] at hnoticed hurgent ⊢
      subst hbefore hafter
      refine ⟨?record, congrArg LeakUnit.wetChannels (s.changeChannel_leak c _), State.changeChannel_zones,
        fun hx => ⟨fun z he hw => State.changeChannel_evaluated hx he hw rfl,
          fun z hz => s.changeChannel_unwatched c _ hz⟩,
        fun hb ha => ⟨fun z he hw => State.changeChannel_grade hb ha he hw,
          fun hmask => (hurgent (State.changeChannel_urgent hmask hb ha)).symm⟩,
        fun hne hstates hmask => hnoticed (State.changeChannel_queued hmask hne ?states)⟩
      case record => exact (s.changeChannel_channel c _ c).trans (State.channel_setChannel_same ..)
      case states => exact hstates.imp_right (List.mem_cons_of_mem _)

end Sys2Proof.Machine
end

section
/-! Leak Setup and Leak Recalibrate (R118, R120 to R122): what both come to is one reset of a channel. -/

namespace Sys2Proof.Machine

open Sys2Proof

/-! ### A channel reset (R118, R122) -/

/-- The count of the open gate is discarded where it is the channel's own (R122). -/
theorem State.discardGate_eq (s : State) (c : ChannelId) : s.discardGate c =
    s.setLeak { s.leak with discard := s.leak.discard || s.leak.position == some c } := by
  unfold State.discardGate
  by_cases h : s.leak.position = some c
  · rw [if_pos h, h, beq_self_eq_true, Bool.or_true]
  · rw [if_neg h, beq_eq_false_iff_ne.mpr h, Bool.or_false]
    rfl

/-- From s to t a request has reset the channel, and f has been completed: the channel has the record r, its open gate's
count is discarded, and its way out of WET, OPEN or SHORT is handed on (R118, R120 to R122). -/
structure State.channelReset (s : State) (c : ChannelId) (r : Channel) (f : OutFrame) (t : State) : Prop where
  channel   : t.channel c = r
  others    : ∀ d, d ≠ c → t.channel d = s.channel d
  discard   : t.leak.discard = (s.leak.discard || s.leak.position == some c)
  position  : t.leak.position = s.leak.position
  wet       : t.leak.wetChannels = s.leak.wetChannels - (if (s.channel c).state = .wet then 1 else 0)
  evaluated : (s.channel c).state = .wet → ∀ z, (s.zone z).enabled = true →
    (s.zone z).cfg.leakMask.getLsbD c.val = true →
    t.zone z = ({ s with leak := t.leak } : State).zoneEvaluated z .ordinary
  untouched : ∀ z, (s.zone z).enabled = false ∨ (s.zone z).cfg.leakMask.getLsbD c.val = false
    ∨ (s.channel c).state ≠ .wet → t.zone z = s.zone z
  probes    : t.probes = s.probes
  engines   : t.engines = s.engines
  map       : t.map = s.map
  scan      : t.scan = s.scan
  slots     : t.slots = s.slots
  notice    : s.port.mask.leak = true → (s.channel c).state = .wet ∨ (s.channel c).state = .opened
    ∨ (s.channel c).state = .short → .leak c ∈ t.port.urgent ++ t.port.routine
  outgoing  : t.port.outgoing = s.port.outgoing ++ [f]

theorem wetChannelsAfter_dry (n : Nat) {before after : LeakState} (h : after ≠ .wet) :
    wetChannelsAfter n before after = n - (if before = .wet then 1 else 0) := by
  simp [wetChannelsAfter, h]

/-- A request that leaves the channel OFF or CALIBRATING resets it. -/
theorem State.resetChannel_channelReset (s : State) (c : ChannelId) {r : Channel}
    (hr : r.state = .off ∨ r.state = .calibrating) (f : OutFrame) :
    s.channelReset c r f ((s.resetChannel c r).answered f) := by
  have hdry : r.state ≠ .wet := by obtain h | h := hr <;> rw [h] <;> decide
  have hnew : r.state ∉ [LeakState.wet, .opened, .short] := by obtain h | h := hr <;> rw [h] <;> decide
  obtain ⟨urgent, routine, mask, hport⟩ := s.resetChannel_noticesOnly c r
  obtain ⟨u, hu⟩ : ∃ u, u = s.discardGate c := ⟨_, rfl⟩
  have hreset : s.resetChannel c r = u.changeChannel c r := by rw [hu]; rfl
  rw [s.discardGate_eq] at hu
  have hleak := u.changeChannel_leak c r
  have hchannel := u.changeChannel_channel c r
  have hevaluated := State.changeChannel_evaluated (s := u) (c := c) (r := r)
  have hunwatched := @State.changeChannel_unwatched u c r
  have hzones := State.changeChannel_zones (s := u) (c := c) (r := r)
  have hqueued := State.changeChannel_queued (s := u) (c := c) (r := r)
  obtain ⟨q, q', hkeeps⟩ := u.changeChannel_keeps c r
  rw [hreset] at hport ⊢
  subst hu
  exact
    { channel := (hchannel c).trans (State.channel_setChannel_same ..)
      others := fun d hd => (hchannel d).trans (State.channel_setChannel_of_ne _ _ hd)
      discard := by rw [State.answered, State.setPort_leak, hleak]; rfl
      position := by rw [State.answered, State.setPort_leak, hleak]; rfl
      wet := (congrArg LeakUnit.wetChannels hleak).trans (wetChannelsAfter_dry _ hdry)
      evaluated := fun hw z he hm => hevaluated (fun h => hdry (h.mp hw)) he hm rfl
      untouched := fun z hz => by
        obtain he | hm | hw := hz
        · exact hunwatched (.inl he)
        · exact hunwatched (.inr hm)
        · exact congrArg (fun zones => Table.get zones z) (hzones (iff_of_false hw hdry))
      probes := hkeeps.probes
      engines := hkeeps.engines
      map := hkeeps.map
      scan := hkeeps.scan
      slots := hkeeps.slots
      notice := fun hmask hstates => by
        have hbefore : (s.channel c).state ∈ [LeakState.wet, .opened, .short] := by simpa using hstates
        exact hqueued hmask (fun h => hnew (h ▸ hbefore)) (.inl hbefore)
      outgoing := by
        rw [State.answered_outgoing, Port.outgoing, hport]
        rfl }

/-! ### Leak Setup (R120) and Leak Recalibrate (R121) -/

theorem State.resetChannel_executing (s : State) (c : ChannelId) (r : Channel) :
    (s.resetChannel c r).port.executing = s.port.executing := by
  obtain ⟨urgent, routine, mask, hport⟩ := s.resetChannel_noticesOnly c r
  rw [hport]

theorem State.resetChannel_channel (s : State) (c : ChannelId) (r : Channel) : (s.resetChannel c r).channel c = r :=
  (State.changeChannel_channel ..).trans (State.channel_setChannel_same ..)

/-- A Leak Setup payload that names a row's own enable value is of that row (assumption 21). -/
theorem exec_leakSetup {p : List Byte} {enable : Bool} (he : u8 p 1 = if enable then 1 else 0) (tag : Byte)
    (s : State) :
    exec (if enable then .leakSetupEnable tag p else .leakSetupDisable tag p) s =
      runRequest leakSetupService tag p s := by
  cases enable with
  | true => exact if_neg (by simp [otherLeakRow, he, bool?])
  | false => exact if_neg (by simp [otherLeakRow, he, bool?])

theorem leakSetup_status (dw hy dw' hy' : Nat) : takenStatus (dw != dw' || hy != hy') =
    if dw = dw' ∧ hy = hy' then .ok else .adjusted := by
  by_cases h : dw = dw' ∧ hy = hy'
  · simp [takenStatus, h.1, h.2]
  · rw [if_neg h]
    refine if_pos ?_
    simpa [imp_iff_not_or] using h

/-- Leak Setup's work on a channel the part has, with a listed enable byte (R120). -/
theorem leakSetupWork_eq {p : List Byte} {c : ChannelId} {enable : Bool} (hc : u8 p 0 = c.val)
    (he : u8 p 1 = if enable then 1 else 0) {dw hy : Nat} (hdw : leakDw (u16 p 2) = dw)
    (hhy : leakHy (u16 p 2) (u16 p 4) = hy) (s : State) :
    leakSetupWork p s = (s.resetChannel c ((s.channel c).setUp enable dw hy),
      ⟨if dw = u16 p 2 ∧ hy = u16 p 4 then .ok else .adjusted,
        [byte c.val, boolByte enable] ++ be16 dw ++ be16 hy ++ [((s.channel c).setUp enable dw hy).state.code]⟩) := by
  have henable : bool? (u8 p 1) = some enable := by rw [he]; cases enable <;> rfl
  unfold leakSetupWork
  rw [hc, fin?_val, henable]
  dsimp only
  rw [hdw, hhy, State.resetChannel_channel, leakSetup_status]

theorem leakRecalibrateWork_eq (s : State) (c : ChannelId) : leakRecalibrateWork [byte c.val] s =
    if (s.channel c).state = .off then (s, Reply.bare .wrongState)
    else (s.resetChannel c (s.channel c).recalibrated, ⟨.ok, [byte c.val, (s.channel c).state.code, 1]⟩) := by
  unfold leakRecalibrateWork
  rw [fin?_byte (by decide)]
  dsimp only
  rw [State.resetChannel_channel]
  rfl

theorem Channel.setUp_state (c : Channel) (enabled : Bool) (dw hy : Nat) :
    (c.setUp enabled dw hy).state = .off ∨ (c.setUp enabled dw hy).state = .calibrating := by
  cases enabled with
  | true => exact .inr rfl
  | false => exact .inl rfl

/-- Settles O44: both requests are a reset of the channel, by `State.resetChannel_channelReset`. -/
theorem leakRequestsResetTheChannel : Obligations.LeakRequestsResetTheChannel := by
  intro s s0 tag c
  refine ⟨fun p enable dw hy r hb hl hc he hdw hhy hr => ?setup, fun hb => ⟨fun hoff => ?off, fun hon => ?recalibrate⟩⟩
  case setup =>
    have hdw' : leakDw (u16 p 2) = dw := (leakDw_eq _).trans hdw.symm
    have hhy' : leakHy (u16 p 2) (u16 p 4) = hy := by rw [leakHy_eq, hdw', hhy]
    obtain rfl : (s0.channel c).setUp enable dw hy = r := hr.symm
    have hwork := leakSetupWork_eq hc he hdw' hhy' s0
    have hexec := (exec_leakSetup he tag s).trans (runRequest_answered (v := leakSetupService) (by decide) hb hl hwork
      (State.resetChannel_executing ..))
    have h := s0.resetChannel_channelReset c (Channel.setUp_state (s0.channel c) enable dw hy) (replyTo 0x30 tag
      (if dw = u16 p 2 ∧ hy = u16 p 4 then .ok else .adjusted)
      ([byte c.val, boolByte enable] ++ be16 dw ++ be16 hy ++ [((s0.channel c).setUp enable dw hy).state.code]))
    exact ⟨_, hexec, h.channel, h.others, h.discard, h.position, h.wet, h.evaluated, h.untouched, h.probes, h.engines,
      h.map, h.scan, h.slots, h.notice, h.outgoing⟩
  case off =>
    exact runRequest_answered (v := leakRecalibrateService) (by decide) hb rfl
      ((leakRecalibrateWork_eq s0 c).trans (if_pos hoff)) rfl
  case recalibrate =>
    have hexec := runRequest_answered (v := leakRecalibrateService) (by decide) hb rfl
      ((leakRecalibrateWork_eq s0 c).trans (if_neg hon)) (State.resetChannel_executing ..)
    have h := s0.resetChannel_channelReset c (r := (s0.channel c).recalibrated) (.inr rfl)
      (replyTo 0x31 tag .ok [byte c.val, (s0.channel c).state.code, 1])
    exact ⟨_, hexec, h.channel, h.others, h.discard, h.wet, h.evaluated, h.untouched, h.notice, h.probes, h.engines,
      h.map, h.scan, h.slots, h.outgoing⟩

end Sys2Proof.Machine
end

section
/-! Every step keeps the Leak Sense Unit sound (R110, R113, R120): most operations leave the channels alone and let the
active-zone count follow the grades (`State.leakFollows`); the few on the channels keep each of them good and let the
wet-channel count follow. -/

namespace Sys2Proof.Machine

open Sys2Proof

/-! ### Counting with one entry changed (R113) -/

/-- A count over all numbers below n where at most one entry has changed: that entry is counted out as it was and in as
it is. -/
theorem length_filter_finRange_changed {n : Nat} {p q : Fin n → Bool} {i : Fin n} (h : ∀ j, j ≠ i → q j = p j) :
    ((List.finRange n).filter q).length =
      ((List.finRange n).filter p).length - (if p i then 1 else 0) + (if q i then 1 else 0) := by
  have hperm := List.perm_cons_erase (List.mem_finRange i)
  have hrest : ((List.finRange n).erase i).countP q = ((List.finRange n).erase i).countP p :=
    List.countP_congr fun j hj => by rw [h j ((List.nodup_finRange n).mem_erase_iff.mp hj).1]
  rw [← List.countP_eq_length_filter, ← List.countP_eq_length_filter, hperm.countP_eq q, hperm.countP_eq p,
    List.countP_cons, List.countP_cons, hrest]
  omega

/-- The count of active zones is true (R113). -/
def State.activeCounted (s : State) : Prop :=
  s.leak.activeZones = ((List.finRange 24).filter fun z => (s.zone z).grade.isActive).length

/-- The count of WET channels is true (R113). -/
def State.wetCounted (s : State) : Prop :=
  s.leak.wetChannels = ((List.finRange 8).filter fun c => (s.channel c).state == .wet).length

theorem State.activeCounted_of_grades {s t : State} (hz : ∀ z, (t.zone z).grade = (s.zone z).grade)
    (hn : t.leak.activeZones = s.leak.activeZones) (h : s.activeCounted) : t.activeCounted := by
  rw [State.activeCounted, hn, h]
  simp only [hz]

/-- The count follows one zone's grade (R113). -/
theorem State.activeCounted_of_changed {s t : State} {z : ZoneId} (hz : ∀ y, y ≠ z → t.zone y = s.zone y)
    (hn : t.leak.activeZones = countActive s.leak.activeZones (s.zone z).grade (t.zone z).grade)
    (h : s.activeCounted) : t.activeCounted := by
  have hcount := length_filter_finRange_changed (p := fun y => (s.zone y).grade.isActive)
    (q := fun y => (t.zone y).grade.isActive) (i := z) fun y hy => by rw [hz y hy]
  rw [State.activeCounted, hn, countActive, h, hcount]

/-- The count follows one channel's state (R113). -/
theorem State.wetCounted_of_changed {s t : State} {c : ChannelId} (hc : ∀ d, d ≠ c → t.channel d = s.channel d)
    (hn : t.leak.wetChannels = countWet s.leak.wetChannels (s.channel c).state (t.channel c).state)
    (h : s.wetCounted) : t.wetCounted := by
  have hcount := length_filter_finRange_changed (p := fun d => (s.channel d).state == .wet)
    (q := fun d => (t.channel d).state == .wet) (i := c) fun d hd => by rw [hc d hd]
  simp only [beq_iff_eq] at hcount
  rw [State.wetCounted, hn, countWet, h, hcount]

/-- A zone's new record is handed on: the count follows its grade (R104 step 4, R113). -/
theorem State.activeCounted.handOn {s : State} (h : s.activeCounted) (z : ZoneId) (r : ZoneRecord) :
    ((s.setZone z r).handOn z (s.zone z)).activeCounted := by
  have hself : ((s.setZone z r).handOn z (s.zone z)).zone z = r := by
    rw [State.zone, (State.handOn_handedOn ..).zones]
    exact State.zone_setZone_same ..
  have hothers (y : ZoneId) (hy : y ≠ z) : ((s.setZone z r).handOn z (s.zone z)).zone y = s.zone y := by
    rw [State.zone, (State.handOn_handedOn ..).zones]
    exact State.zone_setZone_of_ne _ _ hy
  by_cases hg : r.grade = (s.zone z).grade
  · refine State.activeCounted_of_grades (fun y => ?_) ?_ h
    · by_cases hy : y = z
      · rw [hy, hself, hg]
      · rw [hothers y hy]
    · rw [State.handOn, State.zone_setZone_same, if_pos hg, (State.marginHandover_leak_port ..).1]
      rfl
  · refine State.activeCounted_of_changed hothers ?_ h
    rw [hself, State.handOn, State.zone_setZone_same, if_neg hg]
    exact State.gradeChange_activeZones ..

/-! ### Operations that leave the channels alone -/

/-- t has the channels, the wet-channel count and the channels in store of s, and its active-zone count is true where
that of s is (R113). -/
structure State.leakFollows (s t : State) : Prop where
  channels    : t.leak.channels = s.leak.channels
  wetChannels : t.leak.wetChannels = s.leak.wetChannels
  stored      : t.store.contents.channels = s.store.contents.channels
  active      : s.activeCounted → t.activeCounted

theorem State.leakFollows.refl (s : State) : s.leakFollows s := ⟨rfl, rfl, rfl, id⟩

theorem State.leakFollows.trans {s t v : State} (h : s.leakFollows t) (h' : t.leakFollows v) : s.leakFollows v :=
  ⟨h'.channels.trans h.channels, h'.wetChannels.trans h.wetChannels, h'.stored.trans h.stored, h'.active ∘ h.active⟩

/-- An operation on neither the channels, the zones nor the store. -/
theorem State.leakFollows.of_rest {s t : State} (hz : t.zones = s.zones) (hl : t.leak = s.leak)
    (hs : t.store.contents.channels = s.store.contents.channels) : s.leakFollows t :=
  ⟨by rw [hl], by rw [hl], hs,
    State.activeCounted_of_grades (fun z => by rw [State.zone, hz]; rfl) (by rw [hl])⟩

theorem State.trunksOnly.leakFollows {s t : State} (h : s.trunksOnly t) : s.leakFollows t := by
  obtain ⟨es, ks, p, rfl⟩ := h
  exact .of_rest rfl rfl rfl

theorem State.eventsOnly.leakFollows {s t : State} (h : s.eventsOnly t) : s.leakFollows t := by
  obtain ⟨e, u, r, rfl⟩ := h
  exact .of_rest rfl rfl rfl

theorem State.linesOnly.leakFollows {s t : State} (h : s.linesOnly t) : s.leakFollows t := by
  obtain ⟨⟨ls, rfl⟩, -⟩ := h
  exact .of_rest rfl rfl rfl

theorem State.setProbe_leakFollows (s : State) (a : Addr) (p : ProbeRecord) : s.leakFollows (s.setProbe a p) :=
  .of_rest rfl rfl rfl

/-- A zone's record that keeps its grade. -/
theorem State.setZone_leakFollows (s : State) (z : ZoneId) {r : ZoneRecord} (h : r.grade = (s.zone z).grade) :
    s.leakFollows (s.setZone z r) where
  channels := rfl
  wetChannels := rfl
  stored := rfl
  active := by
    refine State.activeCounted_of_grades (fun y => ?_) rfl
    by_cases hy : y = z
    · rw [hy, State.zone_setZone_same, h]
    · rw [State.zone_setZone_of_ne _ _ hy]

theorem State.handOn_leakFollows (s : State) (z : ZoneId) (r : ZoneRecord) :
    s.leakFollows ((s.setZone z r).handOn z (s.zone z)) := by
  have hkeeps := (State.handOn_handedOn (s.setZone z r) z (s.zone z)).keeps
  exact ⟨by rw [hkeeps.leak]; rfl, by rw [hkeeps.leak]; rfl, by rw [hkeeps.store]; rfl, fun h => h.handOn z r⟩

theorem State.evaluate_leakFollows (s : State) (z : ZoneId) (cause : EvalCause) :
    s.leakFollows (s.evaluate z cause) := by
  unfold State.evaluate
  split
  exacts [s.handOn_leakFollows z _, .refl s]

theorem State.evaluateAll_leakFollows (s : State) (zs : List ZoneId) : s.leakFollows (s.evaluateAll zs) := by
  unfold State.evaluateAll
  induction zs generalizing s with
  | nil => exact .refl s
  | cons z zs ih => exact (s.evaluate_leakFollows z .ordinary).trans (ih _)

theorem State.evaluateAt_leakFollows (s : State) (a : Addr) : s.leakFollows (s.evaluateAt a) := by
  unfold State.evaluateAt
  split
  exacts [s.evaluate_leakFollows .., .refl s]

theorem State.handToProbe_leakFollows (s : State) (a : Addr) (res : AttemptResult) (o : ProbeOutcome) :
    s.leakFollows (s.handToProbe a res o) := by
  have hwritten (p : ProbeRecord) (raises : Bool) : s.leakFollows ((s.writeProbe a p raises).evaluateAt a) :=
    ((s.setProbe_leakFollows a p).trans (s.writeProbe_trunksOnly a p raises).leakFollows).trans
      (State.evaluateAt_leakFollows ..)
  unfold State.handToProbe State.applyOutcome
  simp only [State.failProbe_eq, State.storeReading_eq]
  split
  · cases o with
    | good => dsimp only; split; exacts [hwritten .., .refl s]
    | tainted => dsimp only; split; exacts [hwritten .., .refl s]
    | noAnswer => exact hwritten ..
    | badCheck => exact hwritten ..
    | kindMismatch => exact hwritten ..
    | notReady => exact .refl s
    | notReadyLimit => exact .refl s
    | trunkHalted => exact .refl s
  · exact .refl s

theorem State.expireAge_leakFollows (s : State) (a : Addr) : s.leakFollows (s.expireAge a) := by
  unfold State.expireAge
  split
  exacts [(s.setProbe_leakFollows ..).trans (State.evaluateAt_leakFollows ..), .refl s]

theorem State.expireDwell_leakFollows (s : State) (z : ZoneId) : s.leakFollows (s.expireDwell z) := by
  unfold State.expireDwell
  split
  exacts [(s.setZone_leakFollows _ (by rfl)).trans (State.evaluate_leakFollows ..), .refl s]

theorem State.changeMap_leakFollows (s : State) (m : ZoneMap) : s.leakFollows (s.changeMap m) :=
  (State.leakFollows.of_rest (s := s) (t := s.setMap m) rfl rfl rfl).trans (State.evaluateAll_leakFollows ..)

theorem State.changeMaxAge_leakFollows (s : State) (age : Nat) : s.leakFollows (s.changeMaxAge age) :=
  (State.leakFollows.of_rest (s := s) (t := s.rejudgedUnder age) rfl rfl rfl).trans (State.evaluateAll_leakFollows ..)

theorem State.setScanMode_leakFollows (s : State) (mode : ScanMode) (period : Nat) :
    s.leakFollows (s.setScanMode mode period) := by
  obtain ⟨t, es, h⟩ := s.setScanMode_eq mode period
  rw [h]
  exact .of_rest rfl rfl rfl

theorem State.keepDone_leakFollows (s : State) (agrees : Bool) : s.leakFollows (s.keepDone agrees) := by
  unfold State.keepDone State.endKeep
  split
  · cases agrees <;> exact .of_rest rfl rfl rfl
  · exact .refl s
  · exact .refl s

/-- An OFF zone turned on: the change is handed on from the record before it, as one (R91). -/
theorem State.turnOn_leakFollows (s : State) (z : ZoneId) : s.leakFollows (s.turnOn z) := by
  have hset (r r' : ZoneRecord) : (s.setZone z r).setZone z r' = s.setZone z r' :=
    congrArg (fun zones => { s with zones := zones }) (Table.set_set ..)
  unfold State.turnOn
  dsimp only
  rw [hset]
  exact s.handOn_leakFollows ..

/-! ### The requests that leave the channels alone -/

/-- The requests whose work sets a channel up or recalibrates it (R120, R121). -/
def leakServices : List Service := [leakSetupService, leakRecalibrateService]

theorem noticeMaskWork_leakFollows (p : List Byte) (s : State) : s.leakFollows (noticeMaskWork p s).1 := by
  unfold noticeMaskWork
  split <;> exact .of_rest rfl rfl rfl

theorem trunkRestartWork_leakFollows (p : List Byte) (s : State) : s.leakFollows (trunkRestartWork p s).1 := by
  unfold trunkRestartWork
  repeat' split
  exacts [.refl s, ((s.setEngine_trunksOnly ..).trans (State.raise_trunksOnly ..)).leakFollows, .refl s]

theorem trunkSetupWork_leakFollows (p : List Byte) (s : State) : s.leakFollows (trunkSetupWork p s).1 := by
  unfold trunkSetupWork
  split <;> exact .of_rest rfl rfl rfl

theorem surveyCancelWork_leakFollows (p : List Byte) (s : State) : s.leakFollows (surveyCancelWork p s).1 := by
  unfold surveyCancelWork
  repeat' split
  all_goals exact .of_rest rfl rfl rfl

theorem defineProbeWork_leakFollows (p : List Byte) (s : State) : s.leakFollows (defineProbeWork p s).1 := by
  unfold defineProbeWork
  split
  exacts [(s.setProbe_leakFollows ..).trans (State.evaluateAt_leakFollows ..), .refl s]

theorem retireProbeWork_leakFollows (p : List Byte) (s : State) : s.leakFollows (retireProbeWork p s).1 := by
  unfold retireProbeWork
  repeat' split
  exacts [.refl s, ((s.setEngine_trunksOnly ..).leakFollows.trans (State.setProbe_leakFollows ..)).trans
    (State.evaluateAt_leakFollows ..), .refl s]

theorem scanSetupWork_leakFollows (p : List Byte) (s : State) : s.leakFollows (scanSetupWork p s).1 := by
  unfold scanSetupWork
  split
  exacts [.refl s, (State.setScanMode_leakFollows ..).trans (State.changeMaxAge_leakFollows ..)]

theorem mapPointWork_leakFollows (p : List Byte) (s : State) : s.leakFollows (mapPointWork p s).1 := by
  unfold mapPointWork
  repeat' split
  exacts [s.changeMap_leakFollows _, .refl s, .refl s]

theorem unmapPointWork_leakFollows (p : List Byte) (s : State) : s.leakFollows (unmapPointWork p s).1 := by
  unfold unmapPointWork
  repeat' split
  exacts [.refl s, .refl s, s.changeMap_leakFollows _]

theorem mapSpanWork_leakFollows (p : List Byte) (s : State) : s.leakFollows (mapSpanWork p s).1 := by
  unfold mapSpanWork State.mapSpan
  repeat' split
  exacts [.refl s, s.changeMap_leakFollows _, .refl s, s.changeMap_leakFollows _, .refl s, .refl s]

theorem unmapSpanWork_leakFollows (p : List Byte) (s : State) : s.leakFollows (unmapSpanWork p s).1 := by
  unfold unmapSpanWork
  repeat' split
  exacts [.refl s, .refl s, s.changeMap_leakFollows _, .refl s]

theorem zoneSetupWork_leakFollows (p : List Byte) (s : State) : s.leakFollows (zoneSetupWork p s).1 := by
  unfold zoneSetupWork
  dsimp only
  repeat' split
  exacts [.refl s, (s.setZone_leakFollows _ (by rfl)).trans (State.evaluate_leakFollows ..), .refl s]

theorem zoneOnWork_leakFollows (p : List Byte) (s : State) : s.leakFollows (zoneOnWork p s).1 := by
  unfold zoneOnWork
  repeat' split
  exacts [.refl s, .refl s, s.turnOn_leakFollows _]

theorem zoneOffWork_leakFollows (p : List Byte) (s : State) : s.leakFollows (zoneOffWork p s).1 := by
  unfold zoneOffWork
  repeat' split
  exacts [.refl s, s.handOn_leakFollows .., .refl s]

theorem lineSetupWork_leakFollows (p : List Byte) (s : State) : s.leakFollows (lineSetupWork p s).1 := by
  unfold lineSetupWork
  split <;> exact .of_rest rfl rfl rfl

theorem lineReleaseWork_leakFollows (p : List Byte) (s : State) : s.leakFollows (lineReleaseWork p s).1 := by
  unfold lineReleaseWork
  repeat' split
  all_goals exact .of_rest rfl rfl rfl

theorem eventAckWork_leakFollows (p : List Byte) (s : State) : s.leakFollows (eventAckWork p s).1 := by
  unfold eventAckWork
  repeat' split
  exacts [.refl s, .refl s, (s.setRecord_eventsOnly ..).leakFollows, .refl s,
    (s.removeRecord_eventsOnly ..).leakFollows]

/-- Every request that is one step leaves the channels alone, but those of `leakServices`. -/
theorem work_leakFollows : ∀ v ∈ requestServices, v ∈ leakServices ∨
    ∀ (p : List Byte) (s : State), s.leakFollows (v.work p s).1 := by
  simp only [requestServices, List.forall_mem_cons]
  refine ⟨?identify, ?summary, .inr noticeMaskWork_leakFollows, .inr defineProbeWork_leakFollows,
    .inr retireProbeWork_leakFollows, ?probeQuery, .inr trunkRestartWork_leakFollows,
    .inr trunkSetupWork_leakFollows, .inr scanSetupWork_leakFollows, .inr surveyCancelWork_leakFollows,
    .inr mapPointWork_leakFollows, .inr mapSpanWork_leakFollows, .inr unmapPointWork_leakFollows,
    .inr unmapSpanWork_leakFollows, ?mapQuery, .inr zoneSetupWork_leakFollows, .inr zoneOnWork_leakFollows,
    .inr zoneOffWork_leakFollows, ?zoneQuery, ?leakSetup, ?leakRecalibrate, ?leakQuery,
    .inr lineSetupWork_leakFollows, .inr lineReleaseWork_leakFollows, ?lineQuery, ?eventList, ?eventQuery,
    .inr eventAckWork_leakFollows, fun v hv => absurd hv List.not_mem_nil⟩
  case leakSetup | leakRecalibrate => exact .inl (by simp [leakServices])
  all_goals exact .inr fun p s => .refl s

end Sys2Proof.Machine
end

section
/-! Every step keeps the Leak Sense Unit sound (R110, R113, R120): each record that a channel can take is good, the
wet-channel count follows its state, and everything else lets the active-zone count follow the grades. -/

namespace Sys2Proof.Machine

open Sys2Proof

/-! ### Operations on the channels -/

/-- The settings of every channel in store stand in their ranges (R110, R171). -/
def channelsInRange (channels : Table (Bool × Nat × Nat × Option Nat) 8) : Prop :=
  ∀ c, leakSettingsInRange (channels.get c).2.1 (channels.get c).2.2.1 (channels.get c).2.2.2

theorem State.leakSound_iff (s : State) : s.leakSound ↔
    (∀ c, (s.channel c).good) ∧ channelsInRange s.store.contents.channels ∧ s.wetCounted ∧ s.activeCounted := Iff.rfl

theorem State.leakFollows.leakSound {s t : State} (h : s.leakFollows t) (hs : s.leakSound) : t.leakSound := by
  obtain ⟨hgood, hstored, hwet, hactive⟩ := s.leakSound_iff.mp hs
  have hchannel (c : ChannelId) : t.channel c = s.channel c := by
    rw [State.channel, h.channels]
    rfl
  refine t.leakSound_iff.mpr ⟨fun c => hchannel c ▸ hgood c, h.stored ▸ hstored, ?_, h.active hactive⟩
  unfold State.wetCounted
  simp only [hchannel, h.wetChannels]
  exact hwet

/-- Operations on the Leak Sense Unit that leave its channels and both counts alone. -/
theorem State.setLeak_leakFollows {s : State} {l : LeakUnit} (hc : l.channels = s.leak.channels)
    (hw : l.wetChannels = s.leak.wetChannels) (ha : l.activeZones = s.leak.activeZones) : s.leakFollows (s.setLeak l) :=
  ⟨hc, hw, rfl, State.activeCounted_of_grades (fun _ => rfl) ha⟩

theorem State.leakSound.good_setChannel {s : State} (h : s.leakSound) {c : ChannelId} {r : Channel} (hr : r.good)
    (d : ChannelId) : ((s.setChannel c r).channel d).good := by
  by_cases hd : d = c
  · rw [hd, State.channel_setChannel_same]
    exact hr
  · rw [State.channel_setChannel_of_ne _ _ hd]
    exact h.1 d

/-- A good record of the same state. -/
theorem State.leakSound.setChannel_of_same {s : State} (h : s.leakSound) {c : ChannelId} {r : Channel} (hr : r.good)
    (hstate : (s.channel c).state = r.state) : (s.setChannel c r).leakSound := by
  obtain ⟨-, hstored, hwet, hactive⟩ := s.leakSound_iff.mp h
  have hstates (d : ChannelId) : ((s.setChannel c r).channel d).state = (s.channel d).state := by
    by_cases hd : d = c
    · rw [hd, State.channel_setChannel_same, hstate]
    · rw [State.channel_setChannel_of_ne _ _ hd]
  refine (State.leakSound_iff _).mpr
    ⟨h.good_setChannel hr, hstored, ?_, State.activeCounted_of_grades (s := s) (fun _ => rfl) rfl hactive⟩
  unfold State.wetCounted
  simp only [hstates]
  exact hwet

/-- A good record of another state, counted (R118 step 2). -/
theorem State.leakSound.channelTold {s : State} (h : s.leakSound) {c : ChannelId} {r : Channel} (hr : r.good) :
    (s.channelTold c r).leakSound := by
  obtain ⟨-, hstored, hwet, hactive⟩ := s.leakSound_iff.mp h
  have hchannel (d : ChannelId) : (s.channelTold c r).channel d = (s.setChannel c r).channel d := by
    obtain ⟨u, q, htold⟩ := s.channelTold_eq c r
    rw [htold]
    rfl
  have hrest : (s.channelTold c r).zones = s.zones ∧ (s.channelTold c r).store = s.store
      ∧ (s.channelTold c r).leak.activeZones = s.leak.activeZones
      ∧ (s.channelTold c r).leak.wetChannels = countWet s.leak.wetChannels (s.channel c).state r.state := by
    obtain ⟨u, q, htold⟩ := s.channelTold_eq c r
    rw [htold]
    exact ⟨rfl, rfl, rfl, rfl⟩
  obtain ⟨hzones, hstore, hactives, hwets⟩ := hrest
  refine (State.leakSound_iff _).mpr ⟨fun d => hchannel d ▸ h.good_setChannel hr d, hstore ▸ hstored, ?_, ?_⟩
  · refine State.wetCounted_of_changed (c := c) (fun d hd => ?_) ?_ hwet
    · rw [hchannel, State.channel_setChannel_of_ne _ _ hd]
    · rw [hwets, hchannel, State.channel_setChannel_same]
  · exact State.activeCounted_of_grades (fun z => by rw [State.zone, hzones]; rfl) hactives hactive

theorem State.leakSound.changeChannel {s : State} (h : s.leakSound) {c : ChannelId} {r : Channel} (hr : r.good) :
    (s.changeChannel c r).leakSound := by
  obtain ⟨hstate, heq⟩ | ⟨-, -, -, heq⟩ | ⟨-, -, heq⟩ := s.changeChannel_cases c r <;> rw [heq]
  · exact h.setChannel_of_same hr hstate
  · exact h.channelTold hr
  · exact (State.evaluateAll_leakFollows ..).leakSound (h.channelTold hr)

theorem State.leakSound.resetChannel {s : State} (h : s.leakSound) {c : ChannelId} {r : Channel} (hr : r.good) :
    (s.resetChannel c r).leakSound := by
  have hdiscard : s.leakFollows (s.discardGate c) := by
    unfold State.discardGate
    split
    exacts [State.setLeak_leakFollows rfl rfl rfl, .refl s]
  exact (hdiscard.leakSound h).changeChannel hr

theorem State.leakSound.closeGate {s : State} (h : s.leakSound) (cycles : Nat) : (s.closeGate cycles).leakSound := by
  unfold State.closeGate
  split
  · exact h
  · next c _ =>
    have hjudged : (if s.leak.discard then s
        else s.changeChannel c ((s.channel c).judged (saturateCount cycles))).leakSound := by
      split
      · exact h
      · exact h.changeChannel (Channel.good.judged (h.1 c) (Nat.min_le_right ..))
    exact (State.setLeak_leakFollows rfl rfl rfl).leakSound hjudged

theorem leakSetupWork_leakSound (p : List Byte) {s : State} (h : s.leakSound) : (leakSetupWork p s).1.leakSound := by
  unfold leakSetupWork
  split
  · exact h.resetChannel (Channel.good.setUp (h.1 _) ..)
  · exact h

theorem leakRecalibrateWork_leakSound (p : List Byte) {s : State} (h : s.leakSound) :
    (leakRecalibrateWork p s).1.leakSound := by
  unfold leakRecalibrateWork
  split
  · exact h
  · split
    · exact h
    · next hoff => exact h.resetChannel (Channel.good.recalibrated (h.1 _) hoff)

/-- The work of every request that is one step keeps the unit sound. -/
theorem work_leakSound (v : Service) (hv : v ∈ requestServices) (p : List Byte) (s : State) (h : s.leakSound) :
    (v.work p s).1.leakSound := by
  obtain hleak | hfollows := work_leakFollows v hv
  · have hall : ∀ v ∈ leakServices, (v.work p s).1.leakSound := by
      simp only [leakServices, List.forall_mem_cons]
      exact ⟨leakSetupWork_leakSound p h, leakRecalibrateWork_leakSound p h, fun v hv => absurd hv List.not_mem_nil⟩
    exact hall v hleak
  · exact (hfollows p s).leakSound h

/-! ### Blocks that start (R124, R125, R171, R173) -/

theorem Channel.start_state_ne_wet (enabled : Bool) (dw hy : Nat) (baseline : Option Nat) :
    (Channel.start enabled dw hy baseline).state ≠ .wet := by
  cases enabled with
  | false => exact nofun
  | true => cases baseline <;> exact nofun

theorem ZoneRecord.start_not_active (enabled : Bool) (cfg : ZoneConfig) :
    (ZoneRecord.start enabled cfg).grade.isActive = false := by
  cases enabled <;> rfl

/-- The defaults of R173. -/
theorem leakSettingsInRange_default : leakSettingsInRange 120 24 none :=
  ⟨by decide, by decide, by decide, by decide, by decide, fun _ h => nomatch h⟩

theorem Image.default_channelsInRange : channelsInRange Image.default.channels := by
  intro c
  have hget : Image.default.channels.get c = (false, 120, 24, none) := Table.get_all ..
  rw [hget]
  exact leakSettingsInRange_default

/-- No zone is active: the count is 0 (R113). -/
theorem State.activeCounted_of_none {s : State} (hn : s.leak.activeZones = 0)
    (hz : ∀ z, (s.zone z).grade.isActive = false) : s.activeCounted := by
  rw [State.activeCounted, hn]
  exact (List.length_eq_zero_iff.mpr (List.filter_eq_nil_iff.mpr fun z _ => by simp [hz z])).symm

theorem State.wetCounted_of_none {s : State} (hn : s.leak.wetChannels = 0) (hc : ∀ c, (s.channel c).state ≠ .wet) :
    s.wetCounted := by
  rw [State.wetCounted, hn]
  exact (List.length_eq_zero_iff.mpr (List.filter_eq_nil_iff.mpr fun c _ => by simp [hc c])).symm

theorem State.unloaded_leakSound (power : Power) {store : Store} (pending : List Instr)
    (hstore : channelsInRange store.contents.channels) : (State.unloaded power store pending).leakSound := by
  have hchannel (c : ChannelId) : (State.unloaded power store pending).channel c = Channel.start false 120 24 none :=
    Table.get_all ..
  have hzone (z : ZoneId) : (State.unloaded power store pending).zone z = ZoneRecord.start false ZoneConfig.default :=
    Table.get_all ..
  refine (State.leakSound_iff _).mpr ⟨fun c => ?_, hstore, State.wetCounted_of_none rfl fun c => ?_,
    State.activeCounted_of_none rfl fun z => ?_⟩
  · rw [hchannel]
    exact Channel.start_good leakSettingsInRange_default false
  · rw [hchannel]
    exact Channel.start_state_ne_wet _ _ _ _
  · rw [hzone]
    exact ZoneRecord.start_not_active ..

theorem State.startedFrom_leakSound {s : State} {i : Image} (hs : channelsInRange s.store.contents.channels)
    (hi : channelsInRange i.channels) : (s.startedFrom i).leakSound := by
  have hchannel (c : ChannelId) : (s.startedFrom i).channel c = Channel.start (i.channels.get c).1
      (i.channels.get c).2.1 (i.channels.get c).2.2.1 (i.channels.get c).2.2.2 := Table.get_map ..
  have hzone (z : ZoneId) : (s.startedFrom i).zone z = ZoneRecord.start (i.zones.get z).1 (i.zones.get z).2 :=
    Table.get_map ..
  refine (State.leakSound_iff _).mpr ⟨fun c => ?_, hs, State.wetCounted_of_none rfl fun c => ?_,
    State.activeCounted_of_none rfl fun z => ?_⟩
  · rw [hchannel]
    exact Channel.start_good (hi c) _
  · rw [hchannel]
    exact Channel.start_state_ne_wet _ _ _ _
  · rw [hzone]
    exact ZoneRecord.start_not_active ..

theorem Store.toLoad_channelsInRange {i : Store} (h : channelsInRange i.contents.channels) :
    channelsInRange i.toLoad.channels := by
  unfold Store.toLoad
  split
  exacts [h, Image.default_channelsInRange]

theorem State.restarted_leakSound {s : State} (h : s.leakSound) : s.restarted.leakSound := by
  obtain ⟨hgood, hstored, hwet, -⟩ := s.leakSound_iff.mp h
  have hchannel (c : ChannelId) : s.restarted.channel c = (s.channel c).restarted := Table.get_map ..
  have hzone (z : ZoneId) : s.restarted.zone z = ZoneRecord.start (s.zone z).enabled (s.zone z).cfg :=
    Table.get_map ..
  refine (State.leakSound_iff _).mpr ⟨fun c => ?_, hstored, ?_, State.activeCounted_of_none rfl fun z => ?_⟩
  · rw [hchannel]
    exact (hgood c).restarted
  · unfold State.wetCounted
    simp only [hchannel]
    exact hwet
  · rw [hzone]
    exact ZoneRecord.start_not_active ..

/-- What is kept of the channels has their settings, which stand in their ranges (R171). -/
theorem State.beginKeep_leakSound {s : State} (tag : Byte) (h : s.leakSound) : (s.beginKeep tag).leakSound := by
  obtain ⟨hgood, -, hwet, hactive⟩ := s.leakSound_iff.mp h
  refine (State.leakSound_iff _).mpr ⟨hgood, fun c => ?_, hwet, hactive⟩
  have hget : (s.beginKeep tag).store.contents.channels.get c =
      ((s.channel c).enabled, (s.channel c).dw, (s.channel c).hy, (s.channel c).baseline) := Table.get_map ..
  rw [hget]
  exact (hgood c).2.settings

/-! ### Every step -/

theorem leakSound_keptByBlocks : KeptByBlocks State.leakSound where
  trunks ht := ht.leakFollows.leakSound
  queue {s} _ := (State.leakFollows.of_rest (s := s) rfl rfl rfl).leakSound
  timer _ _ := (State.leakFollows.of_rest rfl rfl rfl).leakSound
  unloaded power store pending _ hs h := State.unloaded_leakSound power pending (hs ▸ h.2.1)
  booting {s} _ := (State.leakFollows.of_rest (s := s) rfl rfl rfl).leakSound
  started h := State.startedFrom_leakSound h.2.1 (Store.toLoad_channelsInRange h.2.1)
  beginKeep tag := State.beginKeep_leakSound tag
  keepDone agrees := (State.keepDone_leakFollows _ agrees).leakSound
  restarted := State.restarted_leakSound
  work := work_leakSound
  outcome a res o _ := (State.handToProbe_leakFollows _ a res o).leakSound
  expireAge a := (State.expireAge_leakFollows _ a).leakSound
  expireDwell z := (State.expireDwell_leakFollows _ z).leakSound
  dutyFrame {s} := (State.leakFollows.of_rest (s := s) rfl rfl rfl).leakSound
  onTimeEnd _ := (State.leakFollows.of_rest rfl rfl rfl).leakSound
  startRound := (State.setLeak_leakFollows rfl rfl rfl).leakSound
  closeGate cycles h := h.closeGate cycles
  second {s} _ h := by
    obtain ⟨hgood, hstored, hwet, hactive⟩ := s.leakSound_iff.mp h
    have hgrade (z : ZoneId) : ((s.zones.map ZoneRecord.tick).get z).grade = (s.zone z).grade := by
      rw [Table.get_map]
      rfl
    exact (State.leakSound_iff _).mpr
      ⟨hgood, hstored, hwet, State.activeCounted_of_grades (s := s) hgrade rfl hactive⟩

/-- Settles O56: the blocks' operations keep the unit sound, by `leakSound_keptByBlocks`; what the zone records hold
beside their grades has no part in it. -/
theorem stepKeepsLeak : Obligations.StepKeepsLeak :=
  fun _ _ _ hleak hstep => leakSound_keptByBlocks.step hleak hstep

end Sys2Proof.Machine
end

section
/-! The Event List stays sound through each of its operations (R126 to R128, R133), and what each leaves of the zones
that have a record in OPEN or ACKED or a pending flag (R129). -/

namespace Sys2Proof.Machine

open Sys2Proof

/-! ### The records and the flags -/

/-- What `State.eventsSound` says of the records, their order and the counter (R126 to R128); it holds between the
removal of a record and the pending service as well. -/
structure State.listSound (s : State) : Prop where
  records : ∀ p e, s.recordAt p = some e → e.sound
  zones   : ∀ p q e f, s.recordAt p = some e → s.recordAt q = some f → e.zone = f.zone → p = q
  numbers : ∀ p q e f, s.recordAt p = some e → s.recordAt q = some f → e.number = f.number → p = q
  order   : s.events.order.Nodup ∧ ∀ p, p ∈ s.events.order ↔ (s.recordAt p).isSome = true
  counter : 1 ≤ s.events.nextNumber ∧ s.events.nextNumber ≤ 65535

/-- The zone has a record in OPEN or ACKED, or its pending flag (R129). -/
def State.standing (s : State) (z : ZoneId) : Prop :=
  (∃ p e, s.recordAt p = some e ∧ e.zone = z ∧ e.state ≠ .cleared) ∨ (s.pendingKind z).isSome = true

section Sound

variable {s t : State} {y z : ZoneId} {p : Place} {e f : EventRecord}

theorem State.eventsSound.listSound (h : s.eventsSound) : s.listSound :=
  ⟨h.records, h.zones, h.numbers, h.order, h.counter⟩

/-- A flag needs all sixteen places held and no record of its zone (R133). -/
theorem State.listSound.eventsSound (h : s.listSound)
    (hflags : ∀ y, (s.pendingKind y).isSome = true →
      (∀ q, s.recordAt q ≠ none) ∧ ∀ q f, s.recordAt q = some f → f.zone ≠ y) : s.eventsSound :=
  ⟨h.records, h.zones, h.numbers, h.order, h.counter,
    fun y hy => ⟨State.recordsHeld_eq_full.mpr (hflags y hy).1, State.findZone_eq_none.mpr (hflags y hy).2⟩⟩

theorem State.eventsSound.full_of_pending (h : s.eventsSound) (hy : (s.pendingKind y).isSome = true) (q : Place) :
    s.recordAt q ≠ none :=
  State.recordsHeld_eq_full.mp (h.flags y hy).1 q

theorem State.eventsSound.no_record_of_pending (h : s.eventsSound) (hy : (s.pendingKind y).isSome = true) {q : Place}
    (hf : s.recordAt q = some f) : f.zone ≠ y :=
  State.findZone_eq_none.mp (h.flags y hy).2 q f hf

/-- Soundness is of the Event List alone. -/
theorem State.eventsSound.of_events (h : s.eventsSound) (ht : t.events = s.events) : t.eventsSound := by
  have h' : ({ s with events := t.events } : State).eventsSound := by rw [ht]; exact h
  exact ⟨h'.records, h'.zones, h'.numbers, h'.order, h'.counter, h'.flags⟩

theorem State.standing.of_events (h : s.standing y) (ht : t.events = s.events) : t.standing y := by
  have h' : ({ s with events := t.events } : State).standing y := by rw [ht]; exact h
  exact h'

/-- A zone's only record is the one that is found (R126). -/
theorem State.listSound.findZone_of_recordAt (h : s.listSound) (he : s.recordAt p = some e) :
    s.findZone e.zone = some (p, e) :=
  State.findZone_eq_some.mpr ⟨⟨he, rfl⟩, fun q hq f hf hz => hq.ne (h.zones q p f e hf he hz)⟩

/-- The list stays sound where each record left stands in the place of one of its zone and number, and the order and
the counter follow. -/
theorem State.listSound.of_records (h : s.listSound)
    (hrecords : ∀ q f, t.recordAt q = some f →
      f.sound ∧ ∃ e, s.recordAt q = some e ∧ e.zone = f.zone ∧ e.number = f.number)
    (horder : t.events.order.Nodup ∧ ∀ p, p ∈ t.events.order ↔ (t.recordAt p).isSome = true)
    (hcounter : t.events.nextNumber = s.events.nextNumber) : t.listSound where
  records q f hf := (hrecords q f hf).1
  zones q r f g hf hg hz := by
    obtain ⟨-, f', hf', hfz, -⟩ := hrecords q f hf
    obtain ⟨-, g', hg', hgz, -⟩ := hrecords r g hg
    exact h.zones q r f' g' hf' hg' (hfz.trans (hz.trans hgz.symm))
  numbers q r f g hf hg hn := by
    obtain ⟨-, f', hf', -, hfn⟩ := hrecords q f hf
    obtain ⟨-, g', hg', -, hgn⟩ := hrecords r g hg
    exact h.numbers q r f' g' hf' hg' (hfn.trans (hn.trans hgn.symm))
  order := horder
  counter := hcounter ▸ h.counter

end Sound

/-! ### A record replaced by another form of itself -/

section Replaced

variable {s : State} {y z : ZoneId} {p : Place} {e f : EventRecord}

theorem State.recordAt_setRecord (s : State) (p : Place) (f : EventRecord) (q : Place) :
    (s.setRecord p f).recordAt q = if q = p then some f else s.recordAt q := by
  split
  · next hq => rw [hq, State.recordAt_setRecord_same]
  · next hq => exact State.recordAt_setRecord_of_ne hq

theorem State.eventsSound.setRecord (h : s.eventsSound) (he : s.recordAt p = some e) (hf : f.sound)
    (hz : f.zone = e.zone) (hn : f.number = e.number) : (s.setRecord p f).eventsSound := by
  have hrecords (q : Place) (g : EventRecord) (hg : (s.setRecord p f).recordAt q = some g) :
      g.sound ∧ ∃ e, s.recordAt q = some e ∧ e.zone = g.zone ∧ e.number = g.number := by
    rw [State.recordAt_setRecord] at hg
    split at hg
    · next hq =>
      cases hg
      exact ⟨hf, e, hq ▸ he, hz.symm, hn.symm⟩
    · exact ⟨h.records q g hg, g, hg, rfl, rfl⟩
  have hsome (q : Place) : ((s.setRecord p f).recordAt q).isSome = (s.recordAt q).isSome := by
    rw [State.recordAt_setRecord]
    split
    · next hq => rw [hq, he]; rfl
    · rfl
  refine (h.listSound.of_records hrecords ⟨h.order.1, fun q => ?_⟩ rfl).eventsSound fun y hy => ⟨fun q hq => ?_, ?_⟩
  · rw [hsome]
    exact h.order.2 q
  · refine h.full_of_pending hy q (Option.isNone_iff_eq_none.mp ?_)
    rw [← Option.not_isSome, ← hsome, hq]
    rfl
  · intro q g hg
    obtain ⟨-, e', he', hzone, -⟩ := hrecords q g hg
    exact hzone ▸ h.no_record_of_pending hy he'

/-- Only a record that becomes CLEARED takes its zone's standing. -/
theorem State.standing.setRecord (h : s.standing y) (he : s.recordAt p = some e) (hz : f.zone = e.zone)
    (hstate : e.zone = y → e.state ≠ .cleared → f.state ≠ .cleared) : (s.setRecord p f).standing y := by
  obtain ⟨q, g, hg, hgz, hgs⟩ | hy := h
  · by_cases hq : q = p
    · obtain rfl : g = e := Option.some.inj (hg.symm.trans (hq ▸ he))
      exact .inl ⟨p, f, State.recordAt_setRecord_same, hz.trans hgz, hstate hgz hgs⟩
    · exact .inl ⟨q, g, (State.recordAt_setRecord_of_ne hq).trans hg, hgz, hgs⟩
  · exact .inr hy

end Replaced

/-! ### Pending flags (R133) -/

section Flags

variable {s : State} {y z : ZoneId}

/-- A flag may be dropped at any time, and set for a zone without a record while every place is held. -/
theorem State.eventsSound.setPendingKind (h : s.eventsSound) {k : Option EventKind}
    (hk : k.isSome = true → s.recordsHeld = 16 ∧ s.findZone z = none) : (s.setPendingKind z k).eventsSound where
  records := h.records
  zones := h.zones
  numbers := h.numbers
  order := h.order
  counter := h.counter
  flags y hy := by
    by_cases hyz : y = z
    · subst hyz
      exact hk (State.pendingKind_setPendingKind_same s y k ▸ hy)
    · exact h.flags y (State.pendingKind_setPendingKind_of_ne s k hyz ▸ hy)

theorem State.standing.setPendingKind (h : s.standing y) (hy : y ≠ z) (k : Option EventKind) :
    (s.setPendingKind z k).standing y :=
  h.imp id fun hflag => by rwa [State.pendingKind_setPendingKind_of_ne s k hy]

end Flags

/-! ### A record opened (R127, R128, R130) -/

section Opened

variable {s : State} {y z : ZoneId} {p : Place} {k : EventKind} {late : Bool}

theorem succNumber_inRange (n : Nat) : 1 ≤ succNumber n ∧ succNumber n ≤ 65535 := by
  unfold succNumber
  split <;> omega

/-- The number that an opening takes stands in 1..65535 as the counter does. -/
theorem State.numberTaken.inRange {n : Nat} (h : s.numberTaken n)
    (hcounter : 1 ≤ s.events.nextNumber ∧ s.events.nextNumber ≤ 65535) : 1 ≤ n ∧ n ≤ 65535 := by
  obtain ⟨k, rfl, -⟩ := h
  cases k with
  | zero => exact hcounter
  | succ k =>
    rw [Function.iterate_succ_apply']
    exact succNumber_inRange _

theorem State.recordsHeld_lt_of_free (hp : s.recordAt p = none) : s.recordsHeld < 16 :=
  lt_of_le_of_ne s.recordsHeld_le fun h => State.recordsHeld_eq_full.mp h p hp

theorem State.recordAt_openRecord_of_freePlace (hp : s.freePlace = some p) (z : ZoneId) (k : EventKind) (late : Bool)
    (q : Place) : (s.openRecord z k late).recordAt q = if q = p then some (s.newRecord z k late) else s.recordAt q := by
  obtain ⟨hplace, hother, -⟩ := State.openRecord_spec hp (rfl : _ = s.openRecord z k late)
  split
  · next hq => rw [hq, State.recordAt, hplace]
  · next hq => exact congrArg PlaceRecord.record (hother q hq)

/-- A record opened for a zone without one, in a free place. -/
theorem State.listSound.openRecord (h : s.listSound) (hp : s.freePlace = some p) (hz : s.findZone z = none)
    (k : EventKind) (late : Bool) : (s.openRecord z k late).listSound := by
  obtain ⟨hfree, -⟩ := State.freePlace_eq_some.mp hp
  have htaken := State.numberTaken_numberToTake (State.recordsHeld_lt_of_free hfree)
  obtain ⟨-, -, horder, hcounter, -⟩ := State.openRecord_spec hp (rfl : _ = s.openRecord z k late)
  have hzone (q : Place) (f : EventRecord) (hf : s.recordAt q = some f) : f.zone ≠ (s.newRecord z k late).zone :=
    State.findZone_eq_none.mp hz q f hf
  have hnumber (q : Place) (f : EventRecord) (hf : s.recordAt q = some f) :
      f.number ≠ (s.newRecord z k late).number := by
    obtain ⟨-, -, hdistinct, -⟩ := htaken
    exact hdistinct q f hf
  have hrecord := State.recordAt_openRecord_of_freePlace hp z k late
  constructor
  case records =>
    intro q f hf
    rw [hrecord] at hf
    split at hf
    · cases hf
      exact ⟨by simp [State.newRecord], by simp [State.newRecord], Nat.zero_le _, htaken.inRange h.counter⟩
    · exact h.records q f hf
  case zones =>
    intro q r f g hf hg hfg
    rw [hrecord] at hf hg
    split at hf <;> split at hg
    · next hq hr => rw [hq, hr]
    · cases hf
      exact absurd hfg.symm (hzone r g hg)
    · cases hg
      exact absurd hfg (hzone q f hf)
    · exact h.zones q r f g hf hg hfg
  case numbers =>
    intro q r f g hf hg hfg
    rw [hrecord] at hf hg
    split at hf <;> split at hg
    · next hq hr => rw [hq, hr]
    · cases hf
      exact absurd hfg.symm (hnumber r g hg)
    · cases hg
      exact absurd hfg (hnumber q f hf)
    · exact h.numbers q r f g hf hg hfg
  case order =>
    rw [horder]
    refine ⟨List.Nodup.append h.order.1 (List.nodup_singleton p) ?_, fun q => ?_⟩
    · rw [List.disjoint_singleton, h.order.2 p, hfree]
      exact Bool.false_ne_true
    · rw [List.mem_append, List.mem_singleton, hrecord, h.order.2 q]
      by_cases hq : q = p <;> simp [hq]
  case counter =>
    rw [hcounter]
    exact succNumber_inRange _

/-- An opening takes no zone's standing, and gives its own zone one. -/
theorem State.standing_openRecord (hp : s.freePlace = some p) (h : y ≠ z → s.standing y) :
    (s.openRecord z k late).standing y := by
  have hrecord := State.recordAt_openRecord_of_freePlace hp z k late
  by_cases hy : y = z
  · exact .inl ⟨p, s.newRecord z k late, (hrecord p).trans (if_pos rfl), hy.symm, nofun⟩
  · obtain ⟨q, f, hf, hfz, hfs⟩ | hflag := h hy
    · refine .inl ⟨q, f, ?_, hfz, hfs⟩
      rw [hrecord, if_neg, hf]
      rintro rfl
      rw [(State.freePlace_eq_some.mp hp).1] at hf
      cases hf
    · exact .inr ((s.pendingKind_openRecord z k late y).symm ▸ hflag)

end Opened

/-! ### A record removed, and a pending zone served (R138) -/

section Removed

variable {s : State} {y : ZoneId} {p : Place} {e : EventRecord}

/-- The one free place is given to the pending zone with the lowest number: before the service every flag has its zone
without a record and every other place held. -/
theorem State.listSound.servePending (h : s.listSound) (hfree : s.recordAt p = none)
    (hflags : ∀ y, (s.pendingKind y).isSome = true →
      (∀ q, q ≠ p → s.recordAt q ≠ none) ∧ ∀ q f, s.recordAt q = some f → f.zone ≠ y) :
    s.servePending.eventsSound ∧ ∀ y, s.standing y → s.servePending.standing y := by
  cases hl : s.lowestPending with
  | none =>
    have hnone := State.lowestPending_eq_none.mp hl
    rw [State.servePending_of_none hnone]
    exact ⟨h.eventsSound fun y hy => absurd hy (by simp [hnone y]), fun _ => id⟩
  | some r =>
    obtain ⟨z, k⟩ := r
    obtain ⟨hk, hlow⟩ := State.lowestPending_eq_some.mp hl
    rw [State.servePending_of_lowest hk hlow]
    obtain ⟨hheld, hwithout⟩ := hflags z (by rw [hk]; rfl)
    have hp : (s.setPendingKind z none).freePlace = some p :=
      State.freePlace_eq_some.mpr ⟨hfree, fun q hq => hheld q hq.ne⟩
    have hsound : (s.setPendingKind z none).listSound := ⟨h.records, h.zones, h.numbers, h.order, h.counter⟩
    have hrecord := State.recordAt_openRecord_of_freePlace hp z k true
    refine ⟨(hsound.openRecord hp (State.findZone_eq_none.mpr hwithout) k true).eventsSound fun y hy => ?_,
      fun y hy => State.standing_openRecord hp fun hyz => hy.setPendingKind hyz none⟩
    rw [State.pendingKind_openRecord] at hy
    have hyz : y ≠ z := by
      rintro rfl
      rw [State.pendingKind_setPendingKind_same] at hy
      cases hy
    rw [State.pendingKind_setPendingKind_of_ne _ _ hyz] at hy
    refine ⟨fun q => ?_, fun q f hf => ?_⟩ <;> rw [hrecord] at *
    · split
      · exact Option.some_ne_none _
      · next hq => exact hheld q hq
    · split at hf
      · cases hf
        exact hyz.symm
      · exact (hflags y hy).2 q f hf

/-- A record removed and a pending zone served: only the removed record's zone can lose its standing. -/
theorem State.eventsSound.removeRecord (h : s.eventsSound) (he : s.recordAt p = some e) :
    (s.removeRecord p e).eventsSound
      ∧ ∀ y, (e.zone = y → e.state = .cleared) → s.standing y → (s.removeRecord p e).standing y := by
  have hrecord (q : Place) :
      (s.setEvents (s.events.dropRecord p e)).recordAt q = if q = p then none else s.recordAt q := by
    rw [State.recordAt, show (s.setEvents (s.events.dropRecord p e)).place q = _ from Table.get_set ..]
    split <;> rfl
  have hleft {q : Place} {f : EventRecord} (hf : (s.setEvents (s.events.dropRecord p e)).recordAt q = some f) :
      q ≠ p ∧ s.recordAt q = some f := by
    rw [hrecord] at hf
    split at hf
    · cases hf
    · next hq => exact ⟨hq, hf⟩
  have hsound : (s.setEvents (s.events.dropRecord p e)).listSound := by
    refine h.listSound.of_records (fun q f hf => ?_) ⟨h.order.1.erase p, fun q => ?_⟩ rfl
    · exact ⟨h.records q f (hleft hf).2, f, (hleft hf).2, rfl, rfl⟩
    · show q ∈ s.events.order.erase p ↔ _
      rw [h.order.1.mem_erase_iff, h.order.2 q, hrecord]
      by_cases hq : q = p <;> simp [hq]
  obtain ⟨hserved, hstanding⟩ := hsound.servePending ((hrecord p).trans (if_pos rfl)) fun y hy =>
    ⟨fun q hq => by rw [hrecord, if_neg hq]; exact h.full_of_pending hy q,
      fun q f hf => h.no_record_of_pending hy (hleft hf).2⟩
  refine ⟨hserved, fun y hcleared hy => hstanding y (hy.imp_left ?_)⟩
  rintro ⟨q, f, hf, hfz, hfs⟩
  refine ⟨q, f, ?_, hfz, hfs⟩
  rw [hrecord, if_neg, hf]
  rintro rfl
  obtain rfl : e = f := Option.some.inj (he.symm.trans hf)
  exact hfs (hcleared hfz)

end Removed

end Sys2Proof.Machine
end

section
/-! The Event List's part in a grade change and in a kept grade (R104, R105, R129 to R138): it stays sound, the zone has
what its grade asks for, and no other zone loses its record or its flag. -/

namespace Sys2Proof.Machine

open Sys2Proof

/-! ### Records after a change of their own (R126) -/

theorem EventRecord.sound.tracked {e : EventRecord} (h : e.sound) (m : Option Int) : (e.tracked m).sound :=
  ⟨h.cleared, h.cause, h.escalated, h.number⟩

theorem EventRecord.sound.risen {e : EventRecord} (h : e.sound) (g : Grade) (m : Option Int) : (e.risen g m).sound :=
  ⟨h.cleared, h.cause, h.escalated, h.number⟩

theorem EventRecord.sound.risenAgain {e : EventRecord} (h : e.sound) (g : Grade) (m : Option Int) :
    (e.risenAgain g m).sound :=
  ⟨by simp [EventRecord.risenAgain], by simp [EventRecord.risenAgain], Nat.min_le_right .., h.number⟩

theorem EventRecord.sound.fallenCleared {e : EventRecord} (h : e.sound) (g : Grade) (m : Option Int) (c : ClearCause)
    (now : Nat) : ((e.fallen g m).clearedBy c now).sound :=
  ⟨iff_of_true rfl rfl, iff_of_true rfl rfl, h.escalated, h.number⟩

theorem EventRecord.sound.dataLost {e : EventRecord} (h : e.sound) :
    ({ e with dataLost := true } : EventRecord).sound :=
  ⟨h.cleared, h.cause, h.escalated, h.number⟩

theorem EventRecord.sound.acked {e : EventRecord} (h : e.sound) (ho : e.state = .opened) :
    ({ e with state := .acked } : EventRecord).sound :=
  ⟨by simpa [ho] using h.cleared, by simpa [ho] using h.cause, h.escalated, h.number⟩

/-! ### A grade change (R129 to R138) -/

/-- From s to t the Event List has been told that the zone's grade has become g: it is sound, an ALARM or WET zone has a
record in OPEN or ACKED or its flag, and every other zone that had one has one still. -/
structure State.followsGrade (s t : State) (z : ZoneId) (g : Grade) : Prop where
  sound  : t.eventsSound
  others : ∀ y, y ≠ z → s.standing y → t.standing y
  risen  : g = .alarm ∨ g = .wet → t.standing z

section GradeChange

variable {s t v : State} {z : ZoneId} {g : Grade} {p : Place} {e f : EventRecord}

theorem State.followsGrade.of_events (h : s.followsGrade t z g) (hv : v.events = t.events) : s.followsGrade v z g :=
  ⟨h.sound.of_events hv, fun y hy hs => (h.others y hy hs).of_events hv, fun hg => (h.risen hg).of_events hv⟩

theorem State.followsGrade.trans (h : s.followsGrade t z g) (h' : t.followsGrade v z g) : s.followsGrade v z g :=
  ⟨h'.sound, fun y hy hs => h'.others y hy (h.others y hy hs), h'.risen⟩

/-- The zone's record takes another form, in OPEN or ACKED where the grade is ALARM or WET. -/
theorem State.eventsSound.follows_setRecord (h : s.eventsSound) (he : s.findZone z = some (p, e)) (hf : f.sound)
    (hz : f.zone = e.zone) (hn : f.number = e.number) (hstate : g = .alarm ∨ g = .wet → f.state ≠ .cleared) :
    s.followsGrade (s.setRecord p f) z g := by
  have hrecord := State.recordAt_of_findZone he
  have hzone := State.zone_of_findZone he
  exact
    { sound := h.setRecord hrecord hf hz hn
      others := fun y hy hs => hs.setRecord hrecord hz fun hey => absurd (hey.symm.trans hzone) hy
      risen := fun hg => .inl ⟨p, f, State.recordAt_setRecord_same, hz.trans hzone, hstate hg⟩ }

/-- A change to ALARM or WET (R129, R130, R132, R133). -/
theorem State.eventsSound.follows_rise (h : s.eventsSound) (hg : g = .alarm ∨ g = .wet) :
    s.followsGrade (s.eventGradeChange z g) z g := by
  cases hz : s.findZone z with
  | some r =>
    obtain ⟨p, e⟩ := r
    have he := h.records p e (State.recordAt_of_findZone hz)
    by_cases hc : e.state = .cleared
    · rw [State.eventGradeChange_reopens hg hz hc]
      exact (h.follows_setRecord hz (he.risenAgain ..) rfl rfl fun _ => nofun).of_events rfl
    · have hfollows : s.followsGrade (s.setRecord p (e.risen g (s.zone z).m)) z g :=
        h.follows_setRecord hz (he.risen ..) rfl rfl fun _ => hc
      rw [State.eventGradeChange_rises hg hz hc]
      split
      exacts [hfollows.of_events rfl, hfollows]
  | none =>
    obtain hroom | hfull := s.recordsHeld_le.lt_or_eq
    · obtain ⟨p, hp⟩ := State.exists_freePlace hroom
      have hnoflag (y : ZoneId) : (s.pendingKind y).isSome ≠ true := fun hy =>
        h.full_of_pending hy p (State.freePlace_eq_some.mp hp).1
      rw [State.eventGradeChange_opens hg hz hroom]
      exact
        { sound := (h.listSound.openRecord hp hz _ _).eventsSound fun y hy =>
            absurd (s.pendingKind_openRecord .. ▸ hy) (hnoflag y)
          others := fun y _ hs => State.standing_openRecord hp fun _ => hs
          risen := fun _ => State.standing_openRecord hp fun hne => absurd rfl hne }
    · rw [State.eventGradeChange_pends hg hz hfull]
      exact
        { sound := h.setPendingKind fun _ => ⟨hfull, hz⟩
          others := fun y hy hs => hs.setPendingKind hy _
          risen := fun _ => .inr (by rw [State.pendingKind_setPendingKind_same]; rfl) }

theorem State.eventsSound.follows_unpended (h : s.eventsSound) (hg : ¬ (g = .alarm ∨ g = .wet)) :
    s.followsGrade (s.setPendingKind z none) z g :=
  ⟨h.setPendingKind nofun, fun _ hy hs => hs.setPendingKind hy none, fun hrisen => absurd hrisen hg⟩

/-- A change to CLEAR, WATCH or OFF (R136 to R138). -/
theorem State.eventsSound.follows_fall (h : s.eventsSound) (hg : g = .clear ∨ g = .watch ∨ g = .off) :
    s.followsGrade (s.eventGradeChange z g) z g := by
  have hnot : ¬ (g = .alarm ∨ g = .wet) := by
    obtain rfl | rfl | rfl := hg <;> decide
  have hunpended : s.followsGrade (s.setPendingKind z none) z g := h.follows_unpended hnot
  cases hz : s.findZone z with
  | none =>
    rw [State.eventGradeChange_falls_without hg (.inl hz)]
    exact hunpended
  | some r =>
    obtain ⟨p, e⟩ := r
    have hrecord := State.recordAt_of_findZone hz
    cases hs : e.state with
    | cleared =>
      rw [State.eventGradeChange_falls_without hg (.inr ⟨p, e, hz, hs⟩)]
      exact hunpended
    | opened =>
      rw [State.eventGradeChange_clears hg hz hs]
      exact (hunpended.trans (hunpended.sound.follows_setRecord hz ((h.records p e hrecord).fallenCleared ..) rfl rfl
        fun hrisen => absurd hrisen hnot)).of_events rfl
    | acked =>
      rw [State.eventGradeChange_removes hg hz hs]
      obtain ⟨hsound, hstanding⟩ := hunpended.sound.removeRecord (p := p) (e := e) hrecord
      have hzone := State.zone_of_findZone hz
      have hremoved : s.followsGrade ((s.setPendingKind z none).removeRecord p e) z g :=
        { sound := hsound
          others := fun y hy hold =>
            hstanding y (fun hey => absurd (hey.symm.trans hzone) hy) (hunpended.others y hy hold)
          risen := fun hrisen => absurd hrisen hnot }
      exact hremoved.of_events rfl

/-- A change to STALE (R135). -/
theorem State.eventsSound.follows_stale (h : s.eventsSound) : s.followsGrade (s.markDataLost z) z .stale := by
  have hsame : s.followsGrade s z .stale := ⟨h, fun _ _ => id, nofun⟩
  cases hz : s.findZone z with
  | none => rwa [State.markDataLost_of_no_record hz]
  | some r =>
    obtain ⟨p, e⟩ := r
    rw [State.markDataLost_of_record hz]
    split
    · exact hsame
    · exact h.follows_setRecord hz (h.records p e (State.recordAt_of_findZone hz)).dataLost rfl rfl nofun

/-- The Event List's part in a grade change, whatever the grade after. -/
theorem State.eventsSound.follows (h : s.eventsSound) (z : ZoneId) (g : Grade) :
    s.followsGrade (s.eventGradeChange z g) z g := by
  cases g with
  | off => exact h.follows_fall (.inr (.inr rfl))
  | stale => exact h.follows_stale
  | clear => exact h.follows_fall (.inl rfl)
  | watch => exact h.follows_fall (.inr (.inl rfl))
  | alarm => exact h.follows_rise (.inl rfl)
  | wet => exact h.follows_rise (.inr rfl)

/-- Where the grade stays the list takes a margin at most (R105, R134). -/
theorem State.eventsSound.trackMargin (h : s.eventsSound) (z : ZoneId) :
    (s.trackMargin z).eventsSound ∧ ∀ y, s.standing y → (s.trackMargin z).standing y := by
  cases hz : s.findZone z with
  | none =>
    rw [State.trackMargin_of_no_record hz]
    exact ⟨h, fun _ => id⟩
  | some r =>
    obtain ⟨p, e⟩ := r
    have hrecord := State.recordAt_of_findZone hz
    by_cases hc : e.state = .cleared
    · rw [State.trackMargin_of_cleared hz hc]
      exact ⟨h, fun _ => id⟩
    · rw [State.trackMargin_of_record hz hc]
      exact ⟨h.setRecord hrecord ((h.records p e hrecord).tracked _) rfl rfl,
        fun y hs => hs.setRecord hrecord rfl fun _ => id⟩

end GradeChange

/-! ### A zone's new record is handed on (R104, R105) -/

/-- A zone's new record, with what it hands on: the Event List follows its grade, or keeps every standing where the
grade stays. -/
theorem State.eventsSound.handOn {s : State} (h : s.eventsSound) (z : ZoneId) (r : ZoneRecord) :
    (r.grade ≠ (s.zone z).grade ∧ s.followsGrade ((s.setZone z r).handOn z (s.zone z)) z r.grade)
      ∨ (r.grade = (s.zone z).grade ∧ ((s.setZone z r).handOn z (s.zone z)).eventsSound
          ∧ ∀ y, s.standing y → ((s.setZone z r).handOn z (s.zone z)).standing y) := by
  by_cases hg : r.grade = (s.zone z).grade
  · obtain ⟨u, ⟨⟨ls, hu⟩, -⟩, hkept⟩ := (s.setZone z r).marginHandover_spec z (s.zone z).m
    have hevents : u.events = s.events := by rw [hu]; rfl
    obtain ⟨hsound, hstanding⟩ := State.eventsSound.trackMargin (h.of_events hevents) z
    rw [State.handOn, State.zone_setZone_same, if_pos hg, hkept]
    exact .inr ⟨hg, hsound, fun y hs => hstanding y (hs.of_events hevents)⟩
  · have hnoticed : ((s.setZone z r).raise (.zone z) r.grade.urgency).eventsSound := h.of_events rfl
    have hfollows := hnoticed.follows z r.grade
    rw [State.handOn, State.zone_setZone_same, if_neg hg]
    refine .inl ⟨hg, State.followsGrade.of_events (t := (s.setZone z r).gradeNoticed z r.grade)
      ⟨hfollows.sound, fun y hy hs => hfollows.others y hy (hs.of_events rfl), hfollows.risen⟩ ?_⟩
    exact (State.gradeChange_events_port ..).1

end Sys2Proof.Machine
end

section
/-! What a step can do to the Event List and to the grades of the zones: everything else is a frame
(`State.keepsEvents`), and a predicate that the few operations on them keep is kept by every step
(`KeptByEvents.blocks`). -/

namespace Sys2Proof.Machine

open Sys2Proof

/-! ### Operations that leave the Event List and the grades alone -/

/-- t has the Event List of s and the grades of its zones. -/
structure State.keepsEvents (s t : State) : Prop where
  events : t.events = s.events
  grades : ∀ z, (t.zone z).grade = (s.zone z).grade

theorem State.keepsEvents.refl (s : State) : s.keepsEvents s := ⟨rfl, fun _ => rfl⟩

theorem State.keepsEvents.trans {s t v : State} (h : s.keepsEvents t) (h' : t.keepsEvents v) : s.keepsEvents v :=
  ⟨h'.events.trans h.events, fun z => (h'.grades z).trans (h.grades z)⟩

theorem State.keepsEvents.of_rest {s t : State} (he : t.events = s.events) (hz : t.zones = s.zones) :
    s.keepsEvents t :=
  ⟨he, fun z => by rw [State.zone, hz]; rfl⟩

theorem State.trunksOnly.keepsEvents {s t : State} (h : s.trunksOnly t) : s.keepsEvents t := by
  obtain ⟨es, ks, p, rfl⟩ := h
  exact .of_rest rfl rfl

theorem State.setProbe_keepsEvents (s : State) (a : Addr) (r : ProbeRecord) : s.keepsEvents (s.setProbe a r) :=
  .of_rest rfl rfl

theorem State.setLeak_keepsEvents (s : State) (l : LeakUnit) : s.keepsEvents (s.setLeak l) := .of_rest rfl rfl

/-- A zone's record that keeps its grade. -/
theorem State.setZone_keepsEvents (s : State) {z : ZoneId} {r : ZoneRecord} (h : r.grade = (s.zone z).grade) :
    s.keepsEvents (s.setZone z r) := by
  refine ⟨rfl, fun y => ?_⟩
  by_cases hy : y = z
  · rw [hy, State.zone_setZone_same, h]
  · rw [State.zone_setZone_of_ne _ _ hy]

theorem State.channelTold_keepsEvents (s : State) (c : ChannelId) (r : Channel) :
    s.keepsEvents (s.channelTold c r) := by
  obtain ⟨u, q, h⟩ := s.channelTold_eq c r
  rw [h]
  exact .of_rest rfl rfl

theorem State.discardGate_keepsEvents (s : State) (c : ChannelId) : s.keepsEvents (s.discardGate c) := by
  rw [s.discardGate_eq]
  exact s.setLeak_keepsEvents _

theorem State.setScanMode_keepsEvents (s : State) (mode : ScanMode) (period : Nat) :
    s.keepsEvents (s.setScanMode mode period) := by
  obtain ⟨t, es, h⟩ := s.setScanMode_eq mode period
  rw [h]
  exact .of_rest rfl rfl

theorem State.keepDone_keepsEvents (s : State) (agrees : Bool) : s.keepsEvents (s.keepDone agrees) := by
  unfold State.keepDone State.endKeep
  split
  · cases agrees <;> exact .of_rest rfl rfl
  · exact .refl s
  · exact .refl s

/-- A second counts a zone's dwell, and leaves its grade (R101). -/
theorem State.ticked_grade (s : State) (z : ZoneId) :
    ((s.zones.map ZoneRecord.tick).get z).grade = (s.zone z).grade := by
  rw [Table.get_map]
  rfl

/-! ### Predicates that every operation on them keeps -/

/-- P is of the Event List and the grades of the zones, and the operations on them keep it: a zone's new record handed
on, an acknowledgement, and the start of the blocks with no record and no active zone. -/
structure KeptByEvents (P : State → Prop) : Prop where
  frame   : ∀ {s t : State}, s.keepsEvents t → P s → P t
  handOn  : ∀ {s : State} (z : ZoneId) (r : ZoneRecord), P s → P ((s.setZone z r).handOn z (s.zone z))
  acked   : ∀ {s : State} {p : Place} {e : EventRecord}, s.recordAt p = some e → e.state = .opened → P s →
    P (s.setRecord p { e with state := .acked })
  removed : ∀ {s : State} {p : Place} {e : EventRecord}, s.recordAt p = some e → e.state = .cleared → P s →
    P (s.removeRecord p e)
  start   : ∀ {s t : State} {n : Nat}, t.events = EventList.empty n → n = 1 ∨ n = s.events.nextNumber →
    (∀ z, (t.zone z).grade.isActive = false) → P s → P t

theorem State.recordAt_of_findNumber {s : State} {n : Nat} {p : Place} {e : EventRecord}
    (h : s.findNumber n = some (p, e)) : s.recordAt p = some e := by
  obtain ⟨q, -, hq⟩ := List.exists_of_findSome?_eq_some h
  simp only [Option.bind_eq_some_iff, Option.ite_none_right_eq_some, Option.some.injEq, Prod.mk.injEq] at hq
  obtain ⟨f, hf, -, rfl, rfl⟩ := hq
  exact hf

namespace KeptByEvents

variable {P : State → Prop} (K : KeptByEvents P) {s : State}

include K

/-- An operation on neither the Event List nor the zones. -/
theorem rest {t : State} (h : P s) (he : t.events = s.events) (hz : t.zones = s.zones) : P t :=
  K.frame (.of_rest he hz) h

/-! #### Evaluations -/

theorem evaluate (z : ZoneId) (cause : EvalCause) (h : P s) : P (s.evaluate z cause) := by
  unfold State.evaluate
  split
  exacts [K.handOn z _ h, h]

theorem evaluateAll (zs : List ZoneId) (h : P s) : P (s.evaluateAll zs) :=
  KeptByWork.foldl _ (fun _ z h => K.evaluate z .ordinary h) zs h

theorem evaluateAt (a : Addr) (h : P s) : P (s.evaluateAt a) := by
  unfold State.evaluateAt
  split
  exacts [K.evaluate _ _ h, h]

theorem probeEvaluated (a : Addr) (r : ProbeRecord) (h : P s) : P ((s.setProbe a r).evaluateAt a) :=
  K.evaluateAt a (K.frame (s.setProbe_keepsEvents a r) h)

theorem changeMap (m : ZoneMap) (h : P s) : P (s.changeMap m) :=
  K.evaluateAll _ (K.rest (t := s.setMap m) h rfl rfl)

theorem changeMaxAge (age : Nat) (h : P s) : P (s.changeMaxAge age) :=
  K.evaluateAll _ (K.rest (t := s.rejudgedUnder age) h rfl rfl)

theorem changeChannel (c : ChannelId) (r : Channel) (h : P s) : P (s.changeChannel c r) := by
  have htold := K.frame (s.channelTold_keepsEvents c r) h
  obtain ⟨-, heq⟩ | ⟨-, -, -, heq⟩ | ⟨-, -, heq⟩ := s.changeChannel_cases c r <;> rw [heq]
  exacts [K.rest h rfl rfl, htold, K.evaluateAll _ htold]

theorem resetChannel (c : ChannelId) (r : Channel) (h : P s) : P (s.resetChannel c r) :=
  K.changeChannel c r (K.frame (s.discardGate_keepsEvents c) h)

theorem closeGate (cycles : Nat) (h : P s) : P (s.closeGate cycles) := by
  unfold State.closeGate
  split
  · exact h
  · refine K.frame (State.setLeak_keepsEvents ..) ?_
    split
    exacts [h, K.changeChannel _ _ h]

/-- A zone's settings or its dwell change, and it is evaluated (R90, R102). -/
theorem zoneEvaluated {z : ZoneId} {r : ZoneRecord} (cause : EvalCause) (hr : r.grade = (s.zone z).grade) (h : P s) :
    P ((s.setZone z r).evaluate z cause) :=
  K.evaluate z cause (K.frame (s.setZone_keepsEvents hr) h)

/-- The change of an OFF zone turned on is handed on from the record before it, as one (R91). -/
theorem turnOn (z : ZoneId) (h : P s) : P (s.turnOn z) := by
  have hset (r r' : ZoneRecord) : (s.setZone z r).setZone z r' = s.setZone z r' :=
    congrArg (fun zones => { s with zones := zones }) (Table.set_set ..)
  unfold State.turnOn
  dsimp only
  rw [hset]
  exact K.handOn z _ h

theorem expireDwell (z : ZoneId) (h : P s) : P (s.expireDwell z) := by
  unfold State.expireDwell
  split
  exacts [K.zoneEvaluated _ (by rfl) h, h]

theorem expireAge (a : Addr) (h : P s) : P (s.expireAge a) := by
  unfold State.expireAge
  split
  exacts [K.probeEvaluated a _ h, h]

/-- What the Probe Table is handed: a reading or a failure is written, and its zone evaluated, or nothing (R12). -/
theorem handToProbe (a : Addr) (res : AttemptResult) (o : ProbeOutcome) (h : P s) : P (s.handToProbe a res o) := by
  have hwritten (r : ProbeRecord) (raises : Bool) : P ((s.writeProbe a r raises).evaluateAt a) :=
    K.evaluateAt a
      (K.frame ((s.setProbe_keepsEvents a r).trans (s.writeProbe_trunksOnly a r raises).keepsEvents) h)
  unfold State.handToProbe State.applyOutcome
  simp only [State.failProbe_eq, State.storeReading_eq]
  split
  · cases o with
    | good => dsimp only; split; exacts [hwritten .., h]
    | tainted => dsimp only; split; exacts [hwritten .., h]
    | noAnswer => exact hwritten ..
    | badCheck => exact hwritten ..
    | kindMismatch => exact hwritten ..
    | notReady => exact h
    | notReadyLimit => exact h
    | trunkHalted => exact h
  · exact h

/-! #### The requests -/

theorem noticeMaskWork (p : List Byte) (h : P s) : P (noticeMaskWork p s).1 := by
  unfold Machine.noticeMaskWork
  split
  exacts [h, K.rest h rfl rfl]

theorem defineProbeWork (p : List Byte) (h : P s) : P (defineProbeWork p s).1 := by
  unfold Machine.defineProbeWork
  split
  exacts [K.probeEvaluated _ _ h, h]

theorem retireProbeWork (p : List Byte) (h : P s) : P (retireProbeWork p s).1 := by
  unfold Machine.retireProbeWork
  repeat' split
  exacts [h, K.probeEvaluated _ _ (K.frame (s.setEngine_trunksOnly ..).keepsEvents h), h]

theorem trunkRestartWork (p : List Byte) (h : P s) : P (trunkRestartWork p s).1 := by
  unfold Machine.trunkRestartWork
  repeat' split
  exacts [h, K.frame ((s.setEngine_trunksOnly ..).trans (State.raise_trunksOnly ..)).keepsEvents h, h]

theorem trunkSetupWork (p : List Byte) (h : P s) : P (trunkSetupWork p s).1 := by
  unfold Machine.trunkSetupWork
  split
  exacts [h, K.rest h rfl rfl]

theorem scanSetupWork (p : List Byte) (h : P s) : P (scanSetupWork p s).1 := by
  unfold Machine.scanSetupWork
  split
  exacts [h, K.changeMaxAge _ (K.frame (s.setScanMode_keepsEvents ..) h)]

theorem surveyCancelWork (p : List Byte) (h : P s) : P (surveyCancelWork p s).1 := by
  unfold Machine.surveyCancelWork
  repeat' split
  exacts [h, K.rest h rfl rfl, h, h, h]

theorem mapPointWork (p : List Byte) (h : P s) : P (mapPointWork p s).1 := by
  unfold Machine.mapPointWork
  repeat' split
  exacts [K.changeMap _ h, h, h]

theorem unmapPointWork (p : List Byte) (h : P s) : P (unmapPointWork p s).1 := by
  unfold Machine.unmapPointWork
  repeat' split
  exacts [h, h, K.changeMap _ h]

theorem mapSpanWork (p : List Byte) (h : P s) : P (mapSpanWork p s).1 := by
  unfold Machine.mapSpanWork State.mapSpan
  repeat' split
  exacts [h, K.changeMap _ h, h, K.changeMap _ h, h, h]

theorem unmapSpanWork (p : List Byte) (h : P s) : P (unmapSpanWork p s).1 := by
  unfold Machine.unmapSpanWork
  repeat' split
  exacts [h, h, K.changeMap _ h, h]

theorem zoneSetupWork (p : List Byte) (h : P s) : P (zoneSetupWork p s).1 := by
  unfold Machine.zoneSetupWork
  dsimp only
  repeat' split
  exacts [h, K.zoneEvaluated _ (by rfl) h, h]

theorem zoneOnWork (p : List Byte) (h : P s) : P (zoneOnWork p s).1 := by
  unfold Machine.zoneOnWork
  repeat' split
  exacts [h, h, K.turnOn _ h]

theorem zoneOffWork (p : List Byte) (h : P s) : P (zoneOffWork p s).1 := by
  unfold Machine.zoneOffWork
  repeat' split
  exacts [h, K.handOn _ _ h, h]

theorem leakSetupWork (p : List Byte) (h : P s) : P (leakSetupWork p s).1 := by
  unfold Machine.leakSetupWork
  split
  exacts [K.resetChannel _ _ h, h]

theorem leakRecalibrateWork (p : List Byte) (h : P s) : P (leakRecalibrateWork p s).1 := by
  unfold Machine.leakRecalibrateWork
  repeat' split
  exacts [h, h, K.resetChannel _ _ h]

theorem lineSetupWork (p : List Byte) (h : P s) : P (lineSetupWork p s).1 := by
  unfold Machine.lineSetupWork
  split
  exacts [K.rest h rfl rfl, h]

theorem lineReleaseWork (p : List Byte) (h : P s) : P (lineReleaseWork p s).1 := by
  unfold Machine.lineReleaseWork
  repeat' split
  all_goals exact K.rest h rfl rfl

/-- An acknowledgement: an OPEN record becomes ACKED, an ACKED one stays, a CLEARED one is removed (R139). -/
theorem eventAckWork (p : List Byte) (h : P s) : P (eventAckWork p s).1 := by
  unfold Machine.eventAckWork
  split
  · exact h
  · split
    · exact h
    · next place e hfound =>
      have hrecord := State.recordAt_of_findNumber hfound
      split
      · next ho => exact K.acked hrecord ho h
      · exact h
      · next hc => exact K.removed hrecord hc h

/-- The work of every request that is one step keeps P; nine of them only read. -/
theorem work : ∀ v ∈ requestServices, ∀ (p : List Byte) (s : State), P s → P (v.work p s).1 := by
  simp only [requestServices, List.forall_mem_cons]
  refine ⟨?identify, ?summary, fun p _ => K.noticeMaskWork p, fun p _ => K.defineProbeWork p,
    fun p _ => K.retireProbeWork p, ?probeQuery, fun p _ => K.trunkRestartWork p, fun p _ => K.trunkSetupWork p,
    fun p _ => K.scanSetupWork p, fun p _ => K.surveyCancelWork p, fun p _ => K.mapPointWork p,
    fun p _ => K.mapSpanWork p, fun p _ => K.unmapPointWork p, fun p _ => K.unmapSpanWork p, ?mapQuery,
    fun p _ => K.zoneSetupWork p, fun p _ => K.zoneOnWork p, fun p _ => K.zoneOffWork p, ?zoneQuery,
    fun p _ => K.leakSetupWork p, fun p _ => K.leakRecalibrateWork p, ?leakQuery, fun p _ => K.lineSetupWork p,
    fun p _ => K.lineReleaseWork p, ?lineQuery, ?eventList, ?eventQuery, fun p _ => K.eventAckWork p,
    fun v hv => absurd hv List.not_mem_nil⟩
  all_goals exact fun _ _ h => h

/-! #### Every block -/

/-- The blocks start with an empty list and with zones in STALE or OFF (R108, R143). -/
theorem restarted (h : P s) : P s.restarted := by
  refine K.start (s := s) rfl (.inr rfl) (fun z => ?_) h
  have hzone : s.restarted.zone z = ZoneRecord.start (s.zone z).enabled (s.zone z).cfg := Table.get_map ..
  rw [hzone]
  exact ZoneRecord.start_not_active ..

theorem startedFrom (i : Image) (h : P s) : P (s.startedFrom i) := by
  refine K.start (s := s) rfl (.inl rfl) (fun z => ?_) h
  have hzone : (s.startedFrom i).zone z = ZoneRecord.start (i.zones.get z).1 (i.zones.get z).2 := Table.get_map ..
  rw [hzone]
  exact ZoneRecord.start_not_active ..

theorem unloaded (power : Power) (store : Store) (pending : List Instr) (h : P s) :
    P (State.unloaded power store pending) := by
  refine K.start (s := s) rfl (.inl rfl) (fun z => ?_) h
  have hzone : (State.unloaded power store pending).zone z = ZoneRecord.start false ZoneConfig.default :=
    Table.get_all ..
  rw [hzone]
  exact ZoneRecord.start_not_active ..

/-- What keeps P of the Event List and the grades keeps it of every block. -/
theorem blocks : KeptByBlocks P where
  trunks ht := K.frame ht.keepsEvents
  queue _ h := K.rest h rfl rfl
  timer _ _ h := K.rest h rfl rfl
  unloaded power store pending _ _ := K.unloaded power store pending
  booting _ h := K.rest h rfl rfl
  started h := K.startedFrom _ (K.rest h rfl rfl)
  beginKeep _ h := K.rest h rfl rfl
  keepDone agrees := K.frame (State.keepDone_keepsEvents _ agrees)
  restarted := K.restarted
  work := K.work
  outcome a res o _ := K.handToProbe a res o
  expireAge := K.expireAge
  expireDwell := K.expireDwell
  dutyFrame h := K.rest h rfl rfl
  onTimeEnd _ h := K.rest h rfl rfl
  startRound := K.frame (State.setLeak_keepsEvents ..)
  closeGate := K.closeGate
  second {s} _ := K.frame (s := s) ⟨rfl, s.ticked_grade⟩

end KeptByEvents

end Sys2Proof.Machine
end

section
/-! Every step keeps the Event List sound (R126 to R128, R133), and every ALARM or WET zone recorded or pending
(R129). -/

namespace Sys2Proof.Machine

open Sys2Proof

/-- The start of the list (R143): no record, no flag, and a counter in its range. -/
theorem State.eventsSound_of_empty {s : State} {n : Nat} (hs : s.events = EventList.empty n)
    (hn : 1 ≤ n ∧ n ≤ 65535) : s.eventsSound := by
  have hrecord (p : Place) : s.recordAt p = none := by
    rw [State.recordAt, State.place, hs]
    exact congrArg PlaceRecord.record (Table.get_all ..)
  have hflag (z : ZoneId) : s.pendingKind z = none := by
    rw [State.pendingKind, hs]
    exact Table.get_all ..
  refine State.listSound.eventsSound ⟨?_, ?_, ?_, ?_, hs ▸ hn⟩ fun z hz => absurd hz (by simp [hflag z])
  · exact fun p e he => absurd (hrecord p ▸ he) nofun
  · exact fun p q e f he => absurd (hrecord p ▸ he) nofun
  · exact fun p q e f he => absurd (hrecord p ▸ he) nofun
  · rw [hs]
    exact ⟨List.nodup_nil, fun p => by simp [hrecord p, EventList.empty]⟩

theorem eventsSound_keptByEvents : KeptByEvents State.eventsSound where
  frame hk h := h.of_events hk.events
  handOn z r h := (h.handOn z r).elim (fun hchanged => hchanged.2.sound) fun hkept => hkept.2.1
  acked he ho h := h.setRecord he ((h.records _ _ he).acked ho) rfl rfl
  removed he _ h := (h.removeRecord he).1
  start ht hn _ h := by
    obtain rfl | rfl := hn
    exacts [State.eventsSound_of_empty ht ⟨by decide, by decide⟩, State.eventsSound_of_empty ht h.counter]

/-- Settles O57: each operation on the Event List keeps it sound, and every other step leaves it alone. -/
theorem stepKeepsEvents : Obligations.StepKeepsEvents := fun _ _ h hstep => eventsSound_keptByEvents.blocks.step h hstep

/-! ### Zones in ALARM or WET (R129) -/

/-- In a sound list the record that a zone has is the one that is found. -/
theorem State.alarmsRecorded_iff {s : State} (h : s.eventsSound) :
    s.alarmsRecorded ↔ ∀ z, (s.zone z).grade = .alarm ∨ (s.zone z).grade = .wet → s.standing z := by
  refine forall_congr' fun z => imp_congr_right fun _ => or_congr_left ⟨?_, ?_⟩
  · rintro ⟨p, e, hfound, hstate⟩
    exact ⟨p, e, State.recordAt_of_findZone hfound, State.zone_of_findZone hfound, hstate⟩
  · rintro ⟨p, e, hrecord, rfl, hstate⟩
    exact ⟨p, e, h.listSound.findZone_of_recordAt hrecord, hstate⟩

/-- The Event List is sound, and every zone graded ALARM or WET has a record in OPEN or ACKED or its flag. -/
def State.alarmsStand (s : State) : Prop :=
  s.eventsSound ∧ ∀ z, (s.zone z).grade = .alarm ∨ (s.zone z).grade = .wet → s.standing z

/-- No zone loses its standing, and none changes its grade. -/
theorem State.alarmsStand.of_grades {s t : State} (h : s.alarmsStand) (ht : t.eventsSound)
    (hgrade : ∀ z, (t.zone z).grade = (s.zone z).grade) (hstanding : ∀ z, s.standing z → t.standing z) :
    t.alarmsStand :=
  ⟨ht, fun z hz => hstanding z (h.2 z (hgrade z ▸ hz))⟩

/-- A zone's new record is handed on: the list gives the zone what its new grade asks for. -/
theorem State.alarmsStand.handOn {s : State} (h : s.alarmsStand) (z : ZoneId) (r : ZoneRecord) :
    ((s.setZone z r).handOn z (s.zone z)).alarmsStand := by
  have hzone (y : ZoneId) : ((s.setZone z r).handOn z (s.zone z)).zone y = (s.setZone z r).zone y :=
    (State.handOn_handedOn ..).keepsZones.zone y
  obtain ⟨-, hfollows⟩ | ⟨hgrade, hsound, hstanding⟩ := h.1.handOn z r
  · refine ⟨hfollows.sound, fun y hy => ?_⟩
    rw [hzone] at hy
    by_cases hyz : y = z
    · subst hyz
      exact hfollows.risen (State.zone_setZone_same s y r ▸ hy)
    · exact hfollows.others y hyz (h.2 y (State.zone_setZone_of_ne s r hyz ▸ hy))
  · exact h.of_grades hsound (fun y => (congrArg _ (hzone y)).trans ((s.setZone_keepsEvents hgrade).grades y)) hstanding

/-- An operation of the Event List alone by which no zone loses its standing. -/
theorem State.alarmsStand.of_eventsOnly {s t : State} (h : s.alarmsStand) (ho : s.eventsOnly t) (ht : t.eventsSound)
    (hstanding : ∀ z, s.standing z → t.standing z) : t.alarmsStand :=
  h.of_grades ht (fun z => congrArg _ (ho.handedOn.keepsZones.zone z)) hstanding

theorem alarmsStand_keptByEvents : KeptByEvents State.alarmsStand where
  frame hk h := h.of_grades (h.1.of_events hk.events) hk.grades fun _ hz => hz.of_events hk.events
  handOn z r h := h.handOn z r
  acked he ho h := h.of_eventsOnly (State.setRecord_eventsOnly ..) (eventsSound_keptByEvents.acked he ho h.1)
    fun _ hz => hz.setRecord he rfl fun _ _ => nofun
  removed he hc h := h.of_eventsOnly (State.removeRecord_eventsOnly ..) (h.1.removeRecord he).1
    fun z hz => (h.1.removeRecord he).2 z (fun _ => hc) hz
  start {s t n} ht hn hz h := by
    refine ⟨eventsSound_keptByEvents.start ht hn hz h.1, fun z hgrade => ?_⟩
    have hidle := hz z
    obtain hg | hg := hgrade <;> rw [hg] at hidle <;> cases hidle

/-- Settles O58: a rise gives the zone a record or its flag, and only its own fall takes it away again; a CLEARED record
that is removed is of no ALARM or WET zone's standing. What the zone records hold beside their grades has no part in
it. -/
theorem stepKeepsAlarmsRecorded : Obligations.StepKeepsAlarmsRecorded := by
  intro s t _ hevents halarms hstep
  have hstand : s.alarmsStand := ⟨hevents, (State.alarmsRecorded_iff hevents).mp halarms⟩
  obtain ⟨hsound, hafter⟩ := alarmsStand_keptByEvents.blocks.step hstand hstep
  exact (State.alarmsRecorded_iff hsound).mpr hafter

end Sys2Proof.Machine
end

section
/-! Event Ack (R138, R139): by the state of the record that it names, and the pending zone that a removal serves. -/

namespace Sys2Proof.Machine

open Sys2Proof

section Ack

variable {s s0 : State} {tag : Byte} {p : List Byte} {place : Place} {e : EventRecord} {z : ZoneId} {k : EventKind}

/-! ### The work, by what the list finds (R139) -/

theorem eventAckWork_of_no_record (hn : u16 p 0 ≠ 0) (h : s.findNumber (u16 p 0) = none) :
    eventAckWork p s = (s, Reply.bare .notFound) := by
  rw [eventAckWork, if_neg hn, h]

theorem eventAckWork_of_opened (hn : u16 p 0 ≠ 0) (h : s.findNumber (u16 p 0) = some (place, e))
    (ho : e.state = .opened) :
    eventAckWork p s = (s.setRecord place { e with state := .acked },
      ⟨.ok, be16 e.number ++ [byte e.zone.val, 1, 2] ++ [0, 0, 0xFF]⟩) := by
  rw [eventAckWork, if_neg hn, h]
  dsimp only
  rw [ho]
  dsimp only
  rw [ackReply, ho]
  rfl

theorem eventAckWork_of_acked (hn : u16 p 0 ≠ 0) (h : s.findNumber (u16 p 0) = some (place, e))
    (ha : e.state = .acked) :
    eventAckWork p s = (s, ⟨.ok, be16 e.number ++ [byte e.zone.val, 2, 2] ++ [0, 0, 0xFF]⟩) := by
  rw [eventAckWork, if_neg hn, h]
  dsimp only
  rw [ha]
  dsimp only
  rw [ackReply, ha]
  rfl

/-- A CLEARED record is removed; the number and zone of the record that the pending service opens follow. -/
theorem eventAckWork_of_cleared (hn : u16 p 0 ≠ 0) (h : s.findNumber (u16 p 0) = some (place, e))
    (hc : e.state = .cleared) :
    eventAckWork p s = (s.removeRecord place e,
      ⟨.ok, be16 e.number ++ [byte e.zone.val, 3, 4] ++ optZero ((s.servedBy place e).map (·.number))
        ++ [optCode ((s.servedBy place e).map fun r => byte r.zone.val)]⟩) := by
  rw [eventAckWork, if_neg hn, h]
  dsimp only
  rw [hc]
  dsimp only
  rw [ackReply, hc]
  rfl

theorem State.removeRecord_executing (s : State) (place : Place) (e : EventRecord) :
    (s.removeRecord place e).port.executing = s.port.executing := by
  obtain ⟨l, u, r, h⟩ := s.removeRecord_eventsOnly place e
  rw [h]

/-- Where the execution of Event Ack begins (R162). -/
theorem execEventAck_answered {t : State} {status : Status} {body : List Byte} (hb : s.begins ⟨0x3A, tag, p⟩ s0)
    (hl : p.length = 2) (hw : eventAckWork p s0 = (t, ⟨status, body⟩))
    (ht : t.port.executing = s0.port.executing) :
    exec (.eventAck tag p) s = .next (t.answered (replyTo 0x3A tag status body)) :=
  runRequest_answered (v := eventAckService) (by decide) hb hl hw ht

/-! ### A CLEARED record removed (R138) -/

/-- A removal while no zone is pending opens no record. -/
theorem State.removeRecord_of_none (h : ∀ y, s.pendingKind y = none) (place : Place) (e : EventRecord) :
    s.removeRecord place e = s.setEvents (s.events.dropRecord place e) ∧ s.servedBy place e = none := by
  have hnone (y : ZoneId) : (s.setEvents (s.events.dropRecord place e)).pendingKind y = none := h y
  rw [State.removeRecord, State.servePending_of_none hnone, State.servedBy, State.lowestPending_eq_none.mpr hnone]
  exact ⟨rfl, rfl⟩

/-- In a full list the removal of a record gives the place to the pending zone with the lowest number. -/
theorem State.removeRecord_of_lowest (hs : s.eventsSound) (he : s.recordAt place = some e)
    (hk : s.pendingKind z = some k) (hlow : ∀ y, y < z → s.pendingKind y = none) :
    s.removeRecord place e = (s.servedFrom e.zone place e z).openRecord z k true
      ∧ s.servedBy place e = some ((s.servedFrom e.zone place e z).newRecord z k true) := by
  have hown := hs.pendingKind_of_record (hs.listSound.findZone_of_recordAt he)
  have hkept : s.setPendingKind e.zone none = s := by
    rw [← hown, State.setPendingKind, State.pendingKind, Table.set_get_self]
  have hdropped : s.setEvents (s.events.dropRecord place e) = s.removedFrom e.zone place e := by
    rw [State.removedFrom, hkept]
  have hk' : (s.setEvents (s.events.dropRecord place e)).pendingKind z = some k := hk
  have hopened : s.removeRecord place e = (s.servedFrom e.zone place e z).openRecord z k true := by
    rw [State.removeRecord, State.servePending_of_lowest hk' hlow, hdropped]
    rfl
  have hp : (s.servedFrom e.zone place e z).freePlace = some place :=
    (s.removedFrom_freePlace (hs.flags z (by rw [hk]; rfl)).1 e.zone place e).1
  refine ⟨hopened, ?_⟩
  have hrecord : (s.removeRecord place e).recordAt place =
      some ((s.servedFrom e.zone place e z).newRecord z k true) := by
    rw [hopened, State.recordAt_openRecord_of_freePlace hp, if_pos rfl]
  have hfound : (s.removeRecord place e).findZone z = _ := (hs.removeRecord he).1.listSound.findZone_of_recordAt hrecord
  rw [State.servedBy, State.lowestPending_eq_some.mpr ⟨hk', hlow⟩]
  dsimp only
  rw [hfound]
  rfl

/-- What the removal of a record and the pending service leave: the new record in the place just freed, last in the
order, and its zone's flag dropped. -/
theorem State.removeRecord_serves (hs : s.eventsSound) (he : s.recordAt place = some e)
    (hk : s.pendingKind z = some k) (hlow : ∀ y, y < z → s.pendingKind y = none) {t : State}
    (ht : t = s.removeRecord place e) :
    t.recordAt place = some ((s.servedFrom e.zone place e z).newRecord z k true)
      ∧ t.pendingKind z = none ∧ (∀ y, y ≠ z → t.pendingKind y = s.pendingKind y)
      ∧ (∀ q, q ≠ place → t.place q = s.place q) ∧ t.events.order = s.events.order.erase place ++ [place]
      ∧ (s.port.mask.event = true → .event place ∈ t.port.urgent) := by
  have hp : (s.servedFrom e.zone place e z).freePlace = some place :=
    (s.removedFrom_freePlace (hs.flags z (by rw [hk]; rfl)).1 e.zone place e).1
  have hown := hs.pendingKind_of_record (hs.listSound.findZone_of_recordAt he)
  obtain ⟨-, hother, -⟩ := s.removedFrom_spec e.zone place e
  rw [(State.removeRecord_of_lowest hs he hk hlow).1] at ht
  obtain ⟨hplace, hrest, horder, -, hpending, hurgent⟩ := State.openRecord_spec hp ht
  have hflag (y : ZoneId) : t.pendingKind y = if y = z then none else s.pendingKind y := by
    rw [← State.servedFrom_pendingKind (p := place) (e := e) hown]
    exact congrArg (Table.get · y) hpending
  exact ⟨congrArg PlaceRecord.record hplace, (hflag z).trans (if_pos rfl), fun y hy => (hflag y).trans (if_neg hy),
    fun q hq => (hrest q hq).trans (hother q hq), horder, hurgent⟩

end Ack

/-- Settles O41: the work by the record's state, a removal with no zone pending by `State.removeRecord_of_none`, and
with one by `State.removeRecord_serves`. -/
theorem eventAckByState : Obligations.EventAckByState := by
  intro s s0 tag p hb hl hn
  refine ⟨fun hnone => ?notFound, fun place e hfound => ⟨fun ho => ?opened, fun ha => ?acked, fun hc hnone => ?removed,
    fun z k hc hs hk hlow => ?served⟩⟩
  case notFound => exact execEventAck_answered hb hl (eventAckWork_of_no_record hn hnone) rfl
  case opened => exact execEventAck_answered hb hl (eventAckWork_of_opened hn hfound ho) rfl
  case acked => exact execEventAck_answered hb hl (eventAckWork_of_acked hn hfound ha) rfl
  case removed =>
    obtain ⟨hremoved, hserved⟩ := State.removeRecord_of_none hnone place e
    have hwork := eventAckWork_of_cleared hn hfound hc
    rw [hremoved, hserved] at hwork
    exact ⟨_, execEventAck_answered hb hl hwork rfl, rfl, Table.get_set_same .., fun q hq => Table.get_set_of_ne _ _ hq,
      rfl⟩
  case served =>
    have hrecord := State.recordAt_of_findNumber hfound
    obtain ⟨hplace, hflag, hflags, hother, horder, hurgent⟩ := State.removeRecord_serves hs hrecord hk hlow rfl
    have hkeeps := (s0.removeRecord_eventsOnly place e).handedOn
    have hrest : (s0.removeRecord place e).lines = s0.lines ∧ (s0.removeRecord place e).leak = s0.leak := by
      obtain ⟨l, u, r, h⟩ := s0.removeRecord_eventsOnly place e
      rw [h]
      exact ⟨rfl, rfl⟩
    have hwork := eventAckWork_of_cleared hn hfound hc
    rw [(State.removeRecord_of_lowest hs hrecord hk hlow).2] at hwork
    refine ⟨_, _, execEventAck_answered hb hl hwork (s0.removeRecord_executing place e), hplace, rfl, rfl, rfl, rfl,
      rfl, rfl, rfl, rfl, rfl, beq_iff_eq, hflag, hflags, hother, horder, hkeeps.zones, hkeeps.keeps.probes, hrest.1,
      hrest.2, hurgent, ?_⟩
    rw [State.answered_outgoing, Port.outgoing, hkeeps.keeps.port]
    rfl

end Sys2Proof.Machine
end

section
/-! One output line: the duty its zones ask for, a recompute, and the line records that each operation leaves sound
(R145, R146, R148 to R153, R155, R157, R158). -/

namespace Sys2Proof.Machine

open Sys2Proof

/-! ### The duty that the zones ask for (R85, R152) -/

/-- A duty is in 0..255 even where A does not stand below W. -/
theorem zoneDuty_inRange (w a m : Int) : zoneDuty w a m ≤ 255 := by
  obtain haw | hwa := lt_or_ge a w
  · exact zoneDuty_le_255 haw m
  · unfold zoneDuty
    split
    · exact Nat.zero_le 255
    · rw [if_pos (by omega)]

/-- Of a zone with a margin, the proposal by its grade (R152). -/
theorem LineConfig.proposal_of_margin (c : LineConfig) {z : ZoneRecord} {m : Int}
    (hg : z.grade = .clear ∨ z.grade = .watch ∨ z.grade = .alarm) (hm : z.m = some m) :
    c.proposal z = zoneDuty z.cfg.w z.cfg.a m := by
  unfold LineConfig.proposal
  obtain hg | hg | hg := hg <;> rw [hg, hm]

theorem LineConfig.proposal_inRange (c : LineConfig) (z : ZoneRecord) : c.proposal z ≤ 255 := by
  have hgraded (hg : z.grade = .clear ∨ z.grade = .watch ∨ z.grade = .alarm) : c.proposal z ≤ 255 := by
    cases hm : z.m with
    | some m =>
      rw [c.proposal_of_margin hg hm]
      exact zoneDuty_inRange ..
    | none =>
      unfold LineConfig.proposal
      obtain hg | hg | hg := hg <;> rw [hg, hm] <;> exact Nat.zero_le 255
  cases hg : z.grade with
  | wet =>
    rw [LineConfig.proposal, hg]
  | stale =>
    rw [LineConfig.proposal, hg]
    dsimp only
    split
    exacts [Nat.le_refl 255, Nat.zero_le 255]
  | off =>
    rw [LineConfig.proposal, hg]
    exact Nat.zero_le 255
  | clear => exact hgraded (.inl hg)
  | watch => exact hgraded (.inr (.inl hg))
  | alarm => exact hgraded (.inr (.inr hg))

/-- What the table of R152 gives is the proposal. -/
theorem State.proposes.eq_proposal {s : State} {c : LineConfig} {z : ZoneId} {d : Nat} (h : s.proposes c z d) :
    d = c.proposal (s.zone z) := by
  obtain ⟨hg, rfl⟩ | ⟨hg, rfl⟩ | ⟨hg, rfl⟩ | ⟨hg, m, hm, rfl⟩ := h
  · rw [LineConfig.proposal, hg]
  · rw [LineConfig.proposal, hg]
  · rw [LineConfig.proposal, hg]
  · exact (c.proposal_of_margin hg hm).symm

/-- A zone with a sound record proposes by the table of R152. -/
theorem State.proposes_proposal {s : State} {z : ZoneId} (h : (s.zone z).sound) (c : LineConfig) :
    s.proposes c z (c.proposal (s.zone z)) := by
  have hgraded (hg : (s.zone z).grade = .clear ∨ (s.zone z).grade = .watch ∨ (s.zone z).grade = .alarm) :
      s.proposes c z (c.proposal (s.zone z)) := by
    obtain ⟨m, hm⟩ := Option.isSome_iff_exists.mp (h.graded hg)
    exact .inr (.inr (.inr ⟨hg, m, hm, c.proposal_of_margin hg hm⟩))
  cases hg : (s.zone z).grade with
  | wet => exact .inl ⟨hg, by rw [LineConfig.proposal, hg]⟩
  | stale => exact .inr (.inl ⟨hg, by rw [LineConfig.proposal, hg]⟩)
  | off => exact .inr (.inr (.inl ⟨hg, by rw [LineConfig.proposal, hg]⟩))
  | clear => exact hgraded (.inl hg)
  | watch => exact hgraded (.inr (.inl hg))
  | alarm => exact hgraded (.inr (.inr hg))

/-- The greatest of a start and of what f gives where p is so: none is above it, and it is one of them. -/
theorem foldl_max_spec {α : Type} (p : α → Bool) (f : α → Nat) (xs : List α) (start : Nat) {greatest : Nat}
    (h : greatest = xs.foldl (fun acc x => if p x then max acc (f x) else acc) start) :
    start ≤ greatest ∧ (∀ x ∈ xs, p x = true → f x ≤ greatest)
      ∧ (greatest = start ∨ ∃ x ∈ xs, p x = true ∧ greatest = f x) := by
  induction xs generalizing start with
  | nil => exact ⟨h.ge, fun x hx => absurd hx List.not_mem_nil, .inl h⟩
  | cons x xs ih =>
    obtain ⟨hstart, habove, hone⟩ := ih _ h
    dsimp only at hstart hone
    by_cases hx : p x = true
    · rw [if_pos hx] at hstart hone
      refine ⟨by omega, List.forall_mem_cons.mpr ⟨fun _ => by omega, habove⟩, ?_⟩
      obtain hone | ⟨y, hy, hone⟩ := hone
      · obtain hle | hle := Nat.le_total (f x) start
        · exact .inl (hone.trans (Nat.max_eq_left hle))
        · exact .inr ⟨x, List.mem_cons_self, hx, hone.trans (Nat.max_eq_right hle)⟩
      · exact .inr ⟨y, List.mem_cons_of_mem x hy, hone⟩
    · rw [if_neg hx] at hstart hone
      refine ⟨hstart, List.forall_mem_cons.mpr ⟨fun h => absurd h hx, habove⟩, hone.imp id ?_⟩
      rintro ⟨y, hy, hone⟩
      exact ⟨y, List.mem_cons_of_mem x hy, hone⟩

theorem State.proposal_le_askedDuty (s : State) {c : LineConfig} {z : ZoneId} (h : c.holds z = true) :
    c.proposal (s.zone z) ≤ s.askedDuty c :=
  (foldl_max_spec (fun z => c.holds z) (fun z => c.proposal (s.zone z)) _ 0 rfl).2.1 z (List.mem_finRange z) h

/-- The duty asked is 0 or some zone's proposal. -/
theorem State.askedDuty_attained (s : State) (c : LineConfig) :
    s.askedDuty c = 0 ∨ ∃ z, c.holds z = true ∧ s.askedDuty c = c.proposal (s.zone z) :=
  (foldl_max_spec (fun z => c.holds z) (fun z => c.proposal (s.zone z)) _ 0 rfl).2.2.imp id
    fun ⟨z, _, hz⟩ => ⟨z, hz⟩

theorem State.askedDuty_inRange (s : State) (c : LineConfig) : s.askedDuty c ≤ 255 := by
  obtain h | ⟨z, -, h⟩ := s.askedDuty_attained c
  · omega
  · exact h.trans_le (c.proposal_inRange _)

/-! ### A recompute, and the requests to a line (R149 to R151, R155) -/

theorem LineRecord.recomputed_off {l : LineRecord} (h : l.cfg.mode = .off) (triggered : Bool) (duty : Nat) :
    l.recomputed triggered duty = { l with latched := false, computed := 0, applied := 0, drive := .inactive } := by
  rw [LineRecord.recomputed, h]

theorem LineRecord.recomputed_follow {l : LineRecord} (h : l.cfg.mode = .follow) (triggered : Bool) (duty : Nat) :
    l.recomputed triggered duty = { l with drive := if triggered then .active else .inactive } := by
  rw [LineRecord.recomputed, h]

theorem LineRecord.recomputed_latch {l : LineRecord} (h : l.cfg.mode = .latch) (triggered : Bool) (duty : Nat) :
    l.recomputed triggered duty =
      { l with latched := l.latched || triggered,
               drive := if l.latched || triggered then .active else .inactive } := by
  rw [LineRecord.recomputed, h]

theorem LineRecord.recomputed_proportional {l : LineRecord} (h : l.cfg.mode = .proportional) (triggered : Bool)
    (duty : Nat) : l.recomputed triggered duty = { l with computed := duty } := by
  rw [LineRecord.recomputed, h]

theorem LineRecord.setUp_off {c : LineConfig} (h : c.mode = .off) (l : LineRecord) (triggered : Bool) (duty : Nat) :
    (l.setUp c).recomputed triggered duty = ⟨c, false, 0, 0, .inactive⟩ := by
  rw [LineRecord.setUp, h]
  exact LineRecord.recomputed_off h ..

theorem LineRecord.setUp_follow {c : LineConfig} (h : c.mode = .follow) (l : LineRecord) (triggered : Bool)
    (duty : Nat) :
    (l.setUp c).recomputed triggered duty = ⟨c, false, 0, 0, if triggered then .active else .inactive⟩ := by
  rw [LineRecord.setUp, h]
  exact LineRecord.recomputed_follow h ..

theorem LineRecord.setUp_latch {c : LineConfig} (h : c.mode = .latch) (l : LineRecord) (triggered : Bool)
    (duty : Nat) :
    (l.setUp c).recomputed triggered duty = ⟨c, triggered, 0, 0, if triggered then .active else .inactive⟩ := by
  rw [LineRecord.setUp, h]
  exact LineRecord.recomputed_latch h ..

/-- A line that becomes PROPORTIONAL begins INACTIVE, its applied duty 0 (R155). -/
theorem LineRecord.setUp_becomes_proportional {c : LineConfig} (h : c.mode = .proportional) {l : LineRecord}
    (hl : l.cfg.mode ≠ .proportional) (triggered : Bool) (duty : Nat) :
    (l.setUp c).recomputed triggered duty = ⟨c, false, duty, 0, .inactive⟩ := by
  rw [LineRecord.setUp, h]
  dsimp only
  rw [if_neg hl]
  exact LineRecord.recomputed_proportional h ..

/-- A line that stays PROPORTIONAL keeps its applied duty and its drive (R155). -/
theorem LineRecord.setUp_stays_proportional {c : LineConfig} (h : c.mode = .proportional) {l : LineRecord}
    (hl : l.cfg.mode = .proportional) (triggered : Bool) (duty : Nat) :
    (l.setUp c).recomputed triggered duty = ⟨c, false, duty, l.applied, l.drive⟩ := by
  rw [LineRecord.setUp, h]
  dsimp only
  rw [if_pos hl]
  exact LineRecord.recomputed_proportional h ..

theorem State.setOutLine_setOutLine (s : State) (l : LineId) (r r' : LineRecord) :
    (s.setOutLine l r).setOutLine l r' = s.setOutLine l r' :=
  congrArg (fun lines => { s with lines := lines }) (Table.set_set ..)

/-- A line's record written and the line recomputed at once: one write, from the zones as they stand. -/
theorem State.recompute_setOutLine (s : State) (l : LineId) (r : LineRecord) :
    (s.setOutLine l r).recompute l = s.setOutLine l (r.recomputed (s.triggered r.cfg) (s.askedDuty r.cfg)) := by
  have hzones : (s.setOutLine l r).zones = s.zones := rfl
  rw [State.recompute, State.outLine_setOutLine_same, State.setOutLine_setOutLine, State.triggered_congr hzones,
    State.askedDuty_congr hzones]

theorem LineRecord.setUp_cfg (l : LineRecord) (c : LineConfig) : (l.setUp c).cfg = c := by
  unfold LineRecord.setUp
  split
  · split <;> rfl
  all_goals rfl

theorem State.setUpLine_eq (s : State) (l : LineId) (c : LineConfig) :
    s.setUpLine l c = s.setOutLine l (((s.outLine l).setUp c).recomputed (s.triggered c) (s.askedDuty c)) := by
  rw [State.setUpLine, State.recompute_setOutLine, LineRecord.setUp_cfg]

/-- Line Release leaves a LATCH line as its zones trigger it (R151). -/
theorem State.releaseLine_eq {s : State} {l : LineId} (h : (s.outLine l).cfg.mode = .latch) :
    s.releaseLine l = s.setOutLine l { s.outLine l with
      latched := s.triggered (s.outLine l).cfg
      drive := if s.triggered (s.outLine l).cfg then .active else .inactive } := by
  rw [State.releaseLine, State.recompute_setOutLine]
  exact congrArg (s.setOutLine l) (LineRecord.recomputed_latch (l := { s.outLine l with latched := false }) h ..)

/-! ### Sound records of the running part (R145, R146) -/

theorem LineRecord.start_sound (cfg : LineConfig) : (LineRecord.start cfg .inactive).sound true :=
  ⟨⟨Nat.zero_le 255, Nat.zero_le 255⟩, fun _ => ⟨rfl, rfl⟩, fun _ => rfl, fun _ => ⟨nofun, nofun⟩, ⟨nofun, nofun⟩⟩

theorem LineRecord.start_undriven_sound (cfg : LineConfig) : (LineRecord.start cfg .undriven).sound false :=
  ⟨⟨Nat.zero_le 255, Nat.zero_le 255⟩, fun _ => ⟨rfl, rfl⟩, fun _ => rfl, fun _ => ⟨nofun, nofun⟩,
    ⟨fun _ => rfl, fun _ => rfl⟩⟩

theorem LineRecord.sound.driven {l : LineRecord} (h : l.sound true) : l.drive ≠ .undriven :=
  fun hu => Bool.noConfusion (h.undriven.mp hu)

/-- A line that follows its trigger is ACTIVE or INACTIVE. -/
theorem triggeredDrive_iff (triggered : Bool) :
    ((if triggered then Drive.active else .inactive) = .active ↔ triggered = true)
      ∧ (if triggered then Drive.active else .inactive) ≠ .undriven := by
  cases triggered <;> decide

/-- A driven line that neither latches nor works by a duty. -/
theorem LineRecord.sound_of_resting {l : LineRecord} (hmode : l.cfg.mode ≠ .latch) (hlatch : l.latched = false)
    (hduties : l.computed = 0 ∧ l.applied = 0) (hdrive : l.drive ≠ .undriven) : l.sound true :=
  ⟨by omega, fun _ => hduties, fun _ => hlatch, fun h => absurd h hmode, fun h => absurd h hdrive, nofun⟩

/-- A driven PROPORTIONAL line. -/
theorem LineRecord.sound_of_proportional {l : LineRecord} (hmode : l.cfg.mode = .proportional)
    (hlatch : l.latched = false) (hduties : l.computed ≤ 255 ∧ l.applied ≤ 255) (hdrive : l.drive ≠ .undriven) :
    l.sound true :=
  ⟨hduties, fun h => absurd hmode h, fun _ => hlatch, fun h => (nomatch hmode.symm.trans h),
    fun h => absurd h hdrive, nofun⟩

/-- A LATCH line that is driven as its latch says. -/
theorem LineRecord.sound_of_latch {l : LineRecord} (hmode : l.cfg.mode = .latch)
    (hworking : l.computed = 0 ∧ l.applied = 0) (hdrive : l.drive = if l.latched then .active else .inactive) :
    l.sound true := by
  obtain ⟨hactive, hdriven⟩ := triggeredDrive_iff l.latched
  rw [← hdrive] at hactive hdriven
  exact ⟨by omega, fun _ => hworking, fun h => absurd hmode h, fun _ => hactive, fun h => absurd h hdriven, nofun⟩

/-- Whatever the trigger and the duty asked, a recompute leaves a sound record sound. -/
theorem LineRecord.sound.recomputed {l : LineRecord} (h : l.sound true) (triggered : Bool) {duty : Nat}
    (hduty : duty ≤ 255) : (l.recomputed triggered duty).sound true := by
  cases hm : l.cfg.mode with
  | off =>
    rw [LineRecord.recomputed_off hm]
    exact LineRecord.sound_of_resting (by simp [hm]) rfl ⟨rfl, rfl⟩ nofun
  | follow =>
    rw [LineRecord.recomputed_follow hm]
    exact LineRecord.sound_of_resting (by simp [hm]) (h.latch (by simp [hm])) (h.working (by simp [hm]))
      (triggeredDrive_iff triggered).2
  | latch =>
    rw [LineRecord.recomputed_latch hm]
    exact LineRecord.sound_of_latch hm (h.working (by simp [hm])) rfl
  | proportional =>
    rw [LineRecord.recomputed_proportional hm]
    exact LineRecord.sound_of_proportional hm (h.latch (by simp [hm])) ⟨hduty, h.duties.2⟩ h.driven

/-- Line Setup leaves a sound record, in whatever mode the line was (R155). -/
theorem LineRecord.sound.setUp {l : LineRecord} (h : l.sound true) (c : LineConfig) (triggered : Bool) {duty : Nat}
    (hduty : duty ≤ 255) : ((l.setUp c).recomputed triggered duty).sound true := by
  cases hm : c.mode with
  | off =>
    rw [LineRecord.setUp_off hm]
    exact LineRecord.sound_of_resting (by simp [hm]) rfl ⟨rfl, rfl⟩ nofun
  | follow =>
    rw [LineRecord.setUp_follow hm]
    exact LineRecord.sound_of_resting (by simp [hm]) rfl ⟨rfl, rfl⟩ (triggeredDrive_iff triggered).2
  | latch =>
    rw [LineRecord.setUp_latch hm]
    exact LineRecord.sound_of_latch hm ⟨rfl, rfl⟩ rfl
  | proportional =>
    by_cases hl : l.cfg.mode = .proportional
    · rw [LineRecord.setUp_stays_proportional hm hl]
      exact LineRecord.sound_of_proportional hm rfl ⟨hduty, h.duties.2⟩ h.driven
    · rw [LineRecord.setUp_becomes_proportional hm hl]
      exact LineRecord.sound_of_proportional hm rfl ⟨hduty, Nat.zero_le 255⟩ nofun

/-- A frame start applies the computed duty of a PROPORTIONAL line (R153). -/
theorem LineRecord.sound.frameStarted {l : LineRecord} (h : l.sound true) : l.frameStarted.sound true := by
  unfold LineRecord.frameStarted
  split
  · next hm =>
    refine LineRecord.sound_of_proportional hm (h.latch (by simp [hm])) ⟨h.duties.1, h.duties.1⟩ ?_
    dsimp only
    split <;> nofun
  · exact h

theorem LineRecord.sound.onTimeEnded {l : LineRecord} (h : l.sound true) : l.onTimeEnded.sound true := by
  unfold LineRecord.onTimeEnded
  split
  · next hended =>
    obtain ⟨hm, -, -⟩ := hended
    exact LineRecord.sound_of_proportional hm (h.latch (by simp [hm])) h.duties nofun
  · exact h

end Sys2Proof.Machine
end

section
/-! What the operations of the running part can do to the lines (R145, R146, R148 to R155, R158): each keeps the power and
leaves sound records sound (`State.keepsLines`), and the load starts every line with one
(`runningLinesSound_keptByBlocks`). -/

namespace Sys2Proof.Machine

open Sys2Proof

/-! ### Operations that keep the power and the lines' soundness -/

/-- t has the power of s, and every line whose record is sound in s has a sound one in t (R145, R146). -/
structure State.keepsLines (s t : State) : Prop where
  power : t.power = s.power
  sound : ∀ l, (s.outLine l).sound true → (t.outLine l).sound true

theorem State.keepsLines.refl (s : State) : s.keepsLines s := ⟨rfl, fun _ => id⟩

theorem State.keepsLines.trans {s t v : State} (h : s.keepsLines t) (h' : t.keepsLines v) : s.keepsLines v :=
  ⟨h'.power.trans h.power, fun l => h'.sound l ∘ h.sound l⟩

/-- An operation on neither the power nor the lines. -/
theorem State.keepsLines.of_rest {s t : State} (hp : t.power = s.power) (hl : t.lines = s.lines) : s.keepsLines t :=
  ⟨hp, fun l h => by rwa [State.outLine, hl]⟩

theorem State.keepsLines.foldl {α : Type} {f : State → α → State} (hf : ∀ (s : State) (x : α), s.keepsLines (f s x))
    (xs : List α) (s : State) : s.keepsLines (xs.foldl f s) := by
  induction xs generalizing s with
  | nil => exact .refl s
  | cons x xs ih => exact (hf s x).trans (ih _)

theorem State.trunksOnly.keepsLines {s t : State} (h : s.trunksOnly t) : s.keepsLines t := by
  obtain ⟨es, ks, p, rfl⟩ := h
  exact .of_rest rfl rfl

theorem State.eventsOnly.keepsLines {s t : State} (h : s.eventsOnly t) : s.keepsLines t := by
  obtain ⟨e, u, r, rfl⟩ := h
  exact .of_rest rfl rfl

theorem State.setProbe_keepsLines (s : State) (a : Addr) (p : ProbeRecord) : s.keepsLines (s.setProbe a p) :=
  .of_rest rfl rfl

theorem State.setZone_keepsLines (s : State) (z : ZoneId) (r : ZoneRecord) : s.keepsLines (s.setZone z r) :=
  .of_rest rfl rfl

theorem State.setLeak_keepsLines (s : State) (l : LeakUnit) : s.keepsLines (s.setLeak l) := .of_rest rfl rfl

theorem State.setOutLine_keepsLines {s : State} {l : LineId} {r : LineRecord}
    (h : (s.outLine l).sound true → r.sound true) : s.keepsLines (s.setOutLine l r) := by
  refine ⟨rfl, fun m hm => ?_⟩
  by_cases hml : m = l
  · subst hml
    rw [State.outLine_setOutLine_same]
    exact h hm
  · rwa [State.outLine_setOutLine_of_ne _ _ hml]

theorem State.recompute_keepsLines (s : State) (l : LineId) : s.keepsLines (s.recompute l) :=
  State.setOutLine_keepsLines fun h => h.recomputed _ (s.askedDuty_inRange _)

theorem State.recomputeLinesOf_keepsLines (s : State) (z : ZoneId) : s.keepsLines (s.recomputeLinesOf z) :=
  .foldl (fun s l => by split; exacts [s.recompute_keepsLines l, .refl s]) _ s

theorem State.recomputeProportionalOf_keepsLines (s : State) (z : ZoneId) :
    s.keepsLines (s.recomputeProportionalOf z) :=
  .foldl (fun s l => by split; exacts [s.recompute_keepsLines l, .refl s]) _ s

/-- Whatever is handed on, the lines are at most recomputed (R104, R105). -/
theorem State.handOn_keepsLines (s : State) (z : ZoneId) (before : ZoneRecord) : s.keepsLines (s.handOn z before) := by
  unfold State.handOn
  split
  · refine .trans ?_ (State.trackMargin_eventsOnly _ z).keepsLines
    split
    exacts [.refl s, s.recomputeProportionalOf_keepsLines z]
  · exact ((s.gradeNoticed_eventsOnly z _).keepsLines.trans (State.recomputeLinesOf_keepsLines _ z)).trans
      (State.setLeak_keepsLines ..)

theorem State.evaluate_keepsLines (s : State) (z : ZoneId) (cause : EvalCause) :
    s.keepsLines (s.evaluate z cause) := by
  unfold State.evaluate
  split
  exacts [(s.setZone_keepsLines z _).trans (State.handOn_keepsLines ..), .refl s]

theorem State.evaluateAll_keepsLines (s : State) (zs : List ZoneId) : s.keepsLines (s.evaluateAll zs) :=
  .foldl (fun s z => s.evaluate_keepsLines z .ordinary) zs s

theorem State.evaluateAt_keepsLines (s : State) (a : Addr) : s.keepsLines (s.evaluateAt a) := by
  unfold State.evaluateAt
  split
  exacts [s.evaluate_keepsLines .., .refl s]

theorem State.handToProbe_keepsLines (s : State) (a : Addr) (res : AttemptResult) (o : ProbeOutcome) :
    s.keepsLines (s.handToProbe a res o) := by
  have hwritten (p : ProbeRecord) (raises : Bool) : s.keepsLines ((s.writeProbe a p raises).evaluateAt a) :=
    ((s.setProbe_keepsLines a p).trans (s.writeProbe_trunksOnly a p raises).keepsLines).trans
      (State.evaluateAt_keepsLines ..)
  unfold State.handToProbe State.applyOutcome
  simp only [State.failProbe_eq, State.storeReading_eq]
  split
  · cases o with
    | good => dsimp only; split; exacts [hwritten .., .refl s]
    | tainted => dsimp only; split; exacts [hwritten .., .refl s]
    | noAnswer => exact hwritten ..
    | badCheck => exact hwritten ..
    | kindMismatch => exact hwritten ..
    | notReady => exact .refl s
    | notReadyLimit => exact .refl s
    | trunkHalted => exact .refl s
  · exact .refl s

theorem State.expireAge_keepsLines (s : State) (a : Addr) : s.keepsLines (s.expireAge a) := by
  unfold State.expireAge
  split
  exacts [(s.setProbe_keepsLines ..).trans (State.evaluateAt_keepsLines ..), .refl s]

theorem State.expireDwell_keepsLines (s : State) (z : ZoneId) : s.keepsLines (s.expireDwell z) := by
  unfold State.expireDwell
  split
  exacts [(s.setZone_keepsLines ..).trans (State.evaluate_keepsLines ..), .refl s]

theorem State.changeMap_keepsLines (s : State) (m : ZoneMap) : s.keepsLines (s.changeMap m) :=
  (State.keepsLines.of_rest (s := s) (t := s.setMap m) rfl rfl).trans (State.evaluateAll_keepsLines ..)

theorem State.changeMaxAge_keepsLines (s : State) (age : Nat) : s.keepsLines (s.changeMaxAge age) :=
  (State.keepsLines.of_rest (s := s) (t := s.rejudgedUnder age) rfl rfl).trans (State.evaluateAll_keepsLines ..)

theorem State.setScanMode_keepsLines (s : State) (mode : ScanMode) (period : Nat) :
    s.keepsLines (s.setScanMode mode period) := by
  obtain ⟨t, es, h⟩ := s.setScanMode_eq mode period
  rw [h]
  exact .of_rest rfl rfl

theorem State.changeChannel_keepsLines (s : State) (c : ChannelId) (r : Channel) :
    s.keepsLines (s.changeChannel c r) := by
  have htold : s.keepsLines (s.channelTold c r) := by
    obtain ⟨u, q, h⟩ := s.channelTold_eq c r
    rw [h]
    exact .of_rest rfl rfl
  obtain ⟨-, h⟩ | ⟨-, -, -, h⟩ | ⟨-, -, h⟩ := s.changeChannel_cases c r
  · rw [h]
    exact .of_rest rfl rfl
  · rwa [h]
  · rw [h]
    exact htold.trans (State.evaluateAll_keepsLines ..)

theorem State.resetChannel_keepsLines (s : State) (c : ChannelId) (r : Channel) :
    s.keepsLines (s.resetChannel c r) := by
  rw [State.resetChannel, State.discardGate_eq]
  exact (s.setLeak_keepsLines _).trans (State.changeChannel_keepsLines ..)

theorem State.closeGate_keepsLines (s : State) (cycles : Nat) : s.keepsLines (s.closeGate cycles) := by
  unfold State.closeGate
  split
  · exact .refl s
  · refine .trans ?_ (State.setLeak_keepsLines _ _)
    split
    exacts [.refl s, s.changeChannel_keepsLines ..]

theorem State.keepDone_keepsLines (s : State) (agrees : Bool) : s.keepsLines (s.keepDone agrees) := by
  unfold State.keepDone State.endKeep
  split
  · cases agrees <;> exact .of_rest rfl rfl
  · exact .refl s
  · exact .refl s

/-- Warm Restart leaves every line INACTIVE, its dynamic fields at rest (R158). -/
theorem State.restarted_keepsLines (s : State) : s.keepsLines s.restarted := by
  refine ⟨rfl, fun l _ => ?_⟩
  have hline : s.restarted.outLine l = LineRecord.start (s.outLine l).cfg .inactive := Table.get_map ..
  rw [hline]
  exact LineRecord.start_sound _

theorem State.outLine_dutyFrame (s : State) (l : LineId) :
    ({ s with lines := s.lines.map LineRecord.frameStarted } : State).outLine l = (s.outLine l).frameStarted :=
  Table.get_map ..

theorem State.dutyFrame_keepsLines (s : State) :
    s.keepsLines { s with lines := s.lines.map LineRecord.frameStarted } := by
  refine ⟨rfl, fun l h => ?_⟩
  rw [State.outLine_dutyFrame]
  exact h.frameStarted

theorem State.onTimeEnd_keepsLines (s : State) (l : LineId) :
    s.keepsLines (s.setOutLine l (s.outLine l).onTimeEnded) :=
  State.setOutLine_keepsLines LineRecord.sound.onTimeEnded

/-! ### The requests -/

theorem noticeMaskWork_keepsLines (p : List Byte) (s : State) : s.keepsLines (noticeMaskWork p s).1 := by
  unfold noticeMaskWork
  split <;> exact .of_rest rfl rfl

theorem defineProbeWork_keepsLines (p : List Byte) (s : State) : s.keepsLines (defineProbeWork p s).1 := by
  unfold defineProbeWork
  split
  exacts [(s.setProbe_keepsLines ..).trans (State.evaluateAt_keepsLines ..), .refl s]

theorem retireProbeWork_keepsLines (p : List Byte) (s : State) : s.keepsLines (retireProbeWork p s).1 := by
  unfold retireProbeWork
  repeat' split
  exacts [.refl s, ((s.setEngine_trunksOnly ..).keepsLines.trans (State.setProbe_keepsLines ..)).trans
    (State.evaluateAt_keepsLines ..), .refl s]

theorem trunkRestartWork_keepsLines (p : List Byte) (s : State) : s.keepsLines (trunkRestartWork p s).1 := by
  unfold trunkRestartWork
  repeat' split
  exacts [.refl s, ((s.setEngine_trunksOnly ..).trans (State.raise_trunksOnly ..)).keepsLines, .refl s]

theorem trunkSetupWork_keepsLines (p : List Byte) (s : State) : s.keepsLines (trunkSetupWork p s).1 := by
  unfold trunkSetupWork
  split <;> exact .of_rest rfl rfl

theorem scanSetupWork_keepsLines (p : List Byte) (s : State) : s.keepsLines (scanSetupWork p s).1 := by
  unfold scanSetupWork
  split
  exacts [.refl s, (State.setScanMode_keepsLines ..).trans (State.changeMaxAge_keepsLines ..)]

theorem surveyCancelWork_keepsLines (p : List Byte) (s : State) : s.keepsLines (surveyCancelWork p s).1 := by
  unfold surveyCancelWork
  repeat' split
  all_goals exact .of_rest rfl rfl

theorem mapPointWork_keepsLines (p : List Byte) (s : State) : s.keepsLines (mapPointWork p s).1 := by
  unfold mapPointWork
  repeat' split
  exacts [s.changeMap_keepsLines _, .refl s, .refl s]

theorem mapSpanWork_keepsLines (p : List Byte) (s : State) : s.keepsLines (mapSpanWork p s).1 := by
  unfold mapSpanWork State.mapSpan
  repeat' split
  exacts [.refl s, s.changeMap_keepsLines _, .refl s, s.changeMap_keepsLines _, .refl s, .refl s]

theorem unmapPointWork_keepsLines (p : List Byte) (s : State) : s.keepsLines (unmapPointWork p s).1 := by
  unfold unmapPointWork
  repeat' split
  exacts [.refl s, .refl s, s.changeMap_keepsLines _]

theorem unmapSpanWork_keepsLines (p : List Byte) (s : State) : s.keepsLines (unmapSpanWork p s).1 := by
  unfold unmapSpanWork
  repeat' split
  exacts [.refl s, .refl s, s.changeMap_keepsLines _, .refl s]

theorem zoneSetupWork_keepsLines (p : List Byte) (s : State) : s.keepsLines (zoneSetupWork p s).1 := by
  unfold zoneSetupWork
  dsimp only
  repeat' split
  exacts [.refl s, (s.setZone_keepsLines ..).trans (State.evaluate_keepsLines ..), .refl s]

theorem zoneOnWork_keepsLines (p : List Byte) (s : State) : s.keepsLines (zoneOnWork p s).1 := by
  unfold zoneOnWork
  repeat' split
  exacts [.refl s, .refl s, ((s.setZone_keepsLines ..).trans (State.setZone_keepsLines ..)).trans
    (State.handOn_keepsLines ..)]

theorem zoneOffWork_keepsLines (p : List Byte) (s : State) : s.keepsLines (zoneOffWork p s).1 := by
  unfold zoneOffWork
  repeat' split
  exacts [.refl s, (s.setZone_keepsLines ..).trans (State.handOn_keepsLines ..), .refl s]

theorem leakSetupWork_keepsLines (p : List Byte) (s : State) : s.keepsLines (leakSetupWork p s).1 := by
  unfold leakSetupWork
  split
  exacts [s.resetChannel_keepsLines .., .refl s]

theorem leakRecalibrateWork_keepsLines (p : List Byte) (s : State) : s.keepsLines (leakRecalibrateWork p s).1 := by
  unfold leakRecalibrateWork
  repeat' split
  exacts [.refl s, .refl s, s.resetChannel_keepsLines ..]

theorem lineSetupWork_keepsLines (p : List Byte) (s : State) : s.keepsLines (lineSetupWork p s).1 := by
  unfold lineSetupWork
  split
  · next l c _ _ =>
    rw [State.setUpLine_eq]
    exact State.setOutLine_keepsLines fun h => h.setUp c _ (s.askedDuty_inRange c)
  · exact .refl s

theorem lineReleaseWork_keepsLines (p : List Byte) (s : State) : s.keepsLines (lineReleaseWork p s).1 := by
  unfold lineReleaseWork
  split
  · exact .refl s
  · next l _ =>
    split
    · next hm =>
      dsimp only
      rw [State.releaseLine_eq hm]
      exact State.setOutLine_keepsLines fun h => LineRecord.sound_of_latch hm (h.working (by simp [hm])) rfl
    · exact .refl s

theorem eventAckWork_keepsLines (p : List Byte) (s : State) : s.keepsLines (eventAckWork p s).1 := by
  unfold eventAckWork
  repeat' split
  exacts [.refl s, .refl s, (s.setRecord_eventsOnly ..).keepsLines, .refl s, (s.removeRecord_eventsOnly ..).keepsLines]

/-- The work of every request that is one step keeps the power and leaves sound line records sound. -/
theorem work_keepsLines : ∀ v ∈ requestServices, ∀ (p : List Byte) (s : State), s.keepsLines (v.work p s).1 := by
  simp only [requestServices, List.forall_mem_cons]
  refine ⟨?identify, ?summary, noticeMaskWork_keepsLines, defineProbeWork_keepsLines, retireProbeWork_keepsLines,
    ?probeQuery, trunkRestartWork_keepsLines, trunkSetupWork_keepsLines, scanSetupWork_keepsLines,
    surveyCancelWork_keepsLines, mapPointWork_keepsLines, mapSpanWork_keepsLines, unmapPointWork_keepsLines,
    unmapSpanWork_keepsLines, ?mapQuery, zoneSetupWork_keepsLines, zoneOnWork_keepsLines, zoneOffWork_keepsLines,
    ?zoneQuery, leakSetupWork_keepsLines, leakRecalibrateWork_keepsLines, ?leakQuery, lineSetupWork_keepsLines,
    lineReleaseWork_keepsLines, ?lineQuery, ?eventList, ?eventQuery, eventAckWork_keepsLines,
    fun v hv => absurd hv List.not_mem_nil⟩
  all_goals exact fun p s => .refl s

/-! ### The lines of the running part (R145, R146) -/

/-- While the part is running every line record is sound. -/
def State.runningLinesSound (s : State) : Prop := s.power = .running → ∀ l, (s.outLine l).sound true

theorem State.keepsLines.runningLinesSound {s t : State} (h : s.keepsLines t) (hs : s.runningLinesSound) :
    t.runningLinesSound :=
  fun hrun l => h.sound l (hs (h.power.symm.trans hrun) l)

/-- Every operation of the running part keeps its lines sound, and the load starts them so (R157). -/
theorem runningLinesSound_keptByBlocks : KeptByBlocks State.runningLinesSound where
  trunks ht := ht.keepsLines.runningLinesSound
  queue _ h := h
  timer _ _ h := h
  unloaded _ _ _ hp _ _ := fun hrun => absurd hrun hp
  booting _ h := h
  started {s} _ := fun _ l => by
    have hline : (({ s with defaulted := !s.store.valid } : State).startedFrom s.store.toLoad).outLine l =
        LineRecord.start (s.store.toLoad.lines.get l) .inactive := Table.get_map ..
    rw [hline]
    exact LineRecord.start_sound _
  beginKeep _ h := h
  keepDone agrees := (State.keepDone_keepsLines _ agrees).runningLinesSound
  restarted := (State.restarted_keepsLines _).runningLinesSound
  work v hv p s := (work_keepsLines v hv p s).runningLinesSound
  outcome a res o _ := (State.handToProbe_keepsLines _ a res o).runningLinesSound
  expireAge a := (State.expireAge_keepsLines _ a).runningLinesSound
  expireDwell z := (State.expireDwell_keepsLines _ z).runningLinesSound
  dutyFrame := (State.dutyFrame_keepsLines _).runningLinesSound
  onTimeEnd l := (State.onTimeEnd_keepsLines _ l).runningLinesSound
  startRound := (State.setLeak_keepsLines _ _).runningLinesSound
  closeGate cycles := (State.closeGate_keepsLines _ cycles).runningLinesSound
  second _ h := h

end Sys2Proof.Machine
end

section
/-! Every step keeps the line records sound (R145, R146): those of the running part by
`runningLinesSound_keptByBlocks`; and a step ends without the running part's power only where it took the power away, or
where it touched no line. -/

namespace Sys2Proof.Machine

open Sys2Proof

/-! ### What keeps the power -/

theorem State.arbitrate_power (s : State) : s.arbitrate.power = s.power :=
  s.arbitrate_trunksOnly.keepsLines.power

theorem State.startPeriod_power (s : State) : s.startPeriod.power = s.power := by
  obtain ⟨es, h⟩ := s.startPeriod_eq
  rw [h]

theorem State.startDuePeriod_power (s : State) : s.startDuePeriod.power = s.power := by
  unfold State.startDuePeriod
  split
  exacts [s.startPeriod_power, rfl]

theorem State.resumeScan_power (s : State) : s.resumeScan.power = s.power := by
  unfold State.resumeScan
  split
  exacts [s.startPeriod_power, rfl]

theorem State.resetIfDue_power (s : State) : s.resetIfDue.power = s.power := by
  unfold State.resetIfDue
  split
  exacts [State.resumeScan_power _, rfl]

theorem State.receiveAnswer_power (s : State) (t : Trunk) (b : List Byte) : (s.receiveAnswer t b).power = s.power := by
  unfold State.receiveAnswer
  repeat' split
  exacts [(s.endAttempt_itemKeeps ..).power, rfl, rfl]

theorem State.timeoutAnswer_power (s : State) (t : Trunk) (b : List Byte) : (s.timeoutAnswer t b).power = s.power := by
  unfold State.timeoutAnswer
  repeat' split
  exacts [(s.endAttempt_itemKeeps ..).power, rfl, rfl, rfl, rfl, rfl, rfl, rfl]

theorem State.execute_power (s : State) (r : Request) : (s.execute r).power = s.power := by
  unfold State.execute
  split
  · unfold State.runKeepSettings
    split <;> rfl
  · split
    · unfold State.runWarmRestart
      split <;> rfl
    · split
      · unfold State.runSurvey
        split
        exacts [rfl, (s.acceptSurvey_itemKeeps ..).power]
      · split
        · next v hv =>
          unfold Service.run
          split
          exacts [(work_keepsLines v (List.mem_of_find?_eq_some hv) _ s).power, rfl]
        · rfl

theorem State.serveWaiting_power (s : State) : s.serveWaiting.power = s.power := by
  have hnext (s : State) : s.startNext.power = s.power := by
    unfold State.startNext
    split
    exacts [(State.arbitrate_power _).trans (State.execute_power ..), rfl, rfl]
  have hup : ∀ n (s : State), (State.serveUpTo n s).power = s.power := by
    intro n
    induction n with
    | zero => exact fun _ => rfl
    | succ n ih => exact fun s => (ih _).trans (hnext s)
  exact hup _ s

theorem State.receive_power (s : State) (bytes : List Byte) : (s.receive bytes).power = s.power :=
  KeptByWork.foldl (P := fun t => t.power = s.power) State.arriveOne
    (fun t r h => ((State.serveWaiting_power _).trans (State.arbitrate_power _)).trans
      ((t.arrive_trunksOnly r).keepsLines.power.trans h)) _ rfl

theorem State.takeDue_power (s : State) : s.takeDue.power = s.power := by
  have hdwells : ((List.finRange 24).foldl State.takeDueDwell s.startDuePeriod).power = s.power := by
    refine KeptByWork.foldl (P := fun t => t.power = s.power) _ (fun t z h => ?_) _ s.startDuePeriod_power
    unfold State.takeDueDwell
    split
    exacts [((State.arbitrate_power _).trans (t.expireDwell_keepsLines z).power).trans h, h]
  unfold State.takeDue
  refine KeptByWork.foldl (P := fun t => t.power = s.power) _ (fun t a h => ?_) _ hdwells
  unfold State.takeDueAge
  split
  exacts [((State.arbitrate_power _).trans (t.expireAge_keepsLines a).power).trans h, h]

theorem State.secondPassed_power (s : State) : s.secondPassed.power = s.power := by
  unfold State.secondPassed
  dsimp only
  exact s.takeDue_power

/-! ### What a command leaves without the running part's power -/

/-- If t is not running, the power has been taken from s, or has not come and the lines are those of s. -/
def State.unpoweredAs (s t : State) : Prop :=
  t.power = .running ∨ (t.power = s.power ∧ t.lines = s.lines)
    ∨ ∃ power store pending, power ≠ .running ∧ t = State.unloaded power store pending

variable {s : State}

theorem State.unpoweredAs.refl (s : State) : s.unpoweredAs s := .inr (.inl ⟨rfl, rfl⟩)

theorem leadsTo_unpoweredAs_next : leadsTo s.unpoweredAs (.next s) := leadsTo_next (.refl s)

theorem leadsTo_unpoweredAs_running {t : State} (h : t.power = .running) : leadsTo s.unpoweredAs (.next t) :=
  leadsTo_next (.inl h)

theorem leadsTo_unpoweredAs_fieldEvent {f : State → State} (hf : (f s).power = s.power) :
    leadsTo s.unpoweredAs (fieldEvent f s) := by
  obtain ⟨-, h⟩ | ⟨hrun, h⟩ := fieldEvent_cases f s
  · exact h ▸ leadsTo_unpoweredAs_next
  · exact h ▸ leadsTo_unpoweredAs_running ((State.arbitrate_power _).trans (hf.trans hrun))

theorem leadsTo_unpoweredAs_servingEvent {f : State → State} (hf : (f s).power = s.power) :
    leadsTo s.unpoweredAs (servingEvent f s) := by
  unfold servingEvent
  split
  · next hrun =>
    exact leadsTo_unpoweredAs_running
      (((State.serveWaiting_power _).trans (State.arbitrate_power _)).trans (hf.trans hrun))
  · exact leadsTo_unpoweredAs_next

/-- A request row: without power no request arrives (R174). -/
theorem leadsTo_unpoweredAs_whenAdmitted (r : Request) {run : State → State}
    (hpower : ∀ s, (run s).power = s.power) : leadsTo s.unpoweredAs (whenAdmitted r run s) := by
  by_cases hrun : s.power = .running
  · obtain h | h | ⟨s0, ⟨-, -, hb⟩, h⟩ := whenAdmitted_cases r run s
    · exact h ▸ leadsTo_unpoweredAs_next
    · exact h ▸ leadsTo_unpoweredAs_running
        ((State.arbitrate_power _).trans ((s.arrive_trunksOnly r).keepsLines.power.trans hrun))
    · have hs0 : s0.power = s.power := by
        obtain ⟨-, -, rfl⟩ | ⟨rest, -, rfl⟩ := hb <;> rfl
      exact h ▸ leadsTo_unpoweredAs_running
        ((State.arbitrate_power _).trans ((hpower s0).trans (hs0.trans hrun)))
  · rw [whenAdmitted, State.admission, if_neg hrun]
    exact leadsTo_unpoweredAs_next

theorem leadsTo_unpoweredAs_row (r : Request) {o : Host.Outcome State Fault Refusal}
    (ho : o = whenAdmitted r (fun s => s.execute r) s) : leadsTo s.unpoweredAs o :=
  ho ▸ leadsTo_unpoweredAs_whenAdmitted r fun s => s.execute_power r

theorem leadsTo_unpoweredAs_sharedRow (r : Request) (other : Bool) :
    leadsTo s.unpoweredAs (if other then .next s else whenAdmitted r (fun s => s.execute r) s) := by
  split
  exacts [leadsTo_unpoweredAs_next, leadsTo_unpoweredAs_row r rfl]

theorem leadsTo_unpoweredAs (c : Instr) (s : State) : leadsTo s.unpoweredAs (exec c s) := by
  cases c with
  | powerOn => exact leadsTo_next (.inr (.inr ⟨.loading, s.store, s.pending, by decide, rfl⟩))
  | powerLoss ended => exact leadsTo_next (.inr (.inr ⟨.off, s.storeAtLoss ended, s.pending, by decide, rfl⟩))
  | settingsLoad =>
    show leadsTo s.unpoweredAs (execSettingsLoad s)
    unfold execSettingsLoad
    split
    exacts [leadsTo_unpoweredAs_running ((State.arbitrate_power _).trans (State.resumeScan_power _)),
      leadsTo_unpoweredAs_next]
  | uptimeSecond =>
    show leadsTo s.unpoweredAs (execUptimeSecond s)
    unfold execUptimeSecond
    split
    · exact leadsTo_unpoweredAs_next
    · exact leadsTo_next (.inr (.inl ⟨rfl, rfl⟩))
    · next hrun => exact leadsTo_unpoweredAs_running (s.secondPassed_power.trans hrun)
  | frameArrival bytes =>
    show leadsTo s.unpoweredAs (execFrameArrival bytes s)
    unfold execFrameArrival
    split
    · next hrun => exact leadsTo_unpoweredAs_running ((s.receive_power bytes).trans hrun)
    · exact leadsTo_unpoweredAs_next
  | unknownKind kind tag p =>
    show leadsTo s.unpoweredAs (execUnknownKind kind tag p s)
    unfold execUnknownKind
    split
    exacts [leadsTo_unpoweredAs_next, leadsTo_unpoweredAs_whenAdmitted _ fun _ => rfl]
  | frameGapTimeout => exact leadsTo_unpoweredAs_fieldEvent (f := fun s => s.setPort { s.port with rx := [] }) rfl
  | frameSent => exact leadsTo_unpoweredAs_fieldEvent s.sentFrame_trunksOnly.keepsLines.power
  | keepSettingsDone agrees => exact leadsTo_unpoweredAs_servingEvent (s.keepDone_keepsLines agrees).power
  | warmRestartReset => exact leadsTo_unpoweredAs_servingEvent s.resetIfDue_power
  | periodStart => exact leadsTo_unpoweredAs_fieldEvent s.startDuePeriod_power
  | gapExpiry t =>
    exact leadsTo_unpoweredAs_fieldEvent (f := fun s => s.setEngine t (s.engine t).gapEnded) rfl
  | transactionOpen t =>
    exact leadsTo_unpoweredAs_fieldEvent (f := fun s => s.setEngine t (s.engine t).opened) rfl
  | answerReceived t b =>
    exact leadsTo_unpoweredAs_fieldEvent (f := fun s => s.receiveAnswer t b) (s.receiveAnswer_power t b)
  | answerTimeout t b =>
    exact leadsTo_unpoweredAs_fieldEvent (f := fun s => s.timeoutAnswer t b) (s.timeoutAnswer_power t b)
  | ageExpiry a => exact leadsTo_unpoweredAs_fieldEvent (f := fun s => s.expireAge a) (s.expireAge_keepsLines a).power
  | dwellExpiry z =>
    exact leadsTo_unpoweredAs_fieldEvent (f := fun s => s.expireDwell z) (s.expireDwell_keepsLines z).power
  | dutyFrameStart =>
    exact leadsTo_unpoweredAs_fieldEvent (f := fun s => { s with lines := s.lines.map LineRecord.frameStarted }) rfl
  | dutyOnTimeEnd l =>
    exact leadsTo_unpoweredAs_fieldEvent (f := fun s => s.setOutLine l (s.outLine l).onTimeEnded) rfl
  | roundStart =>
    refine leadsTo_unpoweredAs_fieldEvent (f := fun s => if s.leak.position.isSome then s else s.startRound) ?_
    split <;> rfl
  | gateClose cycles =>
    exact leadsTo_unpoweredAs_fieldEvent (f := fun s => s.closeGate cycles) (s.closeGate_keepsLines cycles).power
  | scanSetupContinuous tag p => exact leadsTo_unpoweredAs_sharedRow ⟨0x18, tag, p⟩ (otherScanRow p .continuous)
  | scanSetupSingle tag p => exact leadsTo_unpoweredAs_sharedRow ⟨0x18, tag, p⟩ (otherScanRow p .single)
  | scanSetupStopped tag p => exact leadsTo_unpoweredAs_sharedRow ⟨0x18, tag, p⟩ (otherScanRow p .stopped)
  | leakSetupEnable tag p => exact leadsTo_unpoweredAs_sharedRow ⟨0x30, tag, p⟩ (otherLeakRow p true)
  | leakSetupDisable tag p => exact leadsTo_unpoweredAs_sharedRow ⟨0x30, tag, p⟩ (otherLeakRow p false)
  | _ tag p => exact leadsTo_unpoweredAs_row ⟨_, tag, p⟩ rfl

/-! ### Every step -/

theorem State.linesSound_of_running (h : s.power = .running) : s.linesSound ↔ ∀ l, (s.outLine l).sound true := by
  rw [State.linesSound, h]
  rfl

theorem State.linesSound_of_not_running (h : s.power ≠ .running) :
    s.linesSound ↔ ∀ l, (s.outLine l).sound false := by
  rw [State.linesSound, beq_eq_false_iff_ne.mpr h]

theorem State.unloaded_linesSound {power : Power} (h : power ≠ .running) (store : Store) (pending : List Instr) :
    (State.unloaded power store pending).linesSound := by
  refine (State.linesSound_of_not_running h).mpr fun l => ?_
  have hline : (State.unloaded power store pending).outLine l = LineRecord.start LineConfig.default .undriven :=
    Table.get_all ..
  rw [hline]
  exact LineRecord.start_undriven_sound _

theorem step_unpoweredAs {t : State} (h : step s = .next t) : s.unpoweredAs t := by
  unfold step at h
  split at h
  · cases h
    exact .refl s
  · next c rest _ => exact leadsTo_unpoweredAs c { s with pending := rest } t h

/-- Settles O59: the lines of a running part by `runningLinesSound_keptByBlocks`; where the part is not running, the
lines are as the power left them, or untouched. -/
theorem stepKeepsLines : Obligations.StepKeepsLines := by
  intro s t h hstep
  have hrunning : t.runningLinesSound :=
    runningLinesSound_keptByBlocks.step (fun hrun => (State.linesSound_of_running hrun).mp h) hstep
  obtain hrun | ⟨hpower, hlines⟩ | ⟨power, store, pending, hp, rfl⟩ := step_unpoweredAs hstep
  · exact (State.linesSound_of_running hrun).mpr (hrunning hrun)
  · intro l
    rw [hpower, State.outLine, hlines]
    exact h l
  · exact State.unloaded_linesSound hp store pending

end Sys2Proof.Machine
end

section
/-! The level of a line and what triggers it (R146, R147), the duty frame (R153), and Line Setup and Line Release
(R151, R154, R155). -/

namespace Sys2Proof.Machine

open Sys2Proof

/-! ### The level and the trigger (R146, R147) -/

theorem LineRecord.high_iff (l : LineRecord) : l.high = true ↔
    l.drive = .undriven ∨ (l.drive = .active ∧ l.cfg.polarity = .activeHigh)
      ∨ (l.drive = .inactive ∧ l.cfg.polarity = .activeLow) := by
  unfold LineRecord.high
  cases l.drive <;> cases l.cfg.polarity <;> decide

/-- A graded zone triggers at or above the line's trigger grade (R147). -/
theorem LineConfig.triggeredBy_iff (c : LineConfig) (g : Grade) : c.triggeredBy g = true ↔
    (g = .stale ∧ c.failsafe = true) ∨ g = .wet ∨ (g = .alarm ∧ c.trigger ≠ .wet)
      ∨ (g = .watch ∧ c.trigger = .watch) := by
  cases g with
  | stale => simp [LineConfig.triggeredBy]
  | off => simp [LineConfig.triggeredBy]
  | clear | watch | alarm | wet =>
    cases h : c.trigger <;> simp [LineConfig.triggeredBy, Grade.rank, Trigger.rank, h]

theorem State.triggered_iff (s : State) (c : LineConfig) : s.triggered c = true ↔
    ∃ z, c.holds z = true ∧ c.triggeredBy (s.zone z).grade = true := by
  simp [State.triggered, State.triggers]

/-- Settles O47: the level by drive and polarity, and each zone of the mask by its grade. -/
theorem levelAndTrigger : Obligations.LevelAndTrigger := by
  refine ⟨LineRecord.high_iff, fun s c => ?_⟩
  rw [State.triggered_iff]
  exact exists_congr fun z => and_congr_right fun _ => c.triggeredBy_iff _

/-! ### The duty frame (R153) -/

/-- An on-time ends within the frame exactly where the duty is below 255 (R153). -/
theorem onTimeMs_lt_iff (duty : Nat) : onTimeMs duty < 1000 ↔ duty < 255 := by
  unfold onTimeMs
  omega

/-- Settles O46: the lines as `LineRecord.frameStarted` and `LineRecord.onTimeEnded` leave them. -/
theorem dutyFrameDrivesProportionalLines : Obligations.DutyFrameDrivesProportionalLines := by
  refine ⟨fun s hp hl => ?start, fun s l hp hl hm hd => ?finish⟩
  case start =>
    exact ⟨_, fieldEvent_of_lineSound (f := fun s => { s with lines := s.lines.map LineRecord.frameStarted }) hp hl rfl,
      rfl, s.outLine_dutyFrame⟩
  case finish =>
    have hexec : exec (.dutyOnTimeEnd l) s = .next (s.setOutLine l (s.outLine l).onTimeEnded) :=
      fieldEvent_of_lineSound (f := fun s => s.setOutLine l (s.outLine l).onTimeEnded) hp hl rfl
    refine ⟨fun hlt => ?_, fun hge => ?_⟩
    · rw [hexec, LineRecord.onTimeEnded, if_pos ⟨hm, hd, (onTimeMs_lt_iff _).mpr hlt⟩]
    · have hwhole : ¬ onTimeMs (s.outLine l).applied < 1000 := by
        rw [onTimeMs_lt_iff]
        omega
      rw [hexec, LineRecord.onTimeEnded, if_neg fun h => hwhole h.2.2, State.setOutLine, State.outLine,
        Table.set_get_self]

/-! ### Line Setup and Line Release (R151, R154, R155) -/

theorem lineMode?_code (m : LineMode) : lineMode? m.code.toNat = some m := by cases m <;> rfl

theorem trigger?_code (t : Trigger) : trigger? t.code.toNat = some t := by cases t <;> rfl

theorem polarity?_code (p : Polarity) : polarity? p.code.toNat = some p := by cases p <;> rfl

/-- The five fields of a Line Setup payload (R154). -/
theorem lineConfig?_fields {p : List Byte} {c : LineConfig} (hmode : u8 p 1 = c.mode.code.toNat)
    (hmask : u32 p 2 = c.mask.toNat) (htrigger : u8 p 6 = c.trigger.code.toNat)
    (hpolarity : u8 p 7 = c.polarity.code.toNat) (hfailsafe : u8 p 8 = if c.failsafe then 1 else 0) :
    lineConfig? p = some c := by
  have hbool : bool? (u8 p 8) = some c.failsafe := by
    rw [hfailsafe]
    cases c.failsafe <;> rfl
  unfold lineConfig?
  rw [hmode, hmask, htrigger, hpolarity, hbool, lineMode?_code, trigger?_code, polarity?_code]
  dsimp only
  rw [if_pos c.mask.isLt, BitVec.ofNat_toNat, BitVec.setWidth_eq]

theorem lineSetupWork_eq {p : List Byte} {l : LineId} {c : LineConfig} (hl : u8 p 0 = l.val)
    (hc : lineConfig? p = some c) (s : State) :
    lineSetupWork p s = (s.setUpLine l c, ⟨.ok, (s.setUpLine l c).lineBody l⟩) := by
  rw [lineSetupWork, hl, fin?_val, hc]

theorem lineReleaseWork_wrongState {s : State} {l : LineId} (h : (s.outLine l).cfg.mode ≠ .latch) :
    lineReleaseWork [byte l.val] s = (s, Reply.bare .wrongState) := by
  rw [lineReleaseWork, fin?_byte (by decide)]
  exact if_neg h

theorem lineReleaseWork_latch {s : State} {l : LineId} (h : (s.outLine l).cfg.mode = .latch) {triggered : Bool}
    (ht : triggered = s.triggered (s.outLine l).cfg) :
    lineReleaseWork [byte l.val] s =
      (s.setOutLine l { s.outLine l with latched := triggered, drive := if triggered then .active else .inactive },
        ⟨.ok, [byte l.val, boolByte triggered, boolByte triggered,
          if triggered then Drive.active.code else Drive.inactive.code]⟩) := by
  subst ht
  rw [lineReleaseWork, fin?_byte (by decide)]
  dsimp only
  rw [if_pos h, State.releaseLine_eq h, State.outLine_setOutLine_same]
  dsimp only
  rw [apply_ite Drive.code]

/-- Settles O45: the asked duty is the greatest proposal, by `foldl_max_spec`; both requests write one line record, by
`State.setUpLine_eq` and `State.releaseLine_eq`. -/
theorem lineRequestsRecompute : Obligations.LineRequestsRecompute := by
  refine ⟨fun s c => ⟨fun z d hz hd => ?above, fun hempty => ?empty, fun ⟨z, hz⟩ hsound => ?attained⟩,
    fun s s0 tag p l c hb hlen hl hmode hmask htrigger hpolarity hfailsafe => ?setup,
    fun s s0 tag l hb => ⟨fun hm => ?refused, fun tr hm htr => ?released⟩⟩
  case above =>
    rw [hd.eq_proposal]
    exact s.proposal_le_askedDuty hz
  case empty =>
    obtain h | ⟨z, hz, -⟩ := s.askedDuty_attained c
    · exact h
    · exact absurd ((hempty z).symm.trans hz) Bool.false_ne_true
  case attained =>
    obtain h | ⟨y, hy, h⟩ := s.askedDuty_attained c
    · have hproposal : s.askedDuty c = c.proposal (s.zone z) := by
        have := s.proposal_le_askedDuty (c := c) hz
        omega
      exact ⟨z, hz, hproposal ▸ State.proposes_proposal (hsound z) c⟩
    · exact ⟨y, hy, h ▸ State.proposes_proposal (hsound y) c⟩
  case setup =>
    have hwork := lineSetupWork_eq hl (lineConfig?_fields hmode hmask htrigger hpolarity hfailsafe) s0
    rw [State.setUpLine_eq] at hwork
    exact ⟨_, _, rfl, runRequest_answered (v := lineSetupService) (by decide) hb hlen hwork rfl,
      (LineRecord.recomputed_cfg ..).trans (LineRecord.setUp_cfg ..), fun h => LineRecord.setUp_off h ..,
      fun h => LineRecord.setUp_follow h .., fun h => LineRecord.setUp_latch h ..,
      fun h hl => LineRecord.setUp_becomes_proportional h hl ..,
      fun h hl => LineRecord.setUp_stays_proportional h hl ..⟩
  case refused =>
    exact runRequest_answered (v := lineReleaseService) (by decide) hb rfl (lineReleaseWork_wrongState hm) rfl
  case released =>
    exact runRequest_answered (v := lineReleaseService) (by decide) hb rfl (lineReleaseWork_latch hm htr) rfl

end Sys2Proof.Machine
end

section
/-! What the blocks hand the Message Port: sources that they raise, and survey reports that they queue (R36, R164,
R167). Every block's operation keeps the notice queue sound and each REPORTING slot with its one report. -/

namespace Sys2Proof.Machine

open Sys2Proof

/-! ### Raisings and reports -/

/-- The slots in REPORTING are those with a report that waits or is being sent, each with one (R32, R36). -/
def State.reportsSound (s : State) : Prop :=
  (s.port.outgoing.filterMap OutFrame.reportOf).Nodup
    ∧ ∀ k, s.slot k = .reporting ↔ k ∈ s.port.outgoing.filterMap OutFrame.reportOf

/-- From s to t blocks have worked: of the port only the notice queue and its mask have changed and survey reports have
joined the frames that wait; what was sound of both still is. -/
structure State.handsPort (s t : State) : Prop where
  pending : t.pending = s.pending
  store   : t.store = s.store
  frames  : ∃ u r m fs,
    t.port = { s.port with urgent := u, routine := r, mask := m, replies := s.port.replies ++ fs }
      ∧ ∀ f ∈ fs, f.reportOf.isSome = true
  notices : s.noticesSound → t.noticesSound
  reports : s.reportsSound → t.reportsSound

/-- An operation that leaves the queue, the store, the port and the order slots alone. -/
theorem State.handsPort.of_same {s t : State} (hq : t.pending = s.pending) (hst : t.store = s.store)
    (hp : t.port = s.port) (hk : t.slots = s.slots) : s.handsPort t where
  pending := hq
  store := hst
  frames := ⟨s.port.urgent, s.port.routine, s.port.mask, [], by rw [hp, List.append_nil], fun _ h => nomatch h⟩
  notices := by
    unfold State.noticesSound
    rw [hp]
    exact id
  reports := by
    unfold State.reportsSound State.slot
    rw [hp, hk]
    exact id

theorem State.handsPort.refl (s : State) : s.handsPort s := .of_same rfl rfl rfl rfl

theorem State.handsPort.trans {s t v : State} (h : s.handsPort t) (h' : t.handsPort v) : s.handsPort v where
  pending := h'.pending.trans h.pending
  store := h'.store.trans h.store
  frames := by
    obtain ⟨u, r, m, fs, hp, hf⟩ := h.frames
    obtain ⟨u', r', m', fs', hp', hf'⟩ := h'.frames
    exact ⟨u', r', m', fs ++ fs', by rw [hp', hp, List.append_assoc],
      fun f hm => (List.mem_append.mp hm).elim (hf f) (hf' f)⟩
  notices := fun hs => h'.notices (h.notices hs)
  reports := fun hs => h'.reports (h.reports hs)

/-- An operation on the port after one that leaves it alone. -/
theorem State.handsPort.after {s t v : State} (h : t.handsPort v) (hq : t.pending = s.pending) (hst : t.store = s.store)
    (hp : t.port = s.port) (hk : t.slots = s.slots) : s.handsPort v :=
  (State.handsPort.of_same hq hst hp hk).trans h

theorem State.linesOnly.handsPort {s t : State} (h : s.linesOnly t) : s.handsPort t := by
  obtain ⟨⟨ls, rfl⟩, -⟩ := h
  exact .of_same rfl rfl rfl rfl

theorem State.enginesOnly.handsPort {s t : State} (h : s.enginesOnly t) : s.handsPort t := by
  obtain ⟨es, rfl⟩ := h
  exact .of_same rfl rfl rfl rfl

/-- A raising keeps each source queued at most once, and queues none of a masked class (R166 to R168). -/
theorem State.noticesSound.raise {s : State} (h : s.noticesSound) (src : Source) (u : Urgency) :
    (s.raise src u).noticesSound := by
  obtain ⟨hnodup, hmask⟩ := h
  unfold State.raise Port.raise
  split
  · exact ⟨hnodup, hmask⟩
  · next henabled =>
    have hsrc : s.port.mask.enables src = true := by simpa using henabled
    split
    · exact ⟨hnodup, hmask⟩
    · next hu =>
      have hu' : src ∉ s.port.urgent := by simpa using hu
      obtain ⟨hnu, hnr, hdisjoint⟩ := List.nodup_append.mp hnodup
      cases u with
      | urgent =>
        refine ⟨?_, fun x hx => ?_⟩
        · show ((s.port.urgent ++ [src]) ++ s.port.routine.filter (· != src)).Nodup
          rw [List.append_assoc, List.singleton_append]
          refine List.nodup_append.mpr ⟨hnu, List.nodup_cons.mpr ⟨by simp, hnr.filter _⟩, fun a ha b hb => ?_⟩
          obtain rfl | hb := List.mem_cons.mp hb
          · exact fun h => hu' (h ▸ ha)
          · exact hdisjoint a ha b (List.mem_filter.mp hb).1
        · have hx' : x ∈ (s.port.urgent ++ [src]) ++ s.port.routine.filter (· != src) := hx
          simp only [List.mem_append, List.mem_singleton, List.mem_filter] at hx'
          obtain (hx' | rfl) | ⟨hx', -⟩ := hx'
          exacts [hmask x (List.mem_append_left _ hx'), hsrc, hmask x (List.mem_append_right _ hx')]
      | routine =>
        dsimp only
        split
        · exact ⟨hnodup, hmask⟩
        · next hr =>
          have hr' : src ∉ s.port.routine := by simpa using hr
          refine ⟨?_, fun x hx => ?_⟩
          · show (s.port.urgent ++ (s.port.routine ++ [src])).Nodup
            rw [← List.append_assoc]
            exact List.nodup_append.mpr ⟨hnodup, List.nodup_singleton _, by
              intro a ha b hb
              rw [List.mem_singleton.mp hb]
              exact fun h => (List.mem_append.mp (h ▸ ha)).elim hu' hr'⟩
          · have hx' : x ∈ s.port.urgent ++ (s.port.routine ++ [src]) := hx
            rw [← List.append_assoc, List.mem_append, List.mem_singleton] at hx'
            obtain hx' | rfl := hx'
            exacts [hmask x hx', hsrc]

theorem State.raise_handsPort (s : State) (src : Source) (u : Urgency) : s.handsPort (s.raise src u) where
  pending := rfl
  store := rfl
  frames := ⟨_, _, s.port.mask, [], by
    rw [s.raise_eq, List.append_nil]
    rfl, fun _ h => nomatch h⟩
  notices := fun h => h.raise src u
  reports := by
    rw [s.raise_eq]
    exact id

theorem State.queueFrame_outgoing (s : State) (f : OutFrame) :
    (s.queueFrame f).port.outgoing = s.port.outgoing ++ [f] := (List.append_assoc ..).symm

/-- A slot that is not REPORTING becomes REPORTING with its report (R36). -/
theorem State.report_handsPort {s : State} {k : SlotId} (hk : s.slot k ≠ .reporting) {f : OutFrame}
    (hf : f.reportOf = some k) : s.handsPort ((s.setSlot k .reporting).queueFrame f) where
  pending := rfl
  store := rfl
  frames := ⟨s.port.urgent, s.port.routine, s.port.mask, [f], rfl, by simp [hf]⟩
  notices := id
  reports := fun ⟨hnodup, hslots⟩ => by
    have hout : ((s.setSlot k .reporting).queueFrame f).port.outgoing.filterMap OutFrame.reportOf =
        s.port.outgoing.filterMap OutFrame.reportOf ++ [k] := by
      rw [State.queueFrame_outgoing, List.filterMap_append, List.filterMap_cons, hf]
      rfl
    have hnew : k ∉ s.port.outgoing.filterMap OutFrame.reportOf := fun h => hk ((hslots k).mpr h)
    refine ⟨?_, fun j => ?_⟩
    · rw [hout]
      refine List.nodup_append.mpr ⟨hnodup, List.nodup_singleton _, fun a ha b hb h => hnew ?_⟩
      rwa [← List.mem_singleton.mp hb, ← h]
    · rw [hout, List.mem_append, List.mem_singleton, ← hslots j]
      show (s.setSlot k .reporting).slot j = .reporting ↔ _
      rw [State.slot_setSlot]
      by_cases hj : j = k
      · simp [hj]
      · simp [hj]

/-- A slot that is not REPORTING takes another state that is not. -/
theorem State.setSlot_handsPort {s : State} {k : SlotId} {o : OrderSlot} (hk : s.slot k ≠ .reporting)
    (ho : o ≠ .reporting) : s.handsPort (s.setSlot k o) where
  pending := rfl
  store := rfl
  frames := ⟨s.port.urgent, s.port.routine, s.port.mask, [], by rw [List.append_nil]; rfl, fun _ h => nomatch h⟩
  notices := id
  reports := fun ⟨hnodup, hslots⟩ => ⟨hnodup, fun j => by
    refine Iff.trans ?_ (hslots j)
    rw [State.slot_setSlot]
    by_cases hj : j = k
    · subst hj
      simp [hk, ho]
    · simp [hj]⟩

/-! ### The Event List and what an evaluation hands on (R104, R105) -/

theorem State.openRecord_handsPort (s : State) (z : ZoneId) (k : EventKind) (late : Bool) :
    s.handsPort (s.openRecord z k late) := by
  unfold State.openRecord
  split
  exacts [.refl s, (State.raise_handsPort ..).after rfl rfl rfl rfl]

theorem State.servePending_handsPort (s : State) : s.handsPort s.servePending := by
  unfold State.servePending
  split
  exacts [(State.openRecord_handsPort ..).after rfl rfl rfl rfl, .refl s]

theorem State.removeRecord_handsPort (s : State) (p : Place) (e : EventRecord) : s.handsPort (s.removeRecord p e) :=
  (State.servePending_handsPort _).after rfl rfl rfl rfl

theorem State.eventRise_handsPort (s : State) (z : ZoneId) (wet : Bool) : s.handsPort (s.eventRise z wet) := by
  have hraised (p : Place) (e : EventRecord) : s.handsPort ((s.setRecord p e).raise (.event p) .urgent) :=
    (State.raise_handsPort ..).after rfl rfl rfl rfl
  have hflag (k : Option EventKind) : s.handsPort (s.setPendingKind z k) := .of_same rfl rfl rfl rfl
  unfold State.eventRise
  repeat' split
  exacts [hraised .., hraised .., .refl s, hraised .., .refl s, s.openRecord_handsPort .., hflag _, hflag _, .refl s]

theorem State.trackMargin_handsPort (s : State) (z : ZoneId) : s.handsPort (s.trackMargin z) := by
  unfold State.trackMargin
  repeat' split
  all_goals exact .of_same rfl rfl rfl rfl

theorem State.markDataLost_handsPort (s : State) (z : ZoneId) : s.handsPort (s.markDataLost z) := by
  unfold State.markDataLost
  repeat' split
  all_goals exact .of_same rfl rfl rfl rfl

theorem State.eventFall_handsPort (s : State) (z : ZoneId) (cause : ClearCause) :
    s.handsPort (s.eventFall z cause) := by
  refine State.handsPort.after (t := s.setPendingKind z none) ?_ rfl rfl rfl rfl
  unfold State.eventFall
  dsimp only
  repeat' split
  exacts [(State.raise_handsPort ..).after rfl rfl rfl rfl,
    (State.removeRecord_handsPort ..).trans (State.raise_handsPort ..), .refl _, .refl _]

/-- The Event List's part in a grade change (R129, R134 to R137). -/
theorem State.eventGradeChange_handsPort (s : State) (z : ZoneId) (g : Grade) :
    s.handsPort (s.eventGradeChange z g) := by
  have hfall (cause : ClearCause) : s.handsPort ((s.trackMargin z).eventFall z cause) :=
    (s.trackMargin_handsPort z).trans (State.eventFall_handsPort ..)
  have hrise (wet : Bool) : s.handsPort ((s.eventRise z wet).trackMargin z) :=
    (s.eventRise_handsPort z wet).trans (State.trackMargin_handsPort ..)
  unfold State.eventGradeChange
  cases g with
  | off => exact s.eventFall_handsPort ..
  | stale => exact s.markDataLost_handsPort z
  | clear => exact hfall _
  | watch => exact hfall _
  | alarm => exact hrise _
  | wet => exact hrise _

theorem State.handOn_handsPort (s : State) (z : ZoneId) (before : ZoneRecord) : s.handsPort (s.handOn z before) := by
  unfold State.handOn
  split
  · unfold State.marginHandover
    split
    exacts [State.trackMargin_handsPort ..,
      (s.recomputeProportionalOf_linesOnly z).handsPort.trans (State.trackMargin_handsPort ..)]
  · exact (((s.raise_handsPort ..).trans (State.eventGradeChange_handsPort ..)).trans
      (State.recomputeLinesOf_linesOnly ..).handsPort).trans (.of_same rfl rfl rfl rfl)

theorem State.evaluate_handsPort (s : State) (z : ZoneId) (cause : EvalCause) : s.handsPort (s.evaluate z cause) := by
  unfold State.evaluate
  split
  exacts [(State.handOn_handsPort ..).after rfl rfl rfl rfl, .refl s]

theorem State.evaluateAll_handsPort (s : State) (zs : List ZoneId) : s.handsPort (s.evaluateAll zs) := by
  unfold State.evaluateAll
  induction zs generalizing s with
  | nil => exact .refl s
  | cons z zs ih => exact (s.evaluate_handsPort z .ordinary).trans (ih _)

theorem State.evaluateAt_handsPort (s : State) (a : Addr) : s.handsPort (s.evaluateAt a) := by
  unfold State.evaluateAt
  split
  exacts [s.evaluate_handsPort .., .refl s]

/-! ### Probes, the map and the channels -/

theorem State.handToProbe_handsPort (s : State) (a : Addr) (res : AttemptResult) (outcome : ProbeOutcome) :
    s.handsPort (s.handToProbe a res outcome) := by
  have hstored (c : ProbeConfig) (o : ProbeOutcome) (raw : RawReading) :
      s.handsPort ((s.storeReading a c o raw res.time).evaluateAt a) := by
    refine .trans ?_ (State.evaluateAt_handsPort ..)
    unfold State.storeReading
    dsimp only
    split
    exacts [(State.raise_handsPort ..).after rfl rfl rfl rfl, .of_same rfl rfl rfl rfl]
  have hfailed (o : ProbeOutcome) : s.handsPort ((s.failProbe a o res.kind).evaluateAt a) := by
    refine .trans ?_ (State.evaluateAt_handsPort ..)
    unfold State.failProbe
    dsimp only
    split
    exacts [(State.raise_handsPort ..).after rfl rfl rfl rfl, .of_same rfl rfl rfl rfl]
  unfold State.handToProbe State.applyOutcome
  repeat' split
  exacts [hstored .., .refl s, hstored .., .refl s, hfailed _, hfailed _, hfailed _, .refl s, .refl s, .refl s, .refl s]

theorem State.expireAge_handsPort (s : State) (a : Addr) : s.handsPort (s.expireAge a) := by
  unfold State.expireAge
  split
  exacts [(State.evaluateAt_handsPort ..).after rfl rfl rfl rfl, .refl s]

theorem State.expireDwell_handsPort (s : State) (z : ZoneId) : s.handsPort (s.expireDwell z) := by
  unfold State.expireDwell
  split
  exacts [(State.evaluate_handsPort ..).after rfl rfl rfl rfl, .refl s]

theorem State.changeMap_handsPort (s : State) (m : ZoneMap) : s.handsPort (s.changeMap m) :=
  (State.evaluateAll_handsPort ..).after rfl rfl rfl rfl

theorem State.changeChannel_handsPort (s : State) (c : ChannelId) (r : Channel) :
    s.handsPort (s.changeChannel c r) := by
  have hraise : s.handsPort ((s.setChannel c r).raiseLeak c (s.channel c).state r.state) := by
    unfold State.raiseLeak
    split
    exacts [(State.raise_handsPort ..).after rfl rfl rfl rfl, .of_same rfl rfl rfl rfl]
  unfold State.changeChannel
  dsimp only
  split
  · exact .of_same rfl rfl rfl rfl
  · split
    exacts [hraise.trans ((State.evaluateAll_handsPort ..).after rfl rfl rfl rfl),
      hraise.trans (.of_same rfl rfl rfl rfl)]

theorem State.resetChannel_handsPort (s : State) (c : ChannelId) (r : Channel) :
    s.handsPort (s.resetChannel c r) := by
  refine .trans ?_ (State.changeChannel_handsPort _ c r)
  unfold State.discardGate
  split
  exacts [.of_same rfl rfl rfl rfl, .refl s]

theorem State.closeGate_handsPort (s : State) (cycles : Nat) : s.handsPort (s.closeGate cycles) := by
  unfold State.closeGate
  split
  · exact .refl s
  · split
    exacts [.of_same rfl rfl rfl rfl, (s.changeChannel_handsPort ..).trans (.of_same rfl rfl rfl rfl)]

/-! ### The Scan Timer, the trunks and the survey orders -/

theorem State.startPeriod_handsPort (s : State) : s.handsPort s.startPeriod := by
  obtain ⟨es, h⟩ := s.startPeriod_eq
  rw [h]
  exact .of_same rfl rfl rfl rfl

theorem State.startDuePeriod_handsPort (s : State) : s.handsPort s.startDuePeriod := by
  unfold State.startDuePeriod
  split
  exacts [s.startPeriod_handsPort, .refl s]

theorem State.resumeScan_handsPort (s : State) : s.handsPort s.resumeScan := by
  unfold State.resumeScan
  split
  exacts [s.startPeriod_handsPort, .refl s]

/-- A point settles: an order that completes becomes REPORTING with its report (R35, R36, R39). -/
theorem State.settlePoint_handsPort (s : State) (k : SlotId) (n : Nat) (x : PointOutcome) :
    s.handsPort (s.settlePoint k n x) := by
  unfold State.settlePoint
  split
  · next q hq =>
    unfold State.holdOrder
    split
    exacts [State.report_handsPort (by simp [hq]) rfl, State.setSlot_handsPort (by simp [hq]) (by simp)]
  · next m hm =>
    refine State.setSlot_handsPort (by simp [hm]) ?_
    unfold closingAfter
    split <;> simp
  · exact .refl s
  · exact .refl s

theorem State.settleItem_handsPort (s : State) (i : Item) (x : PointOutcome) : s.handsPort (s.settleItem i x) := by
  unfold State.settleItem
  split
  exacts [.refl s, s.settlePoint_handsPort ..]

theorem State.settleHalted_handsPort (s : State) (i : Item) : s.handsPort (s.settleHalted i) := by
  rw [s.settleHalted_eq]
  exact s.settleItem_handsPort ..

theorem State.settleAllHalted_handsPort (s : State) (items : List Item) : s.handsPort (s.settleAllHalted items) := by
  unfold State.settleAllHalted
  induction items generalizing s with
  | nil => exact .refl s
  | cons i items ih => exact (s.settleHalted_handsPort i).trans (ih _)

theorem State.setEngine_handsPort (s : State) (t : Trunk) (e : Engine) : s.handsPort (s.setEngine t e) :=
  .of_same rfl rfl rfl rfl

theorem State.finalise_handsPort (s : State) (t : Trunk) (i : Item) (res : AttemptResult) (outcome : ProbeOutcome) :
    s.handsPort (s.finalise t i res outcome) := by
  rw [State.finalise, State.handOut_eq]
  exact ((s.setEngine_handsPort ..).trans (State.handToProbe_handsPort ..)).trans (State.settleItem_handsPort ..)

theorem State.haltTrunk_handsPort (s : State) (t : Trunk) (i : Item) (res : AttemptResult) :
    s.handsPort (s.haltTrunk t i res) :=
  (((s.finalise_handsPort t i res res.outcome).trans (State.setEngine_handsPort ..)).trans
    (State.settleAllHalted_handsPort ..)).trans (State.raise_handsPort ..)

/-- The end of an attempt (R10 to R14). -/
theorem State.endAttempt_handsPort (s : State) (t : Trunk) (i : Item) (res : AttemptResult) :
    s.handsPort (s.endAttempt t i res) := by
  unfold State.endAttempt
  dsimp only
  refine .trans (s.setEngine_handsPort t ((s.engine t).transactionEnded res (s.definedAt ⟨t, i.drop⟩))) ?_
  split
  · exact State.haltTrunk_handsPort ..
  · have hretry (s : State) : s.handsPort (s.retryOrEnd t i res) := by
      unfold State.retryOrEnd
      split
      exacts [s.setEngine_handsPort .., s.finalise_handsPort ..]
    have hrequeue (s : State) : s.handsPort (s.requeueOrEnd t i res) := by
      unfold State.requeueOrEnd
      split
      exacts [s.setEngine_handsPort .., s.finalise_handsPort ..]
    unfold State.disposeItem
    split
    exacts [hretry _, hretry _, hrequeue _, State.finalise_handsPort .., State.finalise_handsPort ..,
      State.finalise_handsPort .., .refl _, .refl _]

theorem State.receiveAnswer_handsPort (s : State) (t : Trunk) (b : List Byte) : s.handsPort (s.receiveAnswer t b) := by
  unfold State.receiveAnswer
  repeat' split
  exacts [s.endAttempt_handsPort .., .refl s, .refl s]

theorem State.timeoutAnswer_handsPort (s : State) (t : Trunk) (b : List Byte) : s.handsPort (s.timeoutAnswer t b) := by
  unfold State.timeoutAnswer
  repeat' split
  exacts [s.endAttempt_handsPort .., .refl s, s.setEngine_handsPort .., .refl s, .refl s, .refl s, .refl s, .refl s]

theorem State.offerSurvey_handsPort (s : State) (t : Trunk) (i : Item) : s.handsPort (s.offerSurvey t i) := by
  unfold State.offerSurvey
  split
  exacts [s.settleHalted_handsPort i, s.setEngine_handsPort ..]

theorem State.offerPoints_handsPort (s : State) (k : SlotId) (points : List Addr) :
    s.handsPort (s.offerPoints k points) := by
  unfold State.offerPoints
  generalize points.zipIdx = xs
  induction xs generalizing s with
  | nil => exact .refl s
  | cons x xs ih => exact (s.offerSurvey_handsPort ..).trans (ih _)

theorem State.setScanMode_handsPort (s : State) (mode : ScanMode) (period : Nat) :
    s.handsPort (s.setScanMode mode period) := by
  obtain ⟨t, es, h⟩ := s.setScanMode_eq mode period
  rw [h]
  exact .of_same rfl rfl rfl rfl

theorem State.cancelOrder_handsPort {s : State} {k : SlotId} {o : SurveyOrder} (h : s.slot k = .held o) (n : Nat) :
    s.handsPort (s.cancelOrder k n) := by
  refine State.handsPort.after (t := { s with engines := s.engines.map fun e => e.removeOrder k })
    (State.setSlot_handsPort (fun hk => ?_) ?_) rfl rfl rfl rfl
  · exact OrderSlot.noConfusion (h.symm.trans hk)
  · unfold cancelledSlot
    split <;> simp

/-! ### The requests that are one step -/

/-- Notice Mask takes the sources of masked classes out of the queue (R168). -/
theorem State.masked_handsPort (s : State) (m : NoticeMask) : s.handsPort (s.setPort (s.port.masked m)) where
  pending := rfl
  store := rfl
  frames := ⟨_, _, m, [], by rw [List.append_nil]; rfl, fun _ h => nomatch h⟩
  notices := fun ⟨hnodup, _⟩ => by
    have hqueue : (s.port.masked m).urgent ++ (s.port.masked m).routine =
        (s.port.urgent ++ s.port.routine).filter m.enables := (List.filter_append ..).symm
    unfold State.noticesSound
    rw [State.setPort_port, hqueue]
    exact ⟨hnodup.filter _, fun x hx => (List.mem_filter.mp hx).2⟩
  reports := id

theorem eventAckWork_handsPort (p : List Byte) (s : State) : s.handsPort (eventAckWork p s).1 := by
  unfold eventAckWork
  repeat' split
  exacts [.refl s, .refl s, .of_same rfl rfl rfl rfl, .refl s, s.removeRecord_handsPort ..]

theorem mapSpanWork_handsPort (p : List Byte) (s : State) : s.handsPort (mapSpanWork p s).1 := by
  unfold mapSpanWork State.mapSpan
  repeat' split
  exacts [.refl s, s.changeMap_handsPort _, .refl s, s.changeMap_handsPort _, .refl s, .refl s]

theorem surveyCancelWork_handsPort (p : List Byte) (s : State) : s.handsPort (surveyCancelWork p s).1 := by
  unfold surveyCancelWork
  split
  · exact .refl s
  · split
    · next ho => exact State.cancelOrder_handsPort ho _
    all_goals exact .refl s

theorem noticeMaskWork_handsPort (p : List Byte) (s : State) : s.handsPort (noticeMaskWork p s).1 := by
  unfold noticeMaskWork
  split
  exacts [.refl s, s.masked_handsPort _]

theorem defineProbeWork_handsPort (p : List Byte) (s : State) : s.handsPort (defineProbeWork p s).1 := by
  unfold defineProbeWork
  split
  exacts [(State.evaluateAt_handsPort ..).after rfl rfl rfl rfl, .refl s]

theorem retireProbeWork_handsPort (p : List Byte) (s : State) : s.handsPort (retireProbeWork p s).1 := by
  unfold retireProbeWork
  repeat' split
  exacts [.refl s, (State.evaluateAt_handsPort ..).after rfl rfl rfl rfl, .refl s]

theorem trunkRestartWork_handsPort (p : List Byte) (s : State) : s.handsPort (trunkRestartWork p s).1 := by
  unfold trunkRestartWork
  repeat' split
  exacts [.refl s, (State.raise_handsPort ..).after rfl rfl rfl rfl, .refl s]

theorem trunkSetupWork_handsPort (p : List Byte) (s : State) : s.handsPort (trunkSetupWork p s).1 := by
  unfold trunkSetupWork
  split
  exacts [.refl s, s.setEngine_handsPort ..]

theorem scanSetupWork_handsPort (p : List Byte) (s : State) : s.handsPort (scanSetupWork p s).1 := by
  unfold scanSetupWork
  split
  exacts [.refl s, (s.setScanMode_handsPort ..).trans ((State.evaluateAll_handsPort ..).after rfl rfl rfl rfl)]

theorem mapPointWork_handsPort (p : List Byte) (s : State) : s.handsPort (mapPointWork p s).1 := by
  unfold mapPointWork
  repeat' split
  exacts [s.changeMap_handsPort _, .refl s, .refl s]

theorem unmapPointWork_handsPort (p : List Byte) (s : State) : s.handsPort (unmapPointWork p s).1 := by
  unfold unmapPointWork
  repeat' split
  exacts [.refl s, .refl s, s.changeMap_handsPort _]

theorem unmapSpanWork_handsPort (p : List Byte) (s : State) : s.handsPort (unmapSpanWork p s).1 := by
  unfold unmapSpanWork
  repeat' split
  exacts [.refl s, .refl s, s.changeMap_handsPort _, .refl s]

theorem zoneSetupWork_handsPort (p : List Byte) (s : State) : s.handsPort (zoneSetupWork p s).1 := by
  unfold zoneSetupWork
  dsimp only
  repeat' split
  exacts [.refl s, (State.evaluate_handsPort ..).after rfl rfl rfl rfl, .refl s]

theorem zoneOnWork_handsPort (p : List Byte) (s : State) : s.handsPort (zoneOnWork p s).1 := by
  unfold zoneOnWork
  repeat' split
  exacts [.refl s, .refl s, (State.handOn_handsPort ..).after rfl rfl rfl rfl]

theorem zoneOffWork_handsPort (p : List Byte) (s : State) : s.handsPort (zoneOffWork p s).1 := by
  unfold zoneOffWork
  repeat' split
  exacts [.refl s, (State.handOn_handsPort ..).after rfl rfl rfl rfl, .refl s]

theorem leakSetupWork_handsPort (p : List Byte) (s : State) : s.handsPort (leakSetupWork p s).1 := by
  unfold leakSetupWork
  split
  exacts [s.resetChannel_handsPort .., .refl s]

theorem leakRecalibrateWork_handsPort (p : List Byte) (s : State) : s.handsPort (leakRecalibrateWork p s).1 := by
  unfold leakRecalibrateWork
  repeat' split
  exacts [.refl s, .refl s, s.resetChannel_handsPort ..]

theorem lineSetupWork_handsPort (p : List Byte) (s : State) : s.handsPort (lineSetupWork p s).1 := by
  unfold lineSetupWork
  split
  exacts [.of_same rfl rfl rfl rfl, .refl s]

theorem lineReleaseWork_handsPort (p : List Byte) (s : State) : s.handsPort (lineReleaseWork p s).1 := by
  unfold lineReleaseWork
  repeat' split
  all_goals exact .of_same rfl rfl rfl rfl

/-- Before its reply, a request that is one step only hands the port what its block does; nine of them only read. -/
theorem work_handsPort : ∀ v ∈ requestServices, ∀ (p : List Byte) (s : State), s.handsPort (v.work p s).1 := by
  simp only [requestServices, List.forall_mem_cons]
  refine ⟨?identify, ?summary, noticeMaskWork_handsPort, defineProbeWork_handsPort, retireProbeWork_handsPort,
    ?probeQuery, trunkRestartWork_handsPort, trunkSetupWork_handsPort, scanSetupWork_handsPort,
    surveyCancelWork_handsPort, mapPointWork_handsPort, mapSpanWork_handsPort, unmapPointWork_handsPort,
    unmapSpanWork_handsPort, ?mapQuery, zoneSetupWork_handsPort, zoneOnWork_handsPort, zoneOffWork_handsPort,
    ?zoneQuery, leakSetupWork_handsPort, leakRecalibrateWork_handsPort, ?leakQuery, lineSetupWork_handsPort,
    lineReleaseWork_handsPort, ?lineQuery, ?eventList, ?eventQuery, eventAckWork_handsPort,
    fun v hv => absurd hv List.not_mem_nil⟩
  all_goals exact fun p s => .refl s

end Sys2Proof.Machine
end

section
/-! What the Message Port's own operations keep: the frames, the request slots and the bytes on the line through the
arbiter, an arrival, an execution and the ends of the executions that take time (R159 to R164, R172, R175). -/

namespace Sys2Proof.Machine

open Sys2Proof

/-! ### Frames and request slots -/

/-- The part of a sound Message Port that every operation of a step keeps, with at most n request slots held. -/
structure State.framesSound (n : Nat) (s : State) : Prop where
  notices  : s.noticesSound
  wire     : s.wireSound
  held     : s.port.slotsHeld ≤ n
  portFull : s.port.portFullWaiting ≤ 8
  reports  : s.reportsSound

/-- From s to t the queue stays, a store that is sound stays so, and frames that are sound with at most n slots held are
so with at most m. -/
structure State.portKeeps (n m : Nat) (s t : State) : Prop where
  pending : t.pending = s.pending
  store   : s.storeSound → t.storeSound
  frames  : s.framesSound n → t.framesSound m

theorem State.portKeeps.refl (n : Nat) (s : State) : s.portKeeps n n s := ⟨rfl, id, id⟩

theorem State.portKeeps.trans {n m l : Nat} {s t v : State} (h : s.portKeeps n m t) (h' : t.portKeeps m l v) :
    s.portKeeps n l v :=
  ⟨h'.pending.trans h.pending, fun hs => h'.store (h.store hs), fun hs => h'.frames (h.frames hs)⟩

/-- The request slot that an execution holds: Keep Settings' own, while its reply is not completed (R161). -/
def executionSlots (e : Option Execution) : Nat :=
  match e with
  | some (.keepSettings _) => 1
  | some (.warmRestart _) => 0
  | none => 0

theorem executionSlots_replySent (e : Option Execution) :
    executionSlots (e.map Execution.replySent) = executionSlots e := by
  cases e with
  | none => rfl
  | some x => cases x <;> rfl

/-- The slots held are those of the requests that wait, of Keep Settings executing, and of the replies not wholly
sent. -/
theorem Port.slotsHeld_eq (p : Port) : p.slotsHeld =
    p.waiting.length + executionSlots p.executing + (p.outgoing.filter (·.role.holdsSlot)).length := by
  unfold Port.slotsHeld Port.outgoing executionSlots
  rw [List.filter_append, List.length_append, Nat.add_comm (List.length _) (List.length (p.replies.filter _)),
    ← Nat.add_assoc]
  congr 1
  cases p.line with
  | none => rfl
  | some f => cases hf : f.role.holdsSlot <;> simp [hf]

/-- A survey report holds no request slot and is no PORT_FULL reply. -/
theorem OutFrame.role_of_reportOf {f : OutFrame} (h : f.reportOf.isSome = true) :
    f.role.holdsSlot = false ∧ f.role.isPortFull = false := by
  unfold OutFrame.reportOf at h
  cases hr : f.role with
  | report k => exact ⟨rfl, rfl⟩
  | reply => simp [hr] at h
  | restartReply => simp [hr] at h
  | portFull => simp [hr] at h
  | notice src => simp [hr] at h

/-- A frame that holds a request slot is a reply, no report and no PORT_FULL reply. -/
theorem OutFrame.reportOf_of_holdsSlot {f : OutFrame} (h : f.role.holdsSlot = true) :
    f.reportOf = none ∧ f.role.isPortFull = false := by
  unfold OutFrame.reportOf
  cases hr : f.role with
  | reply => exact ⟨rfl, rfl⟩
  | restartReply => exact ⟨rfl, rfl⟩
  | portFull => simp [hr, FrameRole.holdsSlot] at h
  | report k => simp [hr, FrameRole.holdsSlot] at h
  | notice src => simp [hr, FrameRole.holdsSlot] at h

/-- The work of a block makes no request slot held and leaves the bytes on the line. -/
theorem State.handsPort.portKeeps {s t : State} (h : s.handsPort t) (n : Nat) : s.portKeeps n n t := by
  obtain ⟨u, r, m, fs, hp, hfs⟩ := h.frames
  have hnone (p : FrameRole → Bool) (hfalse : ∀ f ∈ fs, p f.role = false) : fs.filter (fun f => p f.role) = [] :=
    List.filter_eq_nil_iff.mpr fun f hf => by simp [hfalse f hf]
  refine ⟨h.pending, fun hs tag he => ?_, fun hs => ⟨h.notices hs.notices, ?_, ?_, ?_, h.reports hs.reports⟩⟩
  · rw [h.store]
    rw [hp] at he
    exact hs tag he
  · rw [State.wireSound, hp]
    exact hs.wire
  · have hheld := hs.held
    unfold Port.slotsHeld at hheld ⊢
    rw [hp]
    dsimp only
    rwa [List.filter_append, hnone _ fun f hf => (OutFrame.role_of_reportOf (hfs f hf)).1, List.append_nil]
  · have hfull := hs.portFull
    unfold Port.portFullWaiting at hfull ⊢
    rw [hp]
    dsimp only
    rwa [List.filter_append, hnone _ fun f hf => (OutFrame.role_of_reportOf (hfs f hf)).2, List.append_nil]

/-! ### The arbiter (R164) -/

/-- The reply-class frames after the arbiter's choice: those before it, behind the notice that it sends if it sends
one. -/
theorem State.arbitrate_outgoing (s : State) :
    s.arbitrate.port.outgoing = s.port.outgoing
      ∨ ∃ src, s.arbitrate.port.outgoing = s.noticeFrame src :: s.port.outgoing := by
  unfold State.arbitrate
  split
  · exact .inl rfl
  · next hfree =>
    have hline : s.port.line = none := by
      cases hl : s.port.line with
      | none => rfl
      | some g => simp [hl] at hfree
    split
    · next f rest hr => exact .inl (by simp [Port.outgoing, Port.send, hline, hr])
    · next hr =>
      split
      · next src rest hu => exact .inr ⟨src, by simp [Port.outgoing, Port.send, hline, hr]⟩
      · split
        · next src rest hu => exact .inr ⟨src, by simp [Port.outgoing, Port.send, hline, hr]⟩
        · exact .inl rfl

/-- The frames that wait after the arbiter's choice waited before it. -/
theorem State.arbitrate_replies (s : State) : s.arbitrate.port.replies.Sublist s.port.replies := by
  unfold State.arbitrate
  split
  · exact .refl _
  · split
    · next f rest hr =>
      rw [hr]
      exact List.sublist_cons_self ..
    · repeat' split
      all_goals exact .refl _

theorem State.arbitrate_portKeeps (n : Nat) (s : State) : s.portKeeps n n s.arbitrate := by
  have hport := s.arbitrate_port
  have hexecuting : s.arbitrate.port.executing = s.port.executing := by rw [hport]
  have hwaiting : s.arbitrate.port.waiting = s.port.waiting := by rw [hport]
  have hmask : s.arbitrate.port.mask = s.port.mask := by rw [hport]
  have hstore : s.arbitrate.store = s.store := by rw [s.arbitrate_eq]; rfl
  have hslots : s.arbitrate.slots = s.slots := by rw [s.arbitrate_eq]; rfl
  refine ⟨by rw [s.arbitrate_eq]; rfl, fun hs tag he => ?_, fun hs => ⟨?_, s.arbitrate_wireSound hs.wire, ?_, ?_, ?_⟩⟩
  · rw [hstore]
    exact hs tag (hexecuting ▸ he)
  · obtain ⟨hnodup, henabled⟩ := hs.notices
    have hsub : (s.arbitrate.port.urgent ++ s.arbitrate.port.routine).Sublist (s.port.urgent ++ s.port.routine) := by
      obtain ⟨hu, hr⟩ | ⟨src, -, hq, -⟩ := s.arbitrate_sends_or_keeps
      · rw [hu, hr]
      · rw [hq]
        exact List.sublist_cons_self ..
    exact ⟨hnodup.sublist hsub, fun src hm => hmask ▸ henabled src (hsub.mem hm)⟩
  · have hheld := hs.held
    rw [Port.slotsHeld_eq] at hheld ⊢
    rw [hexecuting, hwaiting]
    obtain h | ⟨src, h⟩ := s.arbitrate_outgoing <;> rw [h] <;> exact hheld
  · exact (s.arbitrate_replies.filter _).length_le.trans hs.portFull
  · have hreports : s.arbitrate.port.outgoing.filterMap OutFrame.reportOf =
        s.port.outgoing.filterMap OutFrame.reportOf := by
      obtain h | ⟨src, h⟩ := s.arbitrate_outgoing <;> rw [h]
      rfl
    unfold State.reportsSound State.slot
    rw [hreports, hslots]
    exact hs.reports

/-- After the arbiter's choice an idle line has nothing to send, but while a Warm Restart reset is due (R164). -/
theorem State.arbitrate_lineSound (s : State) : s.arbitrate.lineSound := by
  unfold State.arbitrate
  split
  · next hbusy =>
    intro hline
    rw [hline] at hbusy
    exact .inl (by simpa using hbusy)
  · split
    · exact fun h => nomatch h
    · next hr =>
      split
      · exact fun h => nomatch h
      · next hu =>
        split
        · exact fun h => nomatch h
        · next hro => exact fun _ => .inr ⟨hr, hu, hro⟩

/-! ### Replies and arrivals (R161, R162) -/

/-- A frame that is no report joins those that wait. -/
theorem State.reportsSound.queueFrame {s : State} (h : s.reportsSound) {f : OutFrame} (hf : f.reportOf = none) :
    (s.queueFrame f).reportsSound := by
  have hout : (s.queueFrame f).port.outgoing.filterMap OutFrame.reportOf =
      s.port.outgoing.filterMap OutFrame.reportOf := by
    rw [State.queueFrame_outgoing, List.filterMap_append, List.filterMap_cons, hf]
    exact List.append_nil _
  unfold State.reportsSound
  rw [hout]
  exact h

/-- A reply takes one request slot. -/
theorem State.queueReply_portKeeps (n : Nat) (s : State) {f : OutFrame} (hf : f.role.holdsSlot = true) :
    s.portKeeps n (n + 1) (s.queueFrame f) := by
  obtain ⟨hreport, hfull⟩ := OutFrame.reportOf_of_holdsSlot hf
  refine ⟨rfl, id, fun hs => ⟨hs.notices, hs.wire, ?_, ?_, hs.reports.queueFrame hreport⟩⟩
  · have hheld := hs.held
    rw [Port.slotsHeld_eq] at hheld ⊢
    rw [State.queueFrame_outgoing, List.filter_append, List.length_append]
    simpa [hf, State.queueFrame, ← Nat.add_assoc] using hheld
  · have hwait := hs.portFull
    simpa [Port.portFullWaiting, State.queueFrame, hfull] using hwait

theorem State.completeReply_portKeeps (n : Nat) (s : State) (kind tag : Byte) (r : Reply) :
    s.portKeeps n (n + 1) (s.completeReply kind tag r) :=
  s.queueReply_portKeeps n rfl

/-- A request arrives: it takes a free slot, or is answered PORT_FULL while fewer than eight such replies wait. -/
theorem State.arrive_portKeeps (s : State) (r : Request) : s.portKeeps 4 4 (s.arrive r) := by
  unfold State.arrive State.refuseArrival
  split
  · next hfree =>
    refine ⟨rfl, id, fun hs => ⟨hs.notices, hs.wire, ?_, hs.portFull, hs.reports⟩⟩
    rw [Port.slotsHeld_eq] at hfree ⊢
    have hout : (s.setPort { s.port with waiting := s.port.waiting ++ [r] }).port.outgoing = s.port.outgoing := rfl
    rw [hout]
    simp only [State.setPort_port, List.length_append, List.length_singleton]
    omega
  · split
    · next hfull =>
      refine ⟨rfl, id, fun hs => ⟨hs.notices, hs.wire, ?_, ?_, hs.reports.queueFrame rfl⟩⟩
      · have hheld := hs.held
        rw [Port.slotsHeld_eq] at hheld ⊢
        rw [State.queueFrame_outgoing, List.filter_append]
        simpa [portFullFrame, replyFrame, FrameRole.holdsSlot, State.queueFrame] using hheld
      · have hadded : (s.queueFrame (portFullFrame r)).port.portFullWaiting = s.port.portFullWaiting + 1 := by
          simp [Port.portFullWaiting, State.queueFrame, portFullFrame, replyFrame, FrameRole.isPortFull]
        omega
    · exact .refl 4 s

/-! ### Executions (R162, R163, R172, R175) -/

/-- While an image is being written the stored check is its check's complement, and so not its check (assumption 12). -/
theorem Store.writing_check_ne (i : Image) : (Store.writing i).check ≠ (Store.writing i).contents.check := by
  intro h
  have hbit := congrArg (·.getLsbD 0) h
  simp [Store.writing] at hbit

/-- Keep Settings takes a slot for its reply (R161) and starts the image's write (R172). -/
theorem State.beginKeep_portKeeps (n : Nat) (s : State) (tag : Byte) : s.portKeeps n (n + 1) (s.beginKeep tag) := by
  refine ⟨rfl, fun _ _ _ => Store.writing_check_ne _,
    fun hs => ⟨hs.notices, hs.wire, ?_, hs.portFull, hs.reports⟩⟩
  have hheld := hs.held
  rw [Port.slotsHeld_eq] at hheld ⊢
  have hout : (s.beginKeep tag).port.outgoing = s.port.outgoing := rfl
  rw [hout]
  simp only [State.beginKeep, executionSlots]
  omega

/-- Warm Restart completes its reply, and executes until that has been sent (R175). -/
theorem State.beginRestart_portKeeps (n : Nat) (s : State) (tag : Byte) :
    s.portKeeps n (n + 1) (s.beginRestart tag) := by
  refine State.portKeeps.trans (m := n) (t := s.setPort { s.port with executing := some (.warmRestart false) })
    ⟨rfl, fun _ _ h => (nomatch h), fun hs => ⟨hs.notices, hs.wire, ?_, hs.portFull, hs.reports⟩⟩
    (State.queueReply_portKeeps n _ rfl)
  have hheld := hs.held
  rw [Port.slotsHeld_eq] at hheld ⊢
  have hout : (s.setPort { s.port with executing := some (.warmRestart false) }).port.outgoing = s.port.outgoing := rfl
  rw [hout]
  simp only [State.setPort_port, executionSlots]
  omega

theorem State.acceptSurvey_portKeeps (n : Nat) {s : State} {tag : Byte} {k : SlotId} (hk : s.slot k ≠ .reporting)
    (points : List Addr) : s.portKeeps n (n + 1) (s.acceptSurvey tag k points) :=
  (((State.setSlot_handsPort hk (by simp)).portKeeps n).trans (State.completeReply_portKeeps n ..)).trans
    ((State.offerPoints_handsPort ..).portKeeps (n + 1))

/-- The slot that an accepted order takes is FREE (R34). -/
theorem State.slot_of_accepted {s : State} {tag : Byte} {p : List Byte} {k : SlotId} {points : List Addr}
    (h : s.judgeSurvey tag p = .accepted k points) : s.slot k = .free := by
  have hslot : s.freeSlot = some k := by
    unfold State.judgeSurvey at h
    repeat' split at h
    all_goals cases h
    assumption
  exact beq_iff_eq.mp (List.find?_some (p := fun k => s.slot k == .free) hslot)

/-- The execution of a request takes at most one slot, for its reply (R161, R162). -/
theorem State.execute_portKeeps (n : Nat) (s : State) (r : Request) : s.portKeeps n (n + 1) (s.execute r) := by
  unfold State.execute
  split
  · unfold State.runKeepSettings
    split
    exacts [s.beginKeep_portKeeps n _, s.completeReply_portKeeps n ..]
  · split
    · unfold State.runWarmRestart
      split
      exacts [s.beginRestart_portKeeps n _, s.completeReply_portKeeps n ..]
    · split
      · unfold State.runSurvey
        split
        · exact s.completeReply_portKeeps n ..
        · next hj => exact State.acceptSurvey_portKeeps n (by simp [State.slot_of_accepted hj]) _
      · split
        · next v hv =>
          unfold Service.run
          split
          exacts [((work_handsPort v (List.mem_of_find?_eq_some hv) _ s).portKeeps n).trans
            (State.completeReply_portKeeps n ..), s.completeReply_portKeeps n ..]
        · exact s.completeReply_portKeeps n ..

/-- The oldest waiting request gives its slot to its execution (R161, R162). -/
theorem State.startNext_portKeeps (s : State) : s.portKeeps 4 4 s.startNext := by
  unfold State.startNext
  split
  · next r rest he hw =>
    have htaken : s.portKeeps 4 3 (s.setPort { s.port with waiting := rest }) := by
      refine ⟨rfl, id, fun hs => ⟨hs.notices, hs.wire, ?_, hs.portFull, hs.reports⟩⟩
      have hheld := hs.held
      rw [Port.slotsHeld_eq, hw, List.length_cons] at hheld
      rw [Port.slotsHeld_eq]
      have hout : (s.setPort { s.port with waiting := rest }).port.outgoing = s.port.outgoing := rfl
      rw [hout]
      simp only [State.setPort_port]
      omega
    exact (htaken.trans (State.execute_portKeeps 3 ..)).trans (State.arbitrate_portKeeps 4 _)
  · exact .refl 4 s
  · exact .refl 4 s

/-- Any number of requests that waited is served one after another. -/
theorem State.serveUpTo_portKeeps (n : Nat) (s : State) : s.portKeeps 4 4 (State.serveUpTo n s) := by
  induction n generalizing s with
  | zero => exact .refl 4 s
  | succ n ih => exact s.startNext_portKeeps.trans (ih _)

theorem State.serveWaiting_portKeeps (s : State) : s.portKeeps 4 4 s.serveWaiting := State.serveUpTo_portKeeps ..

/-! ### The ends of frames and executions (R36, R161, R164, R172, R175) -/

/-- The order slots without the report in line, which has been sent: its slot is FREE and the others stay (R36). -/
theorem State.reportsSound.frameSent {s : State} {f : OutFrame} (h : s.reportsSound) (hf : s.port.line = some f)
    {ks : Table OrderSlot 4}
    (hks : ∀ k, ks.get k = if f.role = .report k ∧ s.slot k = .reporting then .free else s.slot k) :
    ({ s with port := s.port.frameSent f, slots := ks } : State).reportsSound := by
  obtain ⟨hnodup, hslots⟩ := h
  have hout : s.port.outgoing.filterMap OutFrame.reportOf =
      f.reportOf.toList ++ s.port.replies.filterMap OutFrame.reportOf := by
    rw [Port.outgoing, hf, List.filterMap_append]
    cases hr : f.reportOf <;> simp [hr]
  rw [hout] at hnodup hslots
  refine ⟨(List.nodup_append.mp hnodup).2.1, fun k => ?_⟩
  show ks.get k = .reporting ↔ k ∈ s.port.replies.filterMap OutFrame.reportOf
  have hk := hslots k
  rw [List.mem_append] at hk
  have hrole : f.role = .report k ↔ f.reportOf = some k := by
    unfold OutFrame.reportOf
    cases f.role <;> simp
  rw [hks]
  simp only [hrole]
  by_cases hfk : f.reportOf = some k
  · have hsent : k ∉ s.port.replies.filterMap OutFrame.reportOf := fun hm =>
      (List.nodup_append.mp hnodup).2.2 k (by simp [hfk]) k hm rfl
    simp [hfk, hk.mpr (.inl (by simp [hfk])), hsent]
  · simp [hfk, hk]

/-- A frame that has been sent leaves the line, and its request slot if it held one. -/
theorem State.sentFrame_portKeeps (s : State) : s.portKeeps 4 4 s.sentFrame := by
  cases hl : s.port.line with
  | none =>
    rw [State.sentFrame, hl]
    exact .refl 4 s
  | some f =>
    obtain ⟨ks, h, hks⟩ := State.sentFrame_eq hl
    rw [h]
    refine ⟨rfl, fun hs tag he => ?_, fun hs => ⟨hs.notices, rfl, ?_, hs.portFull, hs.reports.frameSent hl hks⟩⟩
    · have hkeep : s.port.executing = some (.keepSettings tag) := by
        have he' : (s.port.frameSent f).executing = some (.keepSettings tag) := he
        unfold Port.frameSent at he'
        dsimp only at he'
        split at he'
        · cases hx : s.port.executing with
          | none => simp [hx] at he'
          | some x =>
            rw [hx] at he'
            cases x with
            | keepSettings t => exact he'
            | warmRestart due => exact nomatch he'
        · exact he'
      exact hs tag hkeep
    · refine Nat.le_trans ?_ hs.held
      have hsub : (s.port.frameSent f).outgoing.Sublist s.port.outgoing := List.sublist_append_right ..
      have hfilter := (hsub.filter (·.role.holdsSlot)).length_le
      rw [Port.slotsHeld_eq, Port.slotsHeld_eq]
      refine Nat.add_le_add (Nat.add_le_add (Nat.le_refl _) ?_) hfilter
      unfold Port.frameSent
      dsimp only
      split
      exacts [Nat.le_of_eq (executionSlots_replySent _), Nat.le_refl _]

/-- Keep Settings gives its slot to its reply (R161, R172). -/
theorem State.keepDone_portKeeps (s : State) (agrees : Bool) : s.portKeeps 4 4 (s.keepDone agrees) := by
  unfold State.keepDone
  split
  · next tag he =>
    have hended (t : State) (hq : t.pending = s.pending) (hp : t.port = { s.port with executing := none })
        (hk : t.slots = s.slots) : s.portKeeps 4 3 t := by
      refine ⟨hq, fun _ tag h => ?_, fun hs => ⟨?_, ?_, ?_, ?_, ?_⟩⟩
      · rw [hp] at h
        cases h
      · rw [State.noticesSound, hp]
        exact hs.notices
      · rw [State.wireSound, hp]
        exact hs.wire
      · have hheld := hs.held
        rw [Port.slotsHeld_eq, he] at hheld
        rw [Port.slotsHeld_eq, hp]
        have hout : ({ s.port with executing := none } : Port).outgoing = s.port.outgoing := rfl
        rw [hout]
        simp only [executionSlots] at hheld ⊢
        omega
      · rw [hp]
        exact hs.portFull
      · rw [State.reportsSound, hp]
        unfold State.slot
        rw [hk]
        exact hs.reports
    unfold State.endKeep
    cases agrees with
    | true =>
      exact (hended (s.keepSucceeded.setPort { s.port with executing := none }) rfl rfl rfl).trans
        (State.completeReply_portKeeps 3 ..)
    | false =>
      exact (hended (s.keepFailed.setPort { s.port with executing := none }) rfl rfl rfl).trans
        (State.completeReply_portKeeps 3 ..)
  · exact .refl 4 s
  · exact .refl 4 s

/-- A port just started, with every order slot FREE (R32, R174). -/
theorem State.framesSound_of_start {s : State} {m : NoticeMask} (hp : s.port = Port.start m)
    (hk : s.slots = Table.all 4 .free) (n : Nat) : s.framesSound n := by
  have hslot (k : SlotId) : s.slot k = .free := by
    rw [State.slot, hk]
    exact Table.get_all ..
  refine ⟨?_, ?_, ?_, ?_, ?_⟩
  · rw [State.noticesSound, hp]
    exact ⟨List.nodup_nil, fun _ h => nomatch h⟩
  · rw [State.wireSound, hp]
    rfl
  · rw [hp]
    exact Nat.zero_le n
  · rw [hp]
    exact Nat.zero_le 8
  · rw [State.reportsSound, hp]
    refine ⟨List.nodup_nil, fun k => ?_⟩
    rw [hslot]
    exact ⟨fun h => (nomatch h), fun h => nomatch h⟩

/-- From the blocks that the load starts, the first leak round and the first cycle hand the port nothing. -/
theorem State.load_handsPort (s : State) :
    (({ s with defaulted := !s.store.valid } : State).startedFrom s.store.toLoad).handsPort s.load := by
  have hround (t : State) : t.handsPort t.startRound := .of_same rfl rfl rfl rfl
  exact (hround _).trans (State.resumeScan_handsPort _)

theorem State.load_portKeeps (n : Nat) (s : State) : s.portKeeps n n s.load := by
  have hstarted : s.portKeeps n n (({ s with defaulted := !s.store.valid } : State).startedFrom s.store.toLoad) :=
    ⟨rfl, fun _ _ h => (nomatch h), fun _ => State.framesSound_of_start rfl rfl n⟩
  exact hstarted.trans (s.load_handsPort.portKeeps n)

/-- The reset of Warm Restart keeps the frames and empties the notice queue (R40, R175). -/
theorem State.resetIfDue_portKeeps (n : Nat) (s : State) : s.portKeeps n n s.resetIfDue := by
  unfold State.resetIfDue
  split
  · refine State.portKeeps.trans (m := n) (t := s.restarted) ?_ ((State.resumeScan_handsPort _).portKeeps n)
    refine ⟨rfl, fun _ _ h => (nomatch h), fun hs =>
      ⟨⟨List.nodup_nil, fun _ h => nomatch h⟩, hs.wire, ?_, hs.portFull, hs.reports.1, fun k => ?_⟩⟩
    · refine Nat.le_trans ?_ hs.held
      rw [Port.slotsHeld_eq, Port.slotsHeld_eq]
      exact Nat.add_le_add (Nat.add_le_add (Nat.le_refl _) (Nat.zero_le _)) (Nat.le_refl _)
    · refine Iff.trans ?_ (hs.reports.2 k)
      have hslot : s.restarted.slot k = (s.slot k).restarted := Table.get_map ..
      rw [hslot]
      cases s.slot k <;> simp [OrderSlot.restarted]
  · exact .refl n s

end Sys2Proof.Machine
end

section
/-! Every command answers a next state with the queue as it was, and keeps the Message Port and the store sound (R159
to R168, R172): an operation, then the arbiter's choice, then the requests that waited. -/

namespace Sys2Proof.Machine

open Sys2Proof

/-! ### Requests wait only while another executes (R162) -/

/-- A request waits only while another executes (R162). -/
def State.served (s : State) : Prop := s.port.executing = none → s.port.waiting = []

theorem State.served.of_port {s t : State} (h : s.served) (hw : t.port.waiting = s.port.waiting)
    (he : t.port.executing = none → s.port.executing = none) : t.served := fun hnone => hw.trans (h (he hnone))

theorem State.served.arbitrate {s : State} (h : s.served) : s.arbitrate.served :=
  h.of_port (by rw [s.arbitrate_port]) (by rw [s.arbitrate_port]; exact id)

theorem State.served.handsPort {s t : State} (h : s.served) (ht : s.handsPort t) : t.served := by
  obtain ⟨u, r, m, fs, hp, -⟩ := ht.frames
  exact h.of_port (by rw [hp]) (by rw [hp]; exact id)

theorem State.serveUpTo_of_served {s : State} (h : s.served) (n : Nat) : State.serveUpTo n s = s := by
  have hself : s.startNext = s := s.startNext_eq_self (by
    by_cases he : s.port.executing = none
    exacts [.inl (h he), .inr he])
  induction n with
  | zero => rfl
  | succ n ih => rw [State.serveUpTo, hself, ih]

/-- The requests that waited have been served, or one of them takes time (R162). -/
theorem State.serveWaiting_served (s : State) : s.serveWaiting.served := by
  have hup : ∀ n (s : State), s.port.waiting.length ≤ n → (State.serveUpTo n s).served := by
    intro n
    induction n with
    | zero => exact fun s hn _ => List.length_eq_zero_iff.mp (Nat.le_zero.mp hn)
    | succ n ih =>
      intro s hn
      by_cases hs : s.served
      · rwa [State.serveUpTo_of_served hs]
      · obtain ⟨he, hw⟩ := Classical.not_imp.mp hs
        obtain ⟨r, rest, hw⟩ := List.exists_cons_of_ne_nil hw
        refine ih _ ?_
        rw [State.startNext_waiting he hw]
        rw [hw, List.length_cons] at hn
        omega
  exact hup _ s (Nat.le_refl _)

/-- Serving the requests that waited ends with the arbiter's choice, if any was served. -/
theorem State.lineSound.serveWaiting {s : State} (h : s.lineSound) : s.serveWaiting.lineSound := by
  have hup : ∀ n (s : State), s.lineSound → (State.serveUpTo n s).lineSound := by
    intro n
    induction n with
    | zero => exact fun _ h => h
    | succ n ih =>
      refine fun s h => ih _ ?_
      unfold State.startNext
      split
      exacts [State.arbitrate_lineSound _, h, h]
  exact hup _ s h

/-! ### What a step keeps -/

/-- A sound Message Port (R159, R161, R162, R164, R166, R168). -/
structure State.portSound (s : State) : Prop where
  frames : s.framesSound 4
  line   : s.lineSound
  served : s.served

theorem State.portSound_iff (s : State) :
    s.portSound ↔ s.noticesSound ∧ s.lineSound ∧ s.wireSound ∧ s.slotsSound :=
  ⟨fun ⟨⟨hn, hw, hh, hf, hr⟩, hl, hs⟩ => ⟨hn, hl, hw, hh, hf, hs, hr⟩,
    fun ⟨hn, hl, hw, hh, hf, hs, hr⟩ => ⟨⟨hn, hw, hh, hf, hr⟩, hl, hs⟩⟩

/-- From s to t the queue stays, and the store and the Message Port stay sound. -/
structure State.stepKeeps (s t : State) : Prop where
  pending : t.pending = s.pending
  store   : s.storeSound → t.storeSound
  port    : s.portSound → t.portSound

theorem State.stepKeeps.refl (s : State) : s.stepKeeps s := ⟨rfl, id, id⟩

theorem State.stepKeeps.trans {s t v : State} (h : s.stepKeeps t) (h' : t.stepKeeps v) : s.stepKeeps v :=
  ⟨h'.pending.trans h.pending, fun hs => h'.store (h.store hs), fun hs => h'.port (h.port hs)⟩

/-- An operation that leaves the queue, the store, the port and the order slots alone. -/
theorem State.stepKeeps.of_same {s t : State} (hq : t.pending = s.pending) (hst : t.store = s.store)
    (hp : t.port = s.port) (hk : t.slots = s.slots) : s.stepKeeps t := by
  have h : s.handsPort t := .of_same hq hst hp hk
  refine ⟨hq, (h.portKeeps 4).store, fun hs => ⟨(h.portKeeps 4).frames hs.frames, ?_, hs.served.handsPort h⟩⟩
  rw [State.lineSound, hp]
  exact hs.line

/-- An operation and the arbiter's choice after it. -/
theorem State.portKeeps.arbitrated {s t : State} (h : s.portKeeps 4 4 t) (hs : s.served → t.served) :
    s.stepKeeps t.arbitrate := by
  have h' := h.trans (State.arbitrate_portKeeps 4 t)
  exact ⟨h'.pending, h'.store, fun hp => ⟨h'.frames hp.frames, t.arbitrate_lineSound, (hs hp.served).arbitrate⟩⟩

theorem State.handsPort.arbitrated {s t : State} (h : s.handsPort t) : s.stepKeeps t.arbitrate :=
  (h.portKeeps 4).arbitrated fun hs => hs.handsPort h

/-- An operation, the arbiter's choice after it, and the requests that waited. -/
theorem State.portKeeps.serving {s t : State} (h : s.portKeeps 4 4 t) : s.stepKeeps t.arbitrate.serveWaiting := by
  have h' := (h.trans (State.arbitrate_portKeeps 4 t)).trans (State.serveWaiting_portKeeps _)
  exact ⟨h'.pending, h'.store,
    fun hp => ⟨h'.frames hp.frames, t.arbitrate_lineSound.serveWaiting, State.serveWaiting_served _⟩⟩

/-! ### Every command -/

/-- An outcome is a next state of which P holds. -/
def answers (P : State → Prop) (o : Host.Outcome State Fault Refusal) : Prop := ∃ t, o = .next t ∧ P t

theorem answers_next {P : State → Prop} {s : State} (h : P s) : answers P (.next s) := ⟨s, rfl, h⟩

variable {s : State}

theorem answers_self : answers s.stepKeeps (.next s) := answers_next (.refl s)

theorem answers_fieldEvent {f : State → State} (hf : s.stepKeeps (f s).arbitrate) :
    answers s.stepKeeps (fieldEvent f s) := by
  obtain ⟨-, h⟩ | ⟨-, h⟩ := fieldEvent_cases f s
  exacts [h ▸ answers_self, h ▸ answers_next hf]

theorem answers_handed (f : State → State) (hf : s.handsPort (f s)) : answers s.stepKeeps (fieldEvent f s) :=
  answers_fieldEvent hf.arbitrated

theorem answers_servingEvent {f : State → State} (hf : s.portKeeps 4 4 (f s)) :
    answers s.stepKeeps (servingEvent f s) := by
  unfold servingEvent
  split
  exacts [answers_next hf.serving, answers_self]

/-- A request that is executed at its arrival, where none waits and a slot is free (R161, R162). -/
theorem State.execute_stepKeeps {s s0 : State} {r : Request} (hb : s.begins r s0) (q : Request) :
    s.stepKeeps (s0.execute q).arbitrate := by
  obtain ⟨-, he, ⟨hw, hfree, rfl⟩ | ⟨rest, hw, rfl⟩⟩ := hb
  · have h := (State.execute_portKeeps 3 s0 q).trans (State.arbitrate_portKeeps 4 _)
    refine ⟨h.pending, h.store, fun ⟨hf, _, hs⟩ => ⟨h.frames ?_, State.arbitrate_lineSound _, ?_⟩⟩
    · exact ⟨hf.notices, hf.wire, Nat.le_of_lt_succ hfree, hf.portFull, hf.reports⟩
    · exact State.served.arbitrate fun _ => (State.execute_waiting ..).trans hw
  · have h := (State.execute_portKeeps 3 (s.setPort { s.port with waiting := rest }) q).trans
      (State.arbitrate_portKeeps 4 _)
    exact ⟨h.pending, h.store, fun ⟨_, _, hs⟩ => nomatch hw.symm.trans (hs he)⟩

/-- A request that arrives and is not executed at its arrival waits while another executes, or finds every slot held
(R161, R162). -/
theorem State.arrive_served {s : State} {r : Request} (h : s.admission r = .arrives) (hs : s.served) :
    (s.arrive r).served := by
  cases he : s.port.executing with
  | some x =>
    intro hnone
    unfold State.arrive State.refuseArrival at hnone
    repeat' split at hnone
    all_goals exact nomatch he.symm.trans hnone
  | none =>
    have hw := hs he
    have hfull : ¬ s.port.slotsHeld < 4 := by
      intro hlt
      unfold State.admission at h
      rw [he, hw] at h
      simp [hlt] at h
      split at h <;> cases h
    unfold State.arrive State.refuseArrival
    rw [if_neg hfull]
    split
    exacts [hs, hs]

/-- A request is executed only where its execution begins (R161, R162). -/
theorem State.begins_of_admission {s s0 : State} {r : Request} (h : s.admission r = .runs s0) : s.begins r s0 := by
  unfold State.admission at h
  split at h
  · next hp =>
    split at h
    · next he hw =>
      split at h
      · next hfree =>
        cases h
        exact ⟨hp, he, .inl ⟨hw, hfree, rfl⟩⟩
      · cases h
    · next q rest he hw =>
      split at h
      · next hq =>
        cases h
        exact ⟨hp, he, .inr ⟨rest, hq ▸ hw, rfl⟩⟩
      · cases h
    · cases h
  · cases h

/-- A request row, which is the execution of its request where it is admitted (R162, assumption 5). -/
theorem answers_row (r : Request) {o : Host.Outcome State Fault Refusal}
    (ho : o = whenAdmitted r (fun s => s.execute r) s) : answers s.stepKeeps o := by
  subst ho
  cases h : s.admission r with
  | notNow =>
    rw [whenAdmitted, h]
    exact answers_self
  | arrives =>
    rw [whenAdmitted, h]
    exact answers_next ((s.arrive_portKeeps r).arbitrated (State.arrive_served h))
  | runs s0 =>
    rw [whenAdmitted, h]
    exact answers_next (State.execute_stepKeeps (State.begins_of_admission h) r)

/-- UNKNOWN_KIND, which is such a row but for a request kind (R163, assumption 26). -/
theorem answers_unknownKind (kind tag : Byte) (p : List Byte) : answers s.stepKeeps (execUnknownKind kind tag p s) := by
  unfold execUnknownKind
  split
  · exact answers_self
  · next hk =>
    refine answers_row ⟨kind, tag, p⟩ (congrArg (whenAdmitted _ · s) (funext fun s => ?_))
    exact (s.execute_unknown (r := ⟨kind, tag, p⟩) (by simpa using hk)).symm

/-- A row that does nothing where its payload is another row's (assumption 21). -/
theorem answers_sharedRow (r : Request) (other : Bool) :
    answers s.stepKeeps (if other then .next s else whenAdmitted r (fun s => s.execute r) s) := by
  split
  exacts [answers_self, answers_row r rfl]

/-- Every request that arrives is executed, waits, or is refused; then those that waited are served (R161, R162). -/
theorem State.arriveOne_stepKeeps (s : State) (r : Request) : s.stepKeeps (s.arriveOne r) :=
  (s.arrive_portKeeps r).serving

theorem State.receive_stepKeeps (s : State) (bytes : List Byte) : s.stepKeeps (s.receive bytes) := by
  refine KeptByWork.foldl (P := s.stepKeeps) State.arriveOne (fun t r h => h.trans (t.arriveOne_stepKeeps r)) _ ?_
  exact ⟨rfl, id, fun ⟨⟨hn, hw, hh, hf, hr⟩, hl, hs⟩ => ⟨⟨hn, hw, hh, hf, hr⟩, hl, hs⟩⟩

theorem State.sentFrame_served (h : s.served) : s.sentFrame.served := by
  cases hl : s.port.line with
  | none =>
    rw [State.sentFrame, hl]
    exact h
  | some f =>
    obtain ⟨ks, hsent, -⟩ := State.sentFrame_eq hl
    rw [hsent]
    refine h.of_port rfl fun he => ?_
    have he' : (s.port.frameSent f).executing = none := he
    unfold Port.frameSent at he'
    dsimp only at he'
    split at he'
    exacts [Option.map_eq_none_iff.mp he', he']

/-- What is due is taken, each expiry with the arbiter's choice at its end, and then the second counts (R101). -/
theorem State.secondPassed_stepKeeps (s : State) : s.stepKeeps s.secondPassed := by
  have hcounted (t : State) : t.stepKeeps
      { t with uptime := t.uptime + 1, scan := t.scan.tick, zones := t.zones.map ZoneRecord.tick } :=
    .of_same rfl rfl rfl rfl
  have hstarted : s.stepKeeps s.startDuePeriod := by
    unfold State.startDuePeriod
    split
    · obtain ⟨es, h⟩ := s.startPeriod_eq
      rw [h]
      exact .of_same rfl rfl rfl rfl
    · exact .refl s
  refine State.stepKeeps.trans (t := s.takeDue) ?_ (hcounted _)
  refine KeptByWork.foldl (P := s.stepKeeps) _ (fun t a h => h.trans ?_) _
    (KeptByWork.foldl (P := s.stepKeeps) _ (fun t z h => h.trans ?_) _ hstarted)
  · unfold State.takeDueAge
    split
    exacts [(t.expireAge_handsPort a).arbitrated, .refl t]
  · unfold State.takeDueDwell
    split
    exacts [(t.expireDwell_handsPort z).arbitrated, .refl t]

/-- Power that comes or goes: the port at rest, no Keep Settings executing (R174). -/
theorem State.unloaded_stepKeeps (s : State) (power : Power) (store : Store) :
    s.stepKeeps (State.unloaded power store s.pending) :=
  ⟨rfl, fun _ _ h => (nomatch h), fun _ =>
    ⟨State.framesSound_of_start rfl rfl 4, fun _ => .inr ⟨rfl, rfl, rfl⟩, fun _ => rfl⟩⟩

/-- Every command answers a next state, which keeps what `State.stepKeeps` says. -/
theorem exec_answers (c : Instr) (s : State) : answers s.stepKeeps (exec c s) := by
  have hsame (t : State) (hq : t.pending = s.pending) (hst : t.store = s.store) (hp : t.port = s.port)
      (hk : t.slots = s.slots) : s.handsPort t := .of_same hq hst hp hk
  cases c with
  | powerOn => exact answers_next (s.unloaded_stepKeeps ..)
  | powerLoss ended => exact answers_next (s.unloaded_stepKeeps ..)
  | settingsLoad =>
    show answers s.stepKeeps (execSettingsLoad s)
    unfold execSettingsLoad
    split
    · have hserved : s.load.served := State.served.handsPort (fun _ => rfl) s.load_handsPort
      exact answers_next ((s.load_portKeeps 4).arbitrated fun _ => hserved)
    · exact answers_self
  | frameArrival bytes =>
    show answers s.stepKeeps (execFrameArrival bytes s)
    unfold execFrameArrival
    split
    exacts [answers_next (s.receive_stepKeeps bytes), answers_self]
  | frameGapTimeout =>
    refine answers_fieldEvent (f := fun s => s.setPort { s.port with rx := [] }) (State.portKeeps.arbitrated ?_ id)
    exact ⟨rfl, id, fun ⟨hn, hw, hh, hf, hr⟩ => ⟨hn, hw, hh, hf, hr⟩⟩
  | frameSent =>
    exact answers_fieldEvent (f := State.sentFrame) (s.sentFrame_portKeeps.arbitrated State.sentFrame_served)
  | unknownKind kind tag p => exact answers_unknownKind kind tag p
  | keepSettingsDone agrees => exact answers_servingEvent (s.keepDone_portKeeps agrees)
  | warmRestartReset => exact answers_servingEvent (s.resetIfDue_portKeeps 4)
  | scanSetupContinuous tag p => exact answers_sharedRow ⟨0x18, tag, p⟩ (otherScanRow p .continuous)
  | scanSetupSingle tag p => exact answers_sharedRow ⟨0x18, tag, p⟩ (otherScanRow p .single)
  | scanSetupStopped tag p => exact answers_sharedRow ⟨0x18, tag, p⟩ (otherScanRow p .stopped)
  | leakSetupEnable tag p => exact answers_sharedRow ⟨0x30, tag, p⟩ (otherLeakRow p true)
  | leakSetupDisable tag p => exact answers_sharedRow ⟨0x30, tag, p⟩ (otherLeakRow p false)
  | periodStart => exact answers_handed State.startDuePeriod s.startDuePeriod_handsPort
  | gapExpiry t => exact answers_handed (fun s => s.setEngine t (s.engine t).gapEnded) (s.setEngine_handsPort ..)
  | transactionOpen t => exact answers_handed (fun s => s.setEngine t (s.engine t).opened) (s.setEngine_handsPort ..)
  | answerReceived t b => exact answers_handed (fun s => s.receiveAnswer t b) (s.receiveAnswer_handsPort t b)
  | answerTimeout t b => exact answers_handed (fun s => s.timeoutAnswer t b) (s.timeoutAnswer_handsPort t b)
  | ageExpiry a => exact answers_handed (fun s => s.expireAge a) (s.expireAge_handsPort a)
  | dwellExpiry z => exact answers_handed (fun s => s.expireDwell z) (s.expireDwell_handsPort z)
  | dutyFrameStart =>
    exact answers_handed (fun s => { s with lines := s.lines.map LineRecord.frameStarted }) (hsame _ rfl rfl rfl rfl)
  | dutyOnTimeEnd l =>
    exact answers_handed (fun s => s.setOutLine l (s.outLine l).onTimeEnded) (hsame _ rfl rfl rfl rfl)
  | roundStart =>
    refine answers_handed (fun s => if s.leak.position.isSome then s else s.startRound) ?_
    split
    exacts [.refl s, hsame _ rfl rfl rfl rfl]
  | gateClose cycles => exact answers_handed (fun s => s.closeGate cycles) (s.closeGate_handsPort cycles)
  | uptimeSecond =>
    show answers s.stepKeeps (execUptimeSecond s)
    unfold execUptimeSecond
    split
    · exact answers_self
    · exact answers_next (.of_same rfl rfl rfl rfl)
    · exact answers_next s.secondPassed_stepKeeps
  | identify tag p => exact answers_row ⟨0x01, tag, p⟩ rfl
  | summary tag p => exact answers_row ⟨0x02, tag, p⟩ rfl
  | keepSettings tag p => exact answers_row ⟨0x03, tag, p⟩ rfl
  | warmRestart tag p => exact answers_row ⟨0x04, tag, p⟩ rfl
  | noticeMask tag p => exact answers_row ⟨0x05, tag, p⟩ rfl
  | defineProbe tag p => exact answers_row ⟨0x10, tag, p⟩ rfl
  | retireProbe tag p => exact answers_row ⟨0x11, tag, p⟩ rfl
  | probeQuery tag p => exact answers_row ⟨0x12, tag, p⟩ rfl
  | trunkRestart tag p => exact answers_row ⟨0x13, tag, p⟩ rfl
  | trunkSetup tag p => exact answers_row ⟨0x14, tag, p⟩ rfl
  | survey tag p => exact answers_row ⟨0x19, tag, p⟩ rfl
  | surveyCancel tag p => exact answers_row ⟨0x1A, tag, p⟩ rfl
  | mapPoint tag p => exact answers_row ⟨0x20, tag, p⟩ rfl
  | mapSpan tag p => exact answers_row ⟨0x21, tag, p⟩ rfl
  | unmapPoint tag p => exact answers_row ⟨0x22, tag, p⟩ rfl
  | unmapSpan tag p => exact answers_row ⟨0x23, tag, p⟩ rfl
  | mapQuery tag p => exact answers_row ⟨0x24, tag, p⟩ rfl
  | zoneSetup tag p => exact answers_row ⟨0x28, tag, p⟩ rfl
  | zoneOn tag p => exact answers_row ⟨0x29, tag, p⟩ rfl
  | zoneOff tag p => exact answers_row ⟨0x2A, tag, p⟩ rfl
  | zoneQuery tag p => exact answers_row ⟨0x2B, tag, p⟩ rfl
  | leakRecalibrate tag p => exact answers_row ⟨0x31, tag, p⟩ rfl
  | leakQuery tag p => exact answers_row ⟨0x32, tag, p⟩ rfl
  | lineSetup tag p => exact answers_row ⟨0x34, tag, p⟩ rfl
  | lineRelease tag p => exact answers_row ⟨0x35, tag, p⟩ rfl
  | lineQuery tag p => exact answers_row ⟨0x36, tag, p⟩ rfl
  | eventList tag p => exact answers_row ⟨0x38, tag, p⟩ rfl
  | eventQuery tag p => exact answers_row ⟨0x39, tag, p⟩ rfl
  | eventAck tag p => exact answers_row ⟨0x3A, tag, p⟩ rfl

/-- Settles O2: `exec_answers` says more of the state answered. -/
theorem everyCommandAnswersNext : Obligations.EveryCommandAnswersNext := fun c s =>
  have ⟨t, ht, hk⟩ := exec_answers c s
  ⟨t, ht, hk.pending⟩

/-- A step keeps the store and the Message Port sound: the queue's rest is of neither. -/
theorem step_stays_sound {s t : State} (h : step s = .next t) :
    (s.storeSound → t.storeSound) ∧ (s.portSound → t.portSound) := by
  unfold step at h
  split at h
  · cases h
    exact ⟨id, id⟩
  · next c rest _ =>
    obtain ⟨u, hu, hk⟩ := exec_answers c { s with pending := rest }
    cases hu.symm.trans h
    exact ⟨hk.store, fun ⟨⟨hn, hw, hh, hf, hr⟩, hl, hs⟩ => hk.port ⟨⟨hn, hw, hh, hf, hr⟩, hl, hs⟩⟩

/-- Settles O52, by what every command keeps of the port and the store (`exec_answers`). -/
theorem stepKeepsPort : Obligations.StepKeepsPort := by
  refine ⟨fun s t hn hl hw hs hstep => ?_, fun s t hs hstep => (step_stays_sound hstep).1 hs⟩
  exact t.portSound_iff.mp ((step_stays_sound hstep).2 (s.portSound_iff.mpr ⟨hn, hl, hw, hs⟩))

end Sys2Proof.Machine
end

section
/-! The receiver (R159, R160): what it makes of one candidate, whatever bytes follow, and so of any bytes in any
grouping; and that it reads back the frame that was sent. -/

namespace Sys2Proof.Machine

open Sys2Proof

/-! ### One candidate (R160) -/

/-- A candidate with too small or too great a LEN is dropped. -/
theorem judgeCandidate_badLen {len : Byte} (h : len.toNat < 2 ∨ 240 < len.toNat) (after : List Byte) :
    judgeCandidate (len :: after) = .dropped := by
  unfold judgeCandidate
  exact if_pos (by simpa using h)

/-- A candidate whose body and check have not all come is kept. -/
theorem judgeCandidate_short {len : Byte} (h2 : 2 ≤ len.toNat) (h240 : len.toNat ≤ 240) {after : List Byte}
    (h : after.length < len.toNat + 2) : judgeCandidate (len :: after) = .incomplete := by
  unfold judgeCandidate
  dsimp only
  rw [if_neg (by simp; omega), if_pos h]

/-- A candidate that is complete is good exactly where its check is that of LEN and the body. -/
theorem judgeCandidate_complete {len : Byte} (h2 : 2 ≤ len.toNat) (h240 : len.toNat ≤ 240) {body check : List Byte}
    (hb : body.length = len.toNat) (hc : check.length = 2) (rest : List Byte) :
    judgeCandidate (len :: (body ++ check ++ rest)) =
      if checkBytes (len :: body) = check then .good ⟨body.getD 0 0, body.getD 1 0, body.drop 2⟩ rest
      else .dropped := by
  have hlen : ¬ (body ++ check ++ rest).length < len.toNat + 2 := by
    simp only [List.length_append]
    omega
  have htake : (body ++ check ++ rest).take len.toNat = body := by simp [← hb]
  have hcheck : ((body ++ check ++ rest).drop len.toNat).take 2 = check := by simp [← hb, ← hc]
  have hrest : (body ++ check ++ rest).drop (len.toNat + 2) = rest := by simp [← hb, ← hc]
  unfold judgeCandidate
  dsimp only
  rw [if_neg (by simp; omega), if_neg hlen, htake, hcheck, hrest]

/-- A complete candidate is its LEN, its body, its check and the bytes after it. -/
theorem exists_body_check {n : Nat} {after : List Byte} (h : n + 2 ≤ after.length) :
    ∃ body check rest : List Byte, body.length = n ∧ check.length = 2 ∧ after = body ++ check ++ rest := by
  refine ⟨after.take n, (after.drop n).take 2, after.drop (n + 2), ?_, ?_, ?_⟩
  · rw [List.length_take]
    omega
  · rw [List.length_take, List.length_drop]
    omega
  · rw [List.append_assoc, ← List.drop_drop, List.take_append_drop, List.take_append_drop]

/-- A candidate after a SYNC by what it comes to: it is not complete, or is dropped, or is a good frame; and in the last
two cases more bytes behind it change nothing. -/
theorem judgeCandidate_cases (xs : List Byte) :
    judgeCandidate xs = .incomplete
      ∨ (∀ more, judgeCandidate (xs ++ more) = .dropped)
      ∨ ∃ r after, after.length < xs.length ∧ ∀ more, judgeCandidate (xs ++ more) = .good r (after ++ more) := by
  cases xs with
  | nil => exact .inl rfl
  | cons len after =>
    by_cases hlen : len.toNat < 2 ∨ 240 < len.toNat
    · exact .inr (.inl fun more => judgeCandidate_badLen hlen (after ++ more))
    · obtain ⟨h2, h240⟩ : 2 ≤ len.toNat ∧ len.toNat ≤ 240 := by omega
      by_cases hshort : after.length < len.toNat + 2
      · exact .inl (judgeCandidate_short h2 h240 hshort)
      · obtain ⟨body, check, rest, hb, hc, rfl⟩ := exists_body_check (Nat.le_of_not_lt hshort)
        have hmore (more : List Byte) := judgeCandidate_complete h2 h240 hb hc (rest ++ more)
        simp only [List.cons_append, List.append_assoc] at hmore ⊢
        by_cases hgood : checkBytes (len :: body) = check
        · refine .inr (.inr ⟨_, rest, ?_, fun more => (hmore more).trans (if_pos hgood)⟩)
          simp only [List.length_cons, List.length_append]
          omega
        · exact .inr (.inl fun more => (hmore more).trans (if_neg hgood))

/-- The bytes behind a good frame are fewer than those of its candidate. -/
theorem length_lt_of_good {xs : List Byte} {r : Request} {after : List Byte}
    (h : judgeCandidate xs = .good r after) : after.length < xs.length := by
  obtain hi | hd | ⟨q, rest, hlt, hg⟩ := judgeCandidate_cases xs
  · exact Candidate.noConfusion (h.symm.trans hi)
  · exact Candidate.noConfusion (h.symm.trans (by simpa using hd []))
  · have hsame := h.symm.trans (by simpa using hg [])
    cases hsame
    exact hlt

/-! ### All the bytes (R160) -/

/-- As many rounds as there are bytes suffice. -/
theorem scanBytes_of_le (n m : Nat) (xs : List Byte) (hn : xs.length ≤ n) (hm : xs.length ≤ m) :
    scanBytes n xs = scanBytes m xs := by
  induction n generalizing m xs with
  | zero =>
    cases List.length_eq_zero_iff.mp (Nat.le_zero.mp hn)
    cases m <;> rfl
  | succ n ih =>
    cases xs with
    | nil => cases m <;> rfl
    | cons b rest =>
      obtain ⟨m, rfl⟩ := Nat.exists_eq_add_of_lt (Nat.lt_of_lt_of_le (Nat.succ_pos _) hm)
      rw [List.length_cons] at hn hm
      rw [Nat.zero_add, scanBytes, scanBytes, ih m rest (by omega) (by omega)]
      split
      · cases hj : judgeCandidate rest with
        | incomplete => rfl
        | dropped => rfl
        | good r after =>
          have hlt := length_lt_of_good hj
          dsimp only
          rw [ih m after (by omega) (by omega)]
      · rfl

/-- The bytes kept of a candidate and those that come are one sequence of bytes. -/
theorem receiveBytes_eq (rx bytes : List Byte) : receiveBytes rx bytes = receiveBytes [] (rx ++ bytes) :=
  scanBytes_of_le _ _ _ (by simp) (by simp)

theorem receiveBytes_cons (b : Byte) (xs : List Byte) : receiveBytes [] (b :: xs) =
    if b = 0xA5 then
      match judgeCandidate xs with
      | .incomplete => ([], b :: xs)
      | .dropped => receiveBytes [] xs
      | .good r after => (r :: (receiveBytes [] after).1, (receiveBytes [] after).2)
    else receiveBytes [] xs := by
  have hrounds {ys : List Byte} (h : ys.length ≤ xs.length) : scanBytes xs.length ys = receiveBytes [] ys :=
    scanBytes_of_le _ _ _ h (by simp)
  rw [receiveBytes, List.nil_append, scanBytes_of_le _ (xs.length + 1) _ (by simp) (by simp), scanBytes,
    hrounds (Nat.le_refl _)]
  split
  · cases hj : judgeCandidate xs with
    | incomplete => rfl
    | dropped => rfl
    | good r after =>
      dsimp only
      rw [hrounds (Nat.le_of_lt (length_lt_of_good hj))]
  · rfl

/-- The hunt passes over a byte that is no SYNC. -/
theorem receiveBytes_noise {b : Byte} (h : b ≠ 0xA5) (xs : List Byte) :
    receiveBytes [] (b :: xs) = receiveBytes [] xs := by
  rw [receiveBytes_cons, if_neg h]

theorem receiveBytes_incomplete {xs : List Byte} (h : judgeCandidate xs = .incomplete) :
    receiveBytes [] (0xA5 :: xs) = ([], 0xA5 :: xs) := by
  rw [receiveBytes_cons, if_pos rfl, h]

theorem receiveBytes_dropped {xs : List Byte} (h : judgeCandidate xs = .dropped) :
    receiveBytes [] (0xA5 :: xs) = receiveBytes [] xs := by
  rw [receiveBytes_cons, if_pos rfl, h]

theorem receiveBytes_good {xs : List Byte} {r : Request} {after : List Byte}
    (h : judgeCandidate xs = .good r after) :
    receiveBytes [] (0xA5 :: xs) = (r :: (receiveBytes [] after).1, (receiveBytes [] after).2) := by
  rw [receiveBytes_cons, if_pos rfl, h]

/-- The frames in a sequence of bytes, however it is cut: those of the first part, and then those of the candidate it
leaves with the second part. -/
theorem receiveBytes_append (xs ys : List Byte) : receiveBytes [] (xs ++ ys) =
    ((receiveBytes [] xs).1 ++ (receiveBytes [] ((receiveBytes [] xs).2 ++ ys)).1,
      (receiveBytes [] ((receiveBytes [] xs).2 ++ ys)).2) := by
  induction hn : xs.length using Nat.strong_induction_on generalizing xs with
  | _ n ih =>
    subst hn
    cases xs with
    | nil => rfl
    | cons b rest =>
      have hrest := ih rest.length (Nat.lt_succ_self _) rest rfl
      rw [List.cons_append]
      by_cases hb : b = 0xA5
      · subst hb
        obtain hi | hd | ⟨r, after, hlt, hg⟩ := judgeCandidate_cases rest
        · rw [receiveBytes_incomplete hi]
          rfl
        · have hd' : judgeCandidate rest = .dropped := by simpa using hd []
          rw [receiveBytes_dropped (hd ys), receiveBytes_dropped hd']
          exact hrest
        · have hg' : judgeCandidate rest = .good r after := by simpa using hg []
          rw [receiveBytes_good (hg ys), receiveBytes_good hg',
            ih after.length (Nat.lt_succ_of_lt hlt) after rfl]
          rfl
      · rw [receiveBytes_noise hb, receiveBytes_noise hb]
        exact hrest

/-- Settles O10: what is left of the first delivery is the candidate with which the second goes on. -/
theorem receiverIgnoresGrouping : Obligations.ReceiverIgnoresGrouping := by
  intro rx a b
  have h := receiveBytes_append (rx ++ a) b
  rw [receiveBytes_eq rx (a ++ b), receiveBytes_eq rx a, receiveBytes_eq _ b, ← List.append_assoc, h]
  exact ⟨rfl, rfl⟩

/-! ### The frame that was sent (R159, R160, R179) -/

/-- The two check bytes are those of the CRC-16, high byte first (R159). -/
theorem append_of_checkBytes_eq {xs : List Byte} {high low : Byte} (h : checkBytes xs = [high, low]) :
    high ++ low = crc16 xs := by
  simp only [checkBytes, List.cons.injEq, and_true] at h
  obtain ⟨rfl, rfl⟩ := h
  exact (BitVec.extractLsb'_append_extractLsb'_eq_extractLsb' rfl).trans BitVec.extractLsb'_eq_self

/-- The bytes of a frame behind its SYNC are a good candidate. -/
theorem judgeCandidate_frame (kind tag : Byte) {payload : List Byte} (h : payload.length ≤ 238) (rest : List Byte) :
    judgeCandidate (lenAndBody kind tag payload ++ checkBytes (lenAndBody kind tag payload) ++ rest) =
      .good ⟨kind, tag, payload⟩ rest := by
  have hlen : (byte (payload.length + 2)).toNat = payload.length + 2 := by
    rw [byte, BitVec.toNat_ofNat]
    exact Nat.mod_eq_of_lt (by omega)
  have hjudged := judgeCandidate_complete (len := byte (payload.length + 2)) (body := kind :: tag :: payload)
    (check := checkBytes (lenAndBody kind tag payload)) (by omega) (by omega) (by simp [hlen]) rfl rest
  exact hjudged.trans (if_pos rfl)

/-- A frame is read back, and the receiver goes on with the byte after its check. -/
theorem receiveBytes_frame (kind tag : Byte) {payload : List Byte} (h : payload.length ≤ 238) (rest : List Byte) :
    receiveBytes [] (frameBytes kind tag payload ++ rest) =
      (⟨kind, tag, payload⟩ :: (receiveBytes [] rest).1, (receiveBytes [] rest).2) :=
  receiveBytes_good (judgeCandidate_frame kind tag h rest)

/-- Settles O11: noise is passed over byte by byte, and a candidate is judged by its LEN, its length and its check. -/
theorem receiverReadsFrameBack : Obligations.ReceiverReadsFrameBack := by
  refine ⟨fun kind tag payload noise rest h hnoise => ?_,
    fun len rest h => receiveBytes_dropped (judgeCandidate_badLen h rest),
    fun len high low body rest h2 h240 hb hcheck => ?_, rfl,
    fun len rest h2 h240 h => receiveBytes_incomplete (judgeCandidate_short h2 h240 h)⟩
  · induction noise with
    | nil => exact receiveBytes_frame kind tag h rest
    | cons b noise ih =>
      rw [List.forall_mem_cons] at hnoise
      exact (receiveBytes_noise hnoise.1 _).trans (ih hnoise.2)
  · have hjudged := judgeCandidate_complete h2 h240 hb (check := [high, low]) rfl rest
    rw [if_neg (fun h => hcheck (append_of_checkBytes_eq h))] at hjudged
    exact receiveBytes_dropped hjudged

end Sys2Proof.Machine
end

section
/-! The first two checks of an execution (R163), Notice Mask (R168), a raising by the table of R167, and the loss and
return of power (R172 to R174). -/

namespace Sys2Proof.Machine

open Sys2Proof

/-! ### UNKNOWN_KIND and BAD_LENGTH (R163, R180) -/

/-- An execution that only completes a bare reply. -/
theorem whenAdmitted_bareReply {s s0 : State} {r : Request} (hb : s.begins r s0) {run : State → State} {status : Status}
    (hrun : run s0 = s0.completeReply r.kind r.tag (Reply.bare status)) :
    whenAdmitted r run s = .next (s0.answered (replyFrame .reply r.kind r.tag (Reply.bare status))) := by
  rw [whenAdmitted_of_begins hb, hrun]
  exact finish_completeReply _ _ _ _ hb.notDue

/-- A request that is one step is refused for its length. -/
theorem runRequest_wrongLength {v : Service} (hk : v.kind ∈ requestKinds) {s s0 : State} {tag : Byte} {p : List Byte}
    (hb : s.begins ⟨v.kind, tag, p⟩ s0) (hl : p.length ≠ v.length) :
    runRequest v tag p s = .next (s0.answered (replyTo v.kind tag .badLength [])) :=
  (runRequest_badLength hb hl).trans
    (congrArg (fun f => Host.Outcome.next (s0.answered f)) (replyFrame_eq_replyTo hk tag .badLength []))

/-- Keep Settings and Warm Restart, whose payload is empty, are refused for their length. -/
theorem whenAdmitted_wrongLength {kind tag : Byte} {p : List Byte} (hk : kind ∈ requestKinds) {s s0 : State}
    (hb : s.begins ⟨kind, tag, p⟩ s0) {start : State → State} (hl : p.length ≠ 0) :
    whenAdmitted ⟨kind, tag, p⟩
        (fun s => if p.length = 0 then start s else s.completeReply kind tag (Reply.bare .badLength)) s =
      .next (s0.answered (replyTo kind tag .badLength [])) :=
  (whenAdmitted_bareReply hb (if_neg hl)).trans
    (congrArg (fun f => Host.Outcome.next (s0.answered f)) (replyFrame_eq_replyTo hk tag .badLength []))

/-- Settles O13: the status alone, for an unknown kind and, row by row, for a payload of another length; one that is
shared by several rows is of none of the others (`otherScanRow_of_length`, `otherLeakRow_of_length`). -/
theorem unknownKindAndBadLength : Obligations.UnknownKindAndBadLength := by
  refine ⟨fun s s0 kind tag p hk hb => ?unknown, ?badLength⟩
  case unknown =>
    have hexec : exec (.unknownKind kind tag p) s = whenAdmitted ⟨kind, tag, p⟩ (State.runUnknownKind kind tag) s :=
      if_neg (by simpa using hk)
    rw [hexec, whenAdmitted_bareReply hb (status := .unknownKind) rfl, replyFrame, replyKind,
      if_neg (by simpa using hk)]
    rfl
  case badLength =>
    simp only [fixedRequests, List.forall_mem_cons]
    refine ⟨?identify, ?summary, ?keepSettings, ?warmRestart, ?noticeMask, ?defineProbe, ?retireProbe, ?probeQuery,
      ?trunkRestart, ?trunkSetup, ?scanContinuous, ?scanSingle, ?scanStopped, ?surveyCancel, ?mapPoint, ?mapSpan,
      ?unmapPoint, ?unmapSpan, ?mapQuery, ?zoneSetup, ?zoneOn, ?zoneOff, ?zoneQuery, ?leakEnable, ?leakDisable,
      ?leakRecalibrate, ?leakQuery, ?lineSetup, ?lineRelease, ?lineQuery, ?eventList, ?eventQuery, ?eventAck,
      fun row hrow => absurd hrow List.not_mem_nil⟩
    case keepSettings => exact fun s s0 tag p hb hl => whenAdmitted_wrongLength (by decide) hb hl
    case warmRestart => exact fun s s0 tag p hb hl => whenAdmitted_wrongLength (by decide) hb hl
    case scanContinuous =>
      exact fun s s0 tag p hb hl => (if_neg (by simp [otherScanRow_of_length hl])).trans
        (runRequest_wrongLength (v := scanSetupService) (by decide) hb hl)
    case scanSingle =>
      exact fun s s0 tag p hb hl => (if_neg (by simp [otherScanRow_of_length hl])).trans
        (runRequest_wrongLength (v := scanSetupService) (by decide) hb hl)
    case scanStopped =>
      exact fun s s0 tag p hb hl => (if_neg (by simp [otherScanRow_of_length hl])).trans
        (runRequest_wrongLength (v := scanSetupService) (by decide) hb hl)
    case leakEnable =>
      exact fun s s0 tag p hb hl => (if_neg (by simp [otherLeakRow_of_length hl])).trans
        (runRequest_wrongLength (v := leakSetupService) (by decide) hb hl)
    case leakDisable =>
      exact fun s s0 tag p hb hl => (if_neg (by simp [otherLeakRow_of_length hl])).trans
        (runRequest_wrongLength (v := leakSetupService) (by decide) hb hl)
    all_goals exact fun s s0 tag p hb hl => runRequest_wrongLength (by decide) hb hl

/-! ### Notice Mask (R168) -/

theorem bool?_boolByte (b : Bool) : bool? (boolByte b).toNat = some b := by
  cases b <;> rfl

/-- The five bytes of a mask name it (R168, R178). -/
theorem noticeMask?_bytes (m : NoticeMask) :
    noticeMask? [boolByte m.zone, boolByte m.event, boolByte m.probe, boolByte m.trunk, boolByte m.leak] = some m := by
  simp only [noticeMask?, u8, List.getD_cons_zero, List.getD_cons_succ, bool?_boolByte]

/-- Settles O16: the port is `Port.masked`. -/
theorem noticeMaskFiltersTheQueue : Obligations.NoticeMaskFiltersTheQueue := by
  rintro s s0 tag m hb urgent routine rfl rfl
  refine runRequest_answered (v := noticeMaskService) (by decide) hb rfl ?_ rfl
  show noticeMaskWork _ s0 = _
  rw [noticeMaskWork, noticeMask?_bytes]
  rfl

/-! ### Raising (R167) -/

theorem Port.raise_masked {p : Port} {src : Source} (h : p.mask.enables src = false) (u : Urgency) :
    p.raise src u = p := by
  simp [Port.raise, h]

theorem Port.raise_queuedUrgent {p : Port} {src : Source} (hm : p.mask.enables src = true) (h : src ∈ p.urgent)
    (u : Urgency) : p.raise src u = p := by
  simp [Port.raise, hm, h]

theorem Port.raise_urgent {p : Port} {src : Source} (hm : p.mask.enables src = true) (h : src ∉ p.urgent) :
    p.raise src .urgent = { p with urgent := p.urgent ++ [src], routine := p.routine.filter (· != src) } := by
  simp [Port.raise, hm, h]

theorem Port.raise_routine {p : Port} {src : Source} (hm : p.mask.enables src = true) (h : src ∉ p.urgent) :
    p.raise src .routine = if src ∈ p.routine then p else { p with routine := p.routine ++ [src] } := by
  simp [Port.raise, hm, h]

/-- Settles O17: the four rows of the table; an urgent raising takes the source from where it is queued as routine. -/
theorem raisingFollowsTheTable : Obligations.RaisingFollowsTheTable := by
  refine fun p src => ⟨Port.raise_masked, fun hm hu hr => ⟨?_, ?_⟩, fun hm hu hr hnodup => ⟨?_, ?_⟩,
    Port.raise_queuedUrgent⟩
  · have hkept : p.routine.filter (· != src) = p.routine :=
      List.filter_eq_self.mpr fun x hx => bne_iff_ne.mpr fun h => hr (h ▸ hx)
    rw [Port.raise_urgent hm hu, hkept]
  · rw [Port.raise_routine hm hu, if_neg hr]
  · rw [Port.raise_urgent hm hu, hnodup.erase_eq_filter]
  · rw [Port.raise_routine hm hu, if_pos hr]

/-! ### Power that goes and comes (R172 to R174) -/

theorem State.storeAtLoss_idle {s : State} (h : ∀ tag, s.port.executing ≠ some (.keepSettings tag)) (ended : Bool) :
    s.storeAtLoss ended = s.store := by
  unfold State.storeAtLoss
  split
  · next tag he => exact absurd he (h tag)
  · rfl
  · rfl

theorem State.storeAtLoss_writing {s : State} {tag : Byte} (h : s.port.executing = some (.keepSettings tag))
    (ended : Bool) : s.storeAtLoss ended = if ended then s.store.written else s.store := by
  rw [State.storeAtLoss, h]

/-- A loss of power changes nothing of the store but its check. -/
theorem State.storeAtLoss_contents (s : State) (ended : Bool) :
    (s.storeAtLoss ended).contents = s.store.contents
      ∧ (s.storeAtLoss ended).markedInvalid = s.store.markedInvalid := by
  unfold State.storeAtLoss
  repeat' split
  all_goals exact ⟨rfl, rfl⟩

/-- Settles O4: the store at the loss is `State.storeAtLoss`; a write cut short leaves the check that stood there. -/
theorem powerOnAndPowerLoss : Obligations.PowerOnAndPowerLoss := by
  refine ⟨fun s => rfl, fun s ended => ⟨_, rfl, rfl, (s.storeAtLoss_contents ended).1, (s.storeAtLoss_contents ended).2,
    fun h => s.storeAtLoss_idle h ended, fun tag h => ?_, fun tag hs h hcut => ?_, fun tag h hended hmark => ?_⟩⟩
  · show (s.storeAtLoss ended).check = _
    rw [State.storeAtLoss_writing h]
    cases ended <;> rfl
  · have hstore : s.storeAtLoss ended = s.store := by
      rw [State.storeAtLoss_writing h, hcut]
      rfl
    have hinvalid : s.store.valid = false := by
      rw [← Bool.not_eq_true, Store.valid_iff]
      exact fun hv => hs tag h hv.1
    show (s.storeAtLoss ended).check ≠ (s.storeAtLoss ended).contents.check ∧ (s.storeAtLoss ended).valid = false
      ∧ (s.storeAtLoss ended).toLoad = Image.default
    rw [hstore]
    exact ⟨hs tag h, hinvalid, if_neg (by simp [hinvalid])⟩
  · have hstore : s.storeAtLoss ended = s.store.written := by
      rw [State.storeAtLoss_writing h, hended]
      rfl
    have hvalid : s.store.written.valid = true := (Store.valid_iff _).mpr ⟨rfl, hmark⟩
    show (s.storeAtLoss ended).valid = true ∧ (s.storeAtLoss ended).toLoad = s.store.contents
    rw [hstore]
    exact ⟨hvalid, if_pos hvalid⟩

end Sys2Proof.Machine
end

section
/-! The arrival of bytes (R160 to R163, R174): every request has a row, a row is the arrival of its request, and the
frames that bytes complete arrive in order. -/

namespace Sys2Proof.Machine

open Sys2Proof

/-! ### The row of a request (R163, R180) -/

/-- Whether a row is that of a kind with a payload. -/
def rowServes (kind : Byte) (p : List Byte) (row : (Byte → List Byte → Instr) × Byte × (List Byte → Bool)) : Bool :=
  row.2.1 == kind && row.2.2 p

/-- The three Scan Setup rows have every payload between them (R25). -/
theorem requestRows_scanSetup (p : List Byte) : requestRows.any (rowServes 0x18 p) = true := by
  have h : requestRows.any (rowServes 0x18 p) =
      ((p.length == 5 && u8 p 0 == 1) || ((p.length == 5 && u8 p 0 == 2)
        || ((p.length != 5 || u8 p 0 == 0 || decide (2 < u8 p 0)) || false))) := rfl
  simp only [h, Bool.or_eq_true, Bool.and_eq_true, beq_iff_eq, bne_iff_ne, decide_eq_true_eq]
  omega

/-- The two Leak Setup rows have every payload between them (R120). -/
theorem requestRows_leakSetup (p : List Byte) : requestRows.any (rowServes 0x30 p) = true := by
  have h : requestRows.any (rowServes 0x30 p) =
      ((p.length == 6 && u8 p 1 == 1) || ((p.length != 6 || u8 p 1 != 1) || false)) := rfl
  simp only [h, Bool.or_eq_true, Bool.and_eq_true, beq_iff_eq, bne_iff_ne]
  omega

/-- Every request kind has a row for every payload; only Scan Setup and Leak Setup have several (R180). -/
theorem requestRows_any : ∀ kind ∈ requestKinds, ∀ p, requestRows.any (rowServes kind p) = true := by
  intro kind hk p
  by_cases hscan : kind = 0x18
  · subst hscan
    exact requestRows_scanSetup p
  by_cases hleak : kind = 0x30
  · subst hleak
    exact requestRows_leakSetup p
  simp only [requestKinds, List.mem_cons, List.not_mem_nil, hscan, hleak, false_or, or_false] at hk
  rcases hk with rfl | rfl | rfl | rfl | rfl | rfl | rfl | rfl | rfl | rfl | rfl | rfl | rfl | rfl | rfl | rfl
    | rfl | rfl | rfl | rfl | rfl | rfl | rfl | rfl | rfl | rfl | rfl | rfl | rfl
  all_goals rfl

theorem Request.exists_row (r : Request) : ∃ c, r.isRow c := by
  by_cases hk : r.kind ∈ requestKinds
  · obtain ⟨row, hrow, hserves⟩ := List.any_eq_true.mp (requestRows_any r.kind hk r.payload)
    obtain ⟨hkind, hp⟩ := Bool.and_eq_true_iff.mp hserves
    exact ⟨_, .inr ⟨row, hrow, (beq_iff_eq.mp hkind).symm, hp, rfl⟩⟩
  · exact ⟨_, .inl ⟨hk, rfl⟩⟩

/-- The row of a request is its execution where it is admitted (R162, R163, assumption 5). -/
theorem Request.isRow.exec_eq {r : Request} {c : Instr} (h : r.isRow c) (s : State) :
    exec c s = whenAdmitted r (fun s => s.execute r) s := by
  obtain ⟨hk, rfl⟩ | ⟨row, hrow, hkind, hp, rfl⟩ := h
  · have hexec : exec (.unknownKind r.kind r.tag r.payload) s =
        whenAdmitted r (State.runUnknownKind r.kind r.tag) s := if_neg (by simpa using hk)
    rw [hexec]
    exact congrArg (whenAdmitted r · s) (funext fun s => (s.execute_unknown hk).symm)
  · have hr : (⟨row.2.1, r.tag, r.payload⟩ : Request) = r := by rw [← hkind]
    have hexec := exec_of_row row hrow r.tag r.payload s hp
    rwa [hr] at hexec

/-! ### One request arrives (R161, R162) -/

theorem State.arrive_executing (s : State) (r : Request) : (s.arrive r).port.executing = s.port.executing := by
  unfold State.arrive State.refuseArrival
  repeat' split
  all_goals rfl

theorem State.arrive_power (s : State) (r : Request) : (s.arrive r).power = s.power := by
  unfold State.arrive State.refuseArrival
  repeat' split
  all_goals rfl

theorem State.serveWaiting_of_served {s : State} (h : s.served) : s.serveWaiting = s := State.serveUpTo_of_served h _

/-- An arrival after which no request can begin. -/
theorem State.arriveOne_of_served {s : State} {r : Request} (h : (s.arrive r).served) :
    s.arriveOne r = (s.arrive r).arbitrate :=
  State.serveWaiting_of_served h.arbitrate

/-- With nothing executing, the one request that waits is executed (R162). -/
theorem State.serveWaiting_one {s : State} {r : Request} (he : s.port.executing = none) (hw : s.port.waiting = [r]) :
    s.serveWaiting = ((s.setPort { s.port with waiting := [] }).execute r).arbitrate := by
  have hnext := s.startNext_of_waiting he hw
  rw [State.serveWaiting_of_waiting he hw, State.serveWaiting_eq_self _ (.inl (State.startNext_waiting he hw)), hnext]

/-- With nothing executing and a slot free, a request is executed at its arrival (R162). -/
theorem State.arriveOne_idle {s : State} {r : Request} (hl : s.lineSound) (he : s.port.executing = none)
    (hw : s.port.waiting = []) (hfree : s.port.slotsHeld < 4) : s.arriveOne r = (s.execute r).arbitrate := by
  have harrived : s.arrive r = s.setPort { s.port with waiting := [r] } := by
    rw [State.arrive, if_pos hfree, hw]
    rfl
  have hsound : (s.arrive r).lineSound := harrived ▸ hl
  have hback : (s.arrive r).setPort { (s.arrive r).port with waiting := [] } = s := by
    rw [harrived]
    exact congrArg s.setPort (show { s.port with waiting := [] } = s.port by rw [← hw])
  rw [State.arriveOne, State.arbitrate_of_lineSound _ hsound,
    State.serveWaiting_one ((s.arrive_executing r).trans he) (by rw [harrived]; rfl), hback]

/-- A request row is the arrival of its request (R161, R162, assumption 5). -/
theorem whenAdmitted_eq_arriveOne {s : State} (hp : s.power = .running) (hl : s.lineSound) (hs : s.served)
    (r : Request) : whenAdmitted r (fun s => s.execute r) s = .next (s.arriveOne r) := by
  cases h : s.admission r with
  | notNow =>
    unfold State.admission at h
    rw [if_pos hp] at h
    repeat' split at h
    all_goals cases h
  | arrives =>
    rw [whenAdmitted, h, State.arriveOne_of_served (State.arrive_served h hs)]
    rfl
  | runs s0 =>
    obtain ⟨-, he, ⟨hw, hfree, rfl⟩ | ⟨rest, hw, -⟩⟩ := State.begins_of_admission h
    · rw [whenAdmitted, h, State.arriveOne_idle hl he hw hfree]
      rfl
    · exact nomatch hw.symm.trans (hs he)

/-- With a slot free while another request executes, a request waits (R162). -/
theorem State.arriveOne_waits {s : State} {r : Request} (hl : s.lineSound) (he : s.port.executing ≠ none)
    (hfree : s.port.slotsHeld < 4) : s.arriveOne r = s.setPort { s.port with waiting := s.port.waiting ++ [r] } := by
  have hserved : (s.arrive r).served := fun h => absurd (s.arrive_executing r ▸ h) he
  have hl' : (s.setPort { s.port with waiting := s.port.waiting ++ [r] }).lineSound := hl
  rw [State.arriveOne_of_served hserved, State.arrive, if_pos hfree, State.arbitrate_of_lineSound _ hl']

/-- With all four slots held a request is refused (R161). -/
theorem State.arriveOne_refused {s : State} {r : Request} (hs : s.served) (hfull : 4 ≤ s.port.slotsHeld) :
    s.arriveOne r = (s.refuseArrival r).arbitrate := by
  have harrive : s.arrive r = s.refuseArrival r := if_neg (Nat.not_lt.mpr hfull)
  have hserved : (s.refuseArrival r).served := by
    unfold State.refuseArrival
    split
    exacts [hs, hs]
  rw [State.arriveOne_of_served (harrive ▸ hserved), harrive]

theorem State.arriveOne_power (s : State) (r : Request) : (s.arriveOne r).power = s.power :=
  ((State.serveWaiting_power _).trans (State.arbitrate_power _)).trans (s.arrive_power r)

/-- Requests that arrive one after another do what their rows do, in order (assumption 5). -/
theorem State.runsRows_arriveOne (rs : List Request) {s : State} (hp : s.power = .running) (hl : s.lineSound)
    (hs : s.served) : s.runsRows rs (rs.foldl State.arriveOne s) := by
  induction rs generalizing s with
  | nil => rfl
  | cons r rs ih =>
    obtain ⟨c, hc⟩ := r.exists_row
    exact ⟨c, s.arriveOne r, hc, (hc.exec_eq s).trans (whenAdmitted_eq_arriveOne hp hl hs r),
      ih ((s.arriveOne_power r).trans hp) (State.arbitrate_lineSound _).serveWaiting (State.serveWaiting_served _)⟩

/-! ### Bytes arrive (R160, R161) -/

/-- The part with the candidate that bytes leave (R160). -/
theorem execFrameArrival_eq {s s1 : State} {bytes : List Byte} (hp : s.power = .running)
    (h1 : s1 = s.setPort { s.port with rx := (receiveBytes s.port.rx bytes).2 }) :
    exec (.frameArrival bytes) s = .next ((receiveBytes s.port.rx bytes).1.foldl State.arriveOne s1) := by
  rw [h1]
  exact if_pos hp

/-- Settles O9: the frames that the bytes complete arrive one after another, each as `State.arriveOne` says. -/
theorem frameArrivalTakesASlot : Obligations.FrameArrivalTakesASlot := by
  refine ⟨fun s bytes hp => if_neg hp, fun s s1 bytes hp h1 => ?received, Request.exists_row,
    fun s r c hp hrx hl hs hlen hc => ?row⟩
  case row =>
    have hframe := receiveBytes_frame r.kind r.tag hlen []
    rw [List.append_nil] at hframe
    have hsame :
        s = s.setPort { s.port with rx := (receiveBytes s.port.rx (frameBytes r.kind r.tag r.payload)).2 } := by
      rw [hrx, hframe]
      exact congrArg s.setPort (show s.port = { s.port with rx := [] } by rw [← hrx])
    rw [execFrameArrival_eq hp hsame, hrx, hframe, hc.exec_eq, whenAdmitted_eq_arriveOne hp hl hs]
    rfl
  case received =>
    have hexec := execFrameArrival_eq hp h1
    refine ⟨fun hnone => ?_, fun r hone hl => ?_, fun hl hs => ⟨_, hexec, ?_⟩⟩
    · rw [hexec, hnone]
      rfl
    · rw [hone] at hexec
      have harrival : exec (.frameArrival bytes) s = .next (s1.arriveOne r) := hexec
      have hl1 : s1.lineSound := h1 ▸ hl
      have hslots : s1.port.slotsHeld = s.port.slotsHeld := by rw [h1]; rfl
      have hexecuting : s1.port.executing = s.port.executing := by rw [h1]; rfl
      have hwaiting : s1.port.waiting = s.port.waiting := by rw [h1]; rfl
      have hreplies : s1.port.portFullWaiting = s.port.portFullWaiting := by rw [h1]; rfl
      have hreset : s1.port.resetDue = s.port.resetDue := by rw [h1]; rfl
      have hp1 : s1.power = .running := h1 ▸ hp
      rw [harrival, ← hslots, ← hexecuting, ← hwaiting, ← hreplies, ← hreset]
      refine ⟨fun hfree he => ?waits, fun hfree he hw c hc => ?executed, fun hfull hs f hf => ?refused⟩
      case waits => rw [State.arriveOne_waits hl1 he hfree]
      case executed => rw [hc.exec_eq, whenAdmitted_eq_arriveOne hp1 hl1 fun _ => hw]
      case refused =>
        have hreply : f = portFullFrame r := hf
        rw [State.arriveOne_refused hs hfull, State.refuseArrival, hreply]
        refine ⟨fun hroom hdue => ?_, fun hroom hdue => ?_, fun hmany => ?_⟩
        · rw [if_pos hroom, State.arbitrate_queueFrame _ _ hdue]
        · rw [if_pos hroom, State.arbitrate_of_busy (s1.queueFrame _) (.inr hdue)]
          rfl
        · rw [if_neg (Nat.not_lt.mpr hmany), State.arbitrate_of_lineSound _ hl1]
    · exact State.runsRows_arriveOne _ (h1 ▸ hp) (h1 ▸ hl) (h1 ▸ hs)

end Sys2Proof.Machine
end

section
/-! The part right after reset (R20, R40, R143, R157, R174) meets what every step keeps. -/

namespace Sys2Proof.Machine

open Sys2Proof

/-! ### What the part holds right after reset (assumption 2) -/

theorem State.reset_engine (t : Trunk) : State.reset.engine t = Engine.start TrunkSettings.default := Table.get_all ..

theorem State.reset_slot (k : SlotId) : State.reset.slot k = .free := Table.get_all ..

theorem State.reset_probe (a : Addr) : State.reset.probe a = ProbeRecord.undefined := Table.get_all ..

theorem State.reset_zone (z : ZoneId) : State.reset.zone z = ZoneRecord.start false ZoneConfig.default :=
  Table.get_all ..

theorem Image.default_trunk (t : Trunk) : Image.default.trunks.get t = TrunkSettings.default := Table.get_all ..

theorem Image.default_zone (z : ZoneId) : Image.default.zones.get z = (false, ZoneConfig.default) := Table.get_all ..

/-! ### Each invariant -/

/-- The port at rest with every order slot FREE (R32, R174). -/
theorem State.reset_portSound : State.reset.portSound where
  frames := State.framesSound_of_start rfl rfl 4
  line := fun _ => .inr ⟨rfl, rfl, rfl⟩
  served := fun _ => rfl

theorem State.reset_storeSound : State.reset.storeSound := fun _ h => nomatch h

theorem State.reset_trunksSound : State.reset.trunksSound := by
  refine ⟨fun t => ?_, fun t => ?_⟩
  · rw [State.reset_engine]
    exact Engine.start_sound TrunkSettings.default_inRange
  · exact (Image.default_trunk t).symm ▸ TrunkSettings.default_inRange

theorem State.reset_scanSound : State.reset.scanSound :=
  ⟨ScanTimer.stopped_sound (by decide) (by decide), by decide, by decide, by decide⟩

theorem State.reset_ordersSound : State.reset.ordersSound :=
  State.ordersSound_of_empty (fun t => by rw [State.reset_engine]; rfl) fun k => .inl (State.reset_slot k)

theorem State.reset_probesSound : State.reset.probesSound := fun a => by
  rw [State.reset_probe]
  exact ProbeRecord.undefined_sound

/-- R50 and R51 speak of the running part. -/
theorem State.reset_agesSound : State.reset.agesSound := fun hrunning => nomatch hrunning

theorem State.reset_mapSound : State.reset.mapSound := ⟨ZoneMap.empty_sound, ZoneMap.empty_sound⟩

theorem State.reset_zonesSound : State.reset.zonesSound := fun z => by
  rw [State.reset_zone]
  exact ZoneRecord.start_sound ..

/-- The settings of the zones in force and in store are the defaults of R173. -/
theorem State.reset_zonesInRange : State.reset.zonesInRange := by
  refine ⟨fun z => ?_, fun z => ?_⟩
  · rw [State.reset_zone]
    exact ZoneRecord.inRange_of_blank ZoneConfig.default_inRange ..
  · exact (Image.default_zone z).symm ▸ ZoneConfig.default_inRange

theorem State.reset_leakSound : State.reset.leakSound :=
  State.unloaded_leakSound .loading [] Image.default_channelsInRange

theorem State.reset_eventsSound : State.reset.eventsSound :=
  State.eventsSound_of_empty rfl ⟨by decide, by decide⟩

/-- Every zone is OFF (R88), so that no record is asked for. -/
theorem State.reset_alarmsRecorded : State.reset.alarmsRecorded := fun z hactive => by
  rw [State.reset_zone] at hactive
  exact hactive.elim nofun nofun

theorem State.reset_linesSound : State.reset.linesSound := State.unloaded_linesSound (by decide) Store.blank []

/-- Settles O60: block by block, each as power just applied leaves it. -/
theorem resetIsSound : Obligations.ResetIsSound := by
  obtain ⟨hnotices, hline, hwire, hslots⟩ := State.reset.portSound_iff.mp State.reset_portSound
  exact ⟨hnotices, hline, hwire, hslots, State.reset_trunksSound, State.reset_scanSound, State.reset_probesSound,
    State.reset_mapSound, State.reset_zonesSound, State.reset_leakSound, State.reset_eventsSound,
    State.reset_alarmsRecorded, State.reset_linesSound, State.reset_storeSound, State.reset_ordersSound,
    State.reset_agesSound, State.reset_zonesInRange⟩

end Sys2Proof.Machine
end

section
/-! The cut of the row (assumption 1): a step is one command, taken from the front of the queue. -/

namespace Sys2Proof.Machine

open Sys2Proof

/-- Settles O1: of the two cases of `step`, the queue that holds a command. -/
theorem stepRunsFrontCommand : Obligations.StepRunsFrontCommand := by
  intro c rest s hpending
  rw [step, hpending]

end Sys2Proof.Machine
end
